-- ==== Sys2Proof/Word.lean ====
section
/-! DEFINITION. The widths of spec/12_data_formats.md (rule R240) under the spec's own names. -/

namespace Sys2Proof

/-- 8 bits: the unit of memory (rule R240). -/
abbrev Byte := BitVec 8

/-- 32 bits: an instruction, a single-precision value, one F register (rules R240, R400). -/
abbrev Word := BitVec 32

/-- 64 bits: an R register, an address, a double-precision value (rules R40, R240). -/
abbrev DWord := BitVec 64

end Sys2Proof
end

