-- ==== Sys2Proof/Config.lean ====
section
/-! DEFINITION. What an implementation fixes (spec/93_implementation_defined.md) and the free values.

A `def` here is a parameter for which the spec itself names the default or the preferred choice; the docstring says which.
An `opaque` constant has no body: the spec gives the parameter no value, nothing in Lean can evaluate it, and a claim about
the model holds whatever it is (assumption log entries 4 to 8 and 20 to 33); `intrIdReset` is a `def` over such a constant, which
makes its values pairwise distinct. The parameters that a power-on reset or the step
itself must be evaluated with, the width of a physical address (`PaWidth`) and the strands of the chip (`Chip`), are plain data
that every state carries, so that a claim about every state is one about every value of them (entries 3 and 6). -/

namespace Sys2Proof

/-- The page sizes of TTE field `sz` (rule R1373). -/
inductive PageSize where
  | p8K | p64K | p4M | p256M
deriving DecidableEq, Repr

/-- The number of bytes of a page (rule R1373). -/
def PageSize.bytes : PageSize → Nat
  | .p8K => 0x2000
  | .p64K => 0x10000
  | .p4M => 0x400000
  | .p256M => 0x10000000

/-- One entry of the abstract TLB (rule R1374). -/
structure TlbEntry where
  /-- `false`: a VA to PA entry; `true`: an RA to PA entry. -/
  real : Bool
  partition : DWord
  /-- Meaningful only where `real = false`. -/
  context : BitVec 16
  /-- The VA or RA of the page's first byte. -/
  base : DWord
  size : PageSize
  /-- The physical address of the page's first byte. -/
  pa : DWord
  nfo : Bool
  ie : Bool
  e : Bool
  cp : Bool
  cv : Bool
  p : Bool
  ep : Bool
  w : Bool
deriving DecidableEq, Repr

/-- What a Tag Access register names: the address and context of a translation (rules R1382, R1383). -/
structure TlbTag where
  real : Bool
  context : BitVec 16
  address : DWord
deriving DecidableEq, Repr, Inhabited

/-- What a hardware tablewalk answers (rules R1380, R1381): an entry to install; no TTE in the configured TSBs; a TTE that holds
a real address hardware cannot translate. -/
inductive Walk where
  | found (e : TlbEntry)
  | notFound
  | invalid
deriving DecidableEq, Repr, Inhabited

/-- The kinds of physical address (rule R266). -/
inductive PhysKind where
  | ram | io | unmapped
deriving DecidableEq, Repr

/-- `PhysAttr` of a physical address (rule R266). `e` and `cp` belong to an access that carries no TTE; they order such an access
and make a PREFETCH of it a NOP (rules R265, R267), which one strand's in-order accesses do anyway (rule R286). -/
structure PhysAttr where
  kind : PhysKind
  e : Bool
  cp : Bool
deriving DecidableEq, Repr

/-- The causes of data_access_exception that `DSFSR.ft` tells apart (rules R1253, R1378, R1383). -/
inductive DaeCause where
  | privilegeViolation | noFaultOnly | sideEffect | noncacheable | invalidAsi
deriving DecidableEq, Repr

/-- The kinds of memory access that `Translate` tells apart (rule R1377). -/
inductive Access where
  | fetch | load | store | atomic | prefetch
deriving DecidableEq, Repr

/-- The width of a physical address, 40 to 56 bits, as the number of bits above 40: the parameter PA_BITS of rules R16 and R1371,
which the spec leaves open. A machine carries its own (`State.paWidth`), so that a claim about every state is one about every width
(assumption log entry 3). -/
abbrev PaWidth : Type := Fin 17

/-- STRAND_ID_LAYOUT (rules R16, R1402, decision D34): the lowest bit of each of the three 6-bit fields of STRAND_ID, whose figure is
lost. -/
structure StrandIdLayout where
  strandId : Fin 59
  maxStrandId : Fin 59
  maxStrandIdPerCore : Fin 59
deriving DecidableEq, Repr

/-- The strands of the chip, as they were made: parameters that no step and no reset changes (rules R16, R1400, R1402, R1404). A
machine carries its own (`State.chip`), so that a claim about every state is one about every chip and every strand of it
(assumption log entry 6). -/
structure Chip where
  /-- The number of the strand the model is. -/
  strand : BitVec 6
  /-- STRAND_AVAILABLE (rule R1404). -/
  available : DWord
  /-- STRAND_ID.max_strand_id_per_core (rule R1402). -/
  maxStrandIdPerCore : BitVec 6
  layout : StrandIdLayout
deriving DecidableEq, Repr

namespace Machine

/-- A bank of `2^k` registers of `w` bits each, selected by a `k`-bit number. -/
abbrev Bank (w k : Nat) : Type := Vector (BitVec w) (2 ^ k)

/-- MMUState (rule R1382): the TLBs of the strand and the registers reached through ASIs 0x21, 0x50, 0x52, 0x54 and 0x58
(rules R1374 to R1384, rows of R342). -/
structure Mmu where
  itlb : List TlbEntry
  dtlb : List TlbEntry
  primaryContext : BitVec 16
  secondaryContext : BitVec 16
  partitionId : DWord
  immuEnable : Bool
  dmmuEnable : Bool
  isfsr : DWord
  dsfsr : DWord
  dsfar : DWord
  itagAccess : DWord
  dtagAccess : DWord
  watch : DWord
  /-- The hardware tablewalk configuration register. -/
  hwtwConfig : DWord
  /-- MMU Real Range 0 to 3. -/
  realRange : Bank 64 2
  /-- MMU Physical Address Offset 0 to 3. -/
  physOffset : Bank 64 2
  /-- Context Zero TSB Configuration 0 to 3, then Context Nonzero TSB Configuration 0 to 3. -/
  tsbConfig : Bank 64 3
  /-- Instruction TSB Pointer 0 to 3, then Data/Unified TSB Pointer 0 to 3. -/
  tsbPointer : Bank 64 3
  tablewalkControl : DWord
  tablewalkStatus : DWord
  /-- The `opaque : platform-defined` part of MMUState: whatever else a platform's MMU holds. -/
  platform : List DWord
deriving DecidableEq, Repr

end Machine

namespace Config

/-! ### Parameters with a value in the spec -/

/-- `PA_BITS` of a machine whose physical addresses have `w` bits more than 40 (rules R16, R1371). -/
def paBits (w : PaWidth) : Nat := 40 + w.val

/-- RSTVADDR (rule R1227, conflict C49): 0xFFFF_FFFF_F000_0000 with the bits above `paBits` dropped. -/
def rstvAddr (w : PaWidth) : DWord := BitVec.ofNat 64 (0xFFFFFFFFF0000000 % 2 ^ paBits w)

/-- `INTR_ID_WRITABLE_MASK` (rule R1403), the spec's default. -/
def intrIdWritableMask : BitVec 16 := 0xFFFF

/-- `ITLB_ENTRIES` (rule R1374), the spec's default: unbounded. -/
def itlbEntries : Option Nat := none

/-- `DTLB_ENTRIES` (rule R1374), the spec's default: unbounded. -/
def dtlbEntries : Option Nat := none

/-- `HWTW` (rule R1380), the spec's default: there is no hardware tablewalk. -/
def hwtw : Bool := false

/-- `SKID_MAX` (rule R1409), the spec's default: a strand parks at once. -/
def skidMax : Nat := 0

/-- `RUNNING_WRITE_MAY_DROP` (rule R1408), the spec's default: of two strands' simultaneous updates of STRAND_RUNNING none is
lost. The step's one strand writes alone, so either value says the same here. -/
def runningWriteMayDrop : Bool := false

/-- `CMT_SINGLE_STRAND_SUBSET` (rule R1414), the spec's default. -/
def cmtSingleStrandSubset : Bool := false

/-- `HYP_SCRATCHPAD_ALIAS` (rule R357), the spec's default: no hyperprivileged scratchpad register is the privileged one. -/
def hypScratchpadAlias (_n : BitVec 3) : Bool := false

/-- `QUEUE_TAIL_PRIV_WRITABLE` (rule R1354, IMPL. DEP. #422-S10): the read-only alternative the spec takes. -/
def queueTailPrivWritable : Bool := false

/-- `SCRATCHPAD_4_7_PRIV = accessible` (rule R356, IMPL. DEP. #404-S10), the spec's default. -/
def scratchpad47Priv : Bool := true

/-- `PAGE_256M_SUPPORTED` (rule R1371), the spec's default. -/
def page256M : Bool := true

/-- `PhysAttr` (rule R266), the spec's default: every physical address is RAM with `e = 0` and `cp = 1`. -/
def physAttr (_pa : DWord) : PhysAttr := ⟨.ram, false, true⟩

/-- The predicate `VAWatch` over the watchpoint register (rule R1384), the spec's default. -/
def vaWatch (_watch _va : DWord) (_acc : Access) : Bool := false

/-- The predicate `PAWatch` over the watchpoint register (rule R1384), the spec's default. -/
def paWatch (_watch _pa : DWord) (_acc : Access) : Bool := false

/-- The predicate `InstrBreakpoint` (rule R1384), the spec's default. -/
def instrBreakpoint (_watch _pc : DWord) (_insn : Word) : Bool := false

/-- `Unfinished(op, operands, FSR)`, the conditions of unfinished_FPop (IMPL. DEP. #248, rule R963) for an instruction's `opf`, its
source operands and all 64 bits of FSR: none, decision D22. -/
def unfinishedFPop (_opf : BitVec 9) (_a _b _fsr : DWord) : Bool := false

/-- `EDGE_IN_HARDWARE` (rule R1062, decision D25), the spec's default. -/
def edgeInHardware : Bool := true

/-! ### Parameters without a value in the spec -/

/-- `FSR_VER`, 0 to 6 (rule R61). -/
opaque fsrVer : Fin 7

/-- HVER.manuf (rule R205, IMPL. DEP. #104). -/
opaque manuf : BitVec 16

/-- HVER.impl (rule R205, IMPL. DEP. #13): 0xFFF0 and above are reserved. -/
opaque impl : Fin 0xFFF0

/-- HVER.mask (rule R205). -/
opaque mask : BitVec 8

/-- The permutation of all interrupt IDs behind `intrIdReset`: every choice of pairwise distinct IDs for the strands extends to one. -/
opaque intrIdOrder : Equiv.Perm (BitVec 16)

/-- `INTR_ID_RESET(strand)`, pairwise distinct (rules R16, R1403, R1456). -/
def intrIdReset (strand : BitVec 6) : BitVec 16 := intrIdOrder (strand.setWidth 16)

/-- The priority of fast_ECC_error times 100 (IMPL. DEP. #35, rules R1220, R1299). -/
opaque fastEccErrorPriority : Nat

/-- The priority of sw_recoverable_error times 100: the spec has none (rules R1220, R1288). -/
opaque swRecoverableErrorPriority : Nat

/-- `ENABLE_ZERO_GUARD` of IMPL. DEP. #323-U4 (rule R1406). -/
opaque enableZeroGuard : Bool

/-- `ENABLE_ZERO_VALUE` of IMPL. DEP. #323-U4 (rule R1406), before it is limited to the chip's strands (`enableZeroValue`). -/
opaque enableZeroMask : DWord

/-- `XIR_STEERING_WRITABLE` of IMPL. DEP. #325-U4 (rule R1412). -/
opaque xirSteeringWritable : DWord

/-- `DSFAR_ON_MISALIGN` of IMPL. DEP. #237-U3 (rule R1383): whether DSFAR captures the address when a JMPL or RETURN takes
mem_address_not_aligned. A misaligned load's or store's address is always captured. -/
opaque dsfarOnMisalign : Bool

/-- The implemented bits of the partition ID register (`PID_BITS`, rule R1375). -/
opaque partitionIdMask : DWord

/-- Bits 63:6 of `QUEUE_REG_MASK`; bits 5:0 are 0 (rule R1355). -/
opaque queueRegMaskHigh : BitVec 58

/-- IMPL. DEP. #425-S10: whether TICK counts while the strand is parked (rule R1407). -/
opaque tickCountsWhileParked : Bool

/-- `MMULdxa(MMUState, asi, va)` (rules R17, R1382): the value an LDXA of an MMU register answers, `none` for
data_access_exception. Consulted for every row of rule R1382 that may be read and that the rule does not fix. -/
opaque mmuLdxa : Machine.Mmu → (asi : Byte) → (va : DWord) → Option DWord

/-- How a tag and a Tag Access register's value correspond (rules R1382, R1383). -/
opaque tagAccessEncode : TlbTag → DWord

/-- The reverse of `tagAccessEncode`, as the data-in stores read the register (rule R1382). -/
opaque tagAccessDecode : DWord → TlbTag

/-- The `ft` code, less 1, of the data_access_exception causes other than the no-fault-only one: the code is platform-defined and
nonzero (rule R1383). -/
opaque dsfsrCode : DaeCause → Fin 255

/-- `Tablewalk(mmu_state, memory, kind, ctx, va)` (rule R1381); `fetch` is its kind. -/
opaque tablewalk : Machine.Mmu → List Host.Cell → (fetch : Bool) → (ctx : BitVec 16) → (va : DWord) → Walk

/-- Which entry, as a position in the list, leaves a full TLB for a new one: the environment's choice (rule R1374). -/
opaque tlbVictim : List TlbEntry → Nat

/-- DSFSR after a data_access_exception: its `ft` field set to the code given; the field's place is in no document. -/
opaque dsfsrWithFt : (ft : Byte) → (old : DWord) → DWord

/-! ### Free values (each is applied to a counter the state advances; see `State.freeCount`) -/

/-- The environment's choice of how far TICK advances beyond the least a step advances it (rules R74, R1480). -/
opaque tickAdvance : Nat → Nat

/-- The environment's choice of how far STICK advances (rules R84, R1480). -/
opaque stickAdvance : Nat → Nat

/-- A value the spec calls undefined after an instruction (Y after a divide, ARRAY8 of an illegal size, MULScc's high half,
the context of DTLB Tag Access after data_access_exception). -/
opaque freeWord : Nat → DWord

/-- The answer of an I/O location to a load or a fetch of `n` bytes (rule R266). -/
opaque deviceRead : Nat → (pa : DWord) → (n : Nat) → DWord

/-- The hyperprivileged scratchpad registers after a warm or an externally initiated reset (rule R357). -/
opaque freeScratchpad : Nat → BitVec 3 → DWord

end Config

end Sys2Proof
end

