-- ==== Sys2Proof/Machine/Chip.lean ====
section
/-! DEFINITION. The strands of a chip: the masks that name them and the read-only registers that describe them (rules R1402, R1404,
R1406, R1456). -/

namespace Sys2Proof.Machine

/-! ### Masks of strands -/

/-- The lowest bit that is set. -/
def lowestBit (v : DWord) : DWord := v &&& -v

/-- The number of the lowest bit that is set. -/
def lowestIndex (v : DWord) : Nat := (List.range 64).findIdx fun n => v.getLsbD n

/-- The number of the highest bit that is set. -/
def highestIndex (v : DWord) : Nat := 63 - (List.range 64).findIdx fun n => v.getLsbD (63 - n)

/-- The bit of the model's own strand in every mask of strands (rule R1402). -/
def ownMask (c : Chip) : DWord := 1#64 <<< c.strand.toNat

/-- A mask names the model's own strand. -/
def namesOwn (c : Chip) (mask : DWord) : Bool := mask &&& ownMask c != 0

/-! ### What a chip may be -/

/-- Two 6-bit fields share no bit. -/
def fieldsApart (p q : Fin 59) : Bool := decide (p.val + 6 ≤ q.val) || decide (q.val + 6 ≤ p.val)

/-- The three fields of STRAND_ID are disjoint (decision D34). -/
def layoutLegal (l : StrandIdLayout) : Bool :=
  fieldsApart l.strandId l.maxStrandId && fieldsApart l.strandId l.maxStrandIdPerCore
    && fieldsApart l.maxStrandId l.maxStrandIdPerCore

/-- The strand is available, so STRAND_AVAILABLE is not zero (rules R16, R1404), and the fields of STRAND_ID are disjoint. -/
def chipLegal (c : Chip) : Bool := namesOwn c c.available && layoutLegal c.layout

/-- One strand, number 0, with the places that rule R1402 and decision D34 offer a model for the fields of STRAND_ID; it reads as the
single-strand subset of rule R1414 does. -/
def singleStrand : Chip where
  strand := 0
  available := 1
  maxStrandIdPerCore := 0
  layout := ⟨0, 16, 32⟩

/-! ### Registers that describe the strands -/

/-- STRAND_ID (rule R1402): its three fields; every other bit reads 0. -/
def strandIdBits (c : Chip) : DWord :=
  (c.strand.setWidth 64 <<< c.layout.strandId.val)
    ||| (BitVec.ofNat 64 (highestIndex c.available) <<< c.layout.maxStrandId.val)
    ||| (c.maxStrandIdPerCore.setWidth 64 <<< c.layout.maxStrandIdPerCore.val)

/-- `ENABLE_ZERO_VALUE` (rule R1406): a value that enables at least one of the available strands. -/
def enableZeroValue (c : Chip) : DWord :=
  if Config.enableZeroMask &&& c.available = 0 then lowestBit c.available else Config.enableZeroMask &&& c.available

end Sys2Proof.Machine
end

