-- ==== Sys2Proof/Machine/State.lean ====
section
/-! DEFINITION. The state of the machine: every register, table and memory that spec/10_state.md, spec/11_state_privileged.md,
spec/21_asi.md, spec/61_interrupts_mmu_cmt.md and spec/20_memory.md give one strand and its chip, and the state after a
power-on reset (rules R1455, R1456, R1458).

A register is a structure of its implemented fields; the bits a register reserves are not stored, so they read as zero by
construction (rule R45). Machine/Fields.lean packs and unpacks the 64-bit values software sees. -/

namespace Sys2Proof.Machine

/-- Memory (rule R260): the bytes that differ from what an unlisted address reads as, at strictly rising physical addresses. -/
abbrev Memory : Type := List Host.Cell

/-- One set of integer condition codes (rule R72). -/
structure CC where
  n : Bool
  z : Bool
  v : Bool
  c : Bool
deriving DecidableEq, Repr

/-- CCR, ASR 2 (rule R72). -/
structure Ccr where
  xcc : CC
  icc : CC
deriving DecidableEq, Repr

/-- The five IEEE 754 exceptions, in the bit order nv of uf dz nx of FSR.tem, aexc and cexc (rules R59, R64, R65). -/
structure IeeeFlags where
  nv : Bool
  of : Bool
  uf : Bool
  dz : Bool
  nx : Bool
deriving DecidableEq, Repr

/-- FSR without its constant field `ver` and its fields that always read 0, `ns` and `qne` (rules R55 to R65). -/
structure Fsr where
  fcc3 : BitVec 2
  fcc2 : BitVec 2
  fcc1 : BitVec 2
  fcc0 : BitVec 2
  rd : BitVec 2
  tem : IeeeFlags
  ftt : BitVec 3
  aexc : IeeeFlags
  cexc : IeeeFlags
deriving DecidableEq, Repr

/-- FPRS, ASR 6 (rule R76). -/
structure Fprs where
  fef : Bool
  du : Bool
  dl : Bool
deriving DecidableEq, Repr

/-- GSR, ASR 19 (rule R79). -/
structure Gsr where
  mask : BitVec 32
  im : Bool
  irnd : BitVec 2
  scale : BitVec 5
  align : BitVec 3
deriving DecidableEq, Repr

/-- PCR, ASR 16 (rule R77, decision D19). -/
structure Pcr where
  su : BitVec 6
  sl : BitVec 6
  ut : Bool
  st : Bool
  priv : Bool
deriving DecidableEq, Repr

/-- TICK (rule R74) or STICK (rule R84). -/
structure Counter where
  npt : Bool
  counter : BitVec 63
deriving DecidableEq, Repr

/-- TICK_CMPR, STICK_CMPR or HSTICK_CMPR (rules R83, R85, R206). -/
structure Compare where
  intDis : Bool
  value : BitVec 63
deriving DecidableEq, Repr

/-- PSTATE (rules R170 to R179); `mm` is the constant 00 (rule R173) and is not stored. -/
structure Pstate where
  tct : Bool
  cle : Bool
  tle : Bool
  pef : Bool
  am : Bool
  priv : Bool
  ie : Bool
deriving DecidableEq, Repr

/-- HPSTATE (rule R201). -/
structure Hpstate where
  ibe : Bool
  red : Bool
  hpriv : Bool
  tlz : Bool
deriving DecidableEq, Repr

/-- TSTATE (rule R163). -/
structure Tstate where
  gl : BitVec 3
  ccr : Ccr
  asi : Byte
  pstate : Pstate
  cwp : BitVec 3
deriving DecidableEq, Repr

/-- One entry of the trap stack: TPC, TNPC, TSTATE, TT and HTSTATE of a trap level (rules R161 to R164, R202). -/
structure TrapFrame where
  /-- Bits 63:2 of TPC. -/
  tpc : BitVec 62
  /-- Bits 63:2 of TNPC. -/
  tnpc : BitVec 62
  tstate : Tstate
  tt : BitVec 9
  htstate : Hpstate
  /-- MODEL: the instruction at TPC stands in a delay slot, so that a RETRY to it resumes there (rule R1462 U1). -/
  delaySlot : Bool
deriving DecidableEq, Repr

/-- The register-window state registers, PR 9 to 14 (rules R140 to R146). -/
structure WindowRegs where
  cwp : BitVec 3
  cansave : BitVec 3
  canrestore : BitVec 3
  cleanwin : BitVec 3
  otherwin : BitVec 3
  /-- WSTATE.other. -/
  wother : BitVec 3
  /-- WSTATE.normal. -/
  wnormal : BitVec 3
deriving DecidableEq, Repr

/-- The CMT registers that hold state (rules R1403 to R1413). -/
structure Cmt where
  enable : DWord
  enableStatus : DWord
  running : DWord
  runningStatus : DWord
  xirSteering : DWord
  intrId : BitVec 16
  /-- ERROR_STEERING.target_id (rule R1413): no address reaches it, only a reset writes it. -/
  errorSteering : BitVec 6
deriving DecidableEq, Repr

/-- MODEL: the flags of the undefined cases U4, U6, U7 and U8 of rule R1462, in which execution goes on: each is set when the
case arises and stays set, so that a claim can exclude it. -/
structure UndefinedCases where
  /-- `UB_WrhprInDelaySlot` (U4): a WRHPR in a delay slot changed HPSTATE.hpriv from 1 to 0 or wrote 0 to HPSTATE.red. -/
  wrhprInDelaySlot : Bool
  /-- `UB_GuestTLTooHigh` (U6): a step began outside hyperprivileged mode with TL > MAXPTL. -/
  guestTlTooHigh : Bool
  /-- `UB_UserTLNonzero` (U7): a step began in nonprivileged mode with TL > 0. -/
  userTlNonzero : Bool
  /-- `UB_GuestGLTooHigh` (U8): a step began outside hyperprivileged mode with GL > MAXPGL. -/
  guestGlTooHigh : Bool
deriving DecidableEq, Repr

/-- A hardware error detected in the course of the instruction at PC: its trap is precise (rules R1252, R1267, R1272, R1299). -/
inductive PreciseError where
  | instructionAccess
  | dataAccess
  /-- The priority (times 100) is the platform's and may vary with the cause (IMPL. DEP. #402). -/
  | internalProcessor (priority : Nat)
  | fastEcc
deriving DecidableEq, Repr

/-- The hardware errors that the environment has reported to a strand (rules R13, R1206, assumption log entry 39). -/
structure ErrorConditions where
  /-- Of the instruction at PC: it is gone once the strand has made a step. -/
  precise : Option PreciseError
  /-- Of a store past its retirement point, a deferred trap: pending until taken (rule R1287). -/
  storeError : Bool
  /-- A disrupting condition: it persists until it is cleared (rules R1206, R1288). -/
  swRecoverable : Bool
deriving DecidableEq, Repr

/-- The whole machine. Fields marked MODEL are the model's own bookkeeping, not the spec's. -/
structure State where
  /-- G[gl][k] at index `gl * 8 + k` (rules R40, R41, R44). -/
  globals : Bank 64 5
  /-- W[w].in[k] at index `w * 16 + k` and W[w].local[k] at `w * 16 + 8 + k` (rules R40, R42). -/
  windows : Bank 64 7
  pc : DWord
  npc : DWord
  /-- F[0] to F[63] (rules R50, R51). -/
  fregs : Bank 32 6
  fsr : Fsr
  y : Word
  ccr : Ccr
  asi : Byte
  tick : Counter
  fprs : Fprs
  pcr : Pcr
  pic : DWord
  gsr : Gsr
  softint : BitVec 17
  tickCmpr : Compare
  stick : Counter
  stickCmpr : Compare
  win : WindowRegs
  /-- Entry `n` is trap level `n`; only entries 1 to MAXTL are ever the current one (rule R160). -/
  trapStack : Vector TrapFrame 8
  /-- TBA bits 63:15 (rule R166). -/
  tba : BitVec 49
  pstate : Pstate
  tl : BitVec 3
  pil : BitVec 4
  /-- GL holds 0 to MAXGL = 3 (rules R182, R207). -/
  gl : BitVec 2
  hpstate : Hpstate
  /-- HINTP.hsp (rule R203). -/
  hsp : Bool
  /-- HTBA bits 63:14 (rule R204). -/
  htba : BitVec 50
  hstickCmpr : Compare
  scratchpad : Bank 64 3
  hypScratchpad : Bank 64 3
  /-- The queue registers in the order of their addresses: head then tail of CPU mondo, device mondo, resumable error,
  nonresumable error (rule R1354). -/
  queues : Bank 64 3
  mmu : Mmu
  cmt : Cmt
  /-- STRAND_INTR_ID of every other strand of the chip, at the strand's number; the entry at the model's own number is not used
(rule R1403). -/
  peerIntrIds : Bank 16 6
  /-- An XIR steered to this strand and not yet taken (rules R1453, R1412). -/
  xirPending : Bool
  /-- Hardware errors reported to this strand (rules R11, R13). -/
  errors : ErrorConditions
  memory : Memory
  /-- The machine's PA_BITS, a constant that no step changes (rules R16, R260, R1371). -/
  paWidth : PaWidth
  /-- The machine's strands, constants that no step changes (rules R16, R1402, R1404). -/
  chip : Chip
  /-- MODEL: how many free values the run has drawn; the next is `Config.freeWord freeCount`. -/
  freeCount : Nat
  /-- MODEL: the priority times 100 of the exception the last instruction took, `none` where it took none; the step
  weighs it against pending disrupting traps (rule R1201). -/
  lastTrap : Option Nat
  /-- MODEL: the next instruction stands in the delay slot of a control-transfer instruction (undefined case U1 of
  rule R1462). -/
  delaySlot : Bool
  /-- MODEL: STICK was written and has not advanced since (rule R84: the next read is at least 1 more). -/
  stickWritten : Bool
  /-- MODEL: which undefined cases have arisen. -/
  undefinedCases : UndefinedCases
deriving DecidableEq, Repr

/-- Why the machine stops where the spec calls the state itself undefined. -/
inductive Fault where
  /-- `UB_RedNotHpriv`, raised by `step` alone: HPSTATE.red = 1 with HPSTATE.hpriv = 0, "an undefined operational state"
  (rules R201, R1462 U5). Safe: no claim is made beyond the stop. -/
  | redWithoutHpriv
deriving DecidableEq, Repr

/-- Why an instruction has no next state. -/
inductive Refusal where
  /-- Raised by an arm of `exec` whose instruction has no meaning yet. Safe. -/
  | notModelled (mnemonic : String)
  /-- `UB_DoneRetryInDelaySlot`, raised by DONE and RETRY in the delay slot of a control-transfer instruction, which "produces
  undefined results" (rule R1462 U1: refuse). Safe. -/
  | doneRetryInDelaySlot
  /-- Raised by `fabricDelivers` alone, never by a step: an interrupt is issued to an ID that two strands have, "the behavior of the
  processor is undefined" (rules R1403, R1462 U13: refuse). Safe. -/
  | duplicateInterruptId
  /-- Raised by `fabricDelivers` alone, never by a step: an interrupt is issued to a disabled strand, "undefined" (rule R1357).
  Safe. -/
  | interruptToDisabledStrand
  /-- Raised by `steeredError` alone, never by a step: ERROR_STEERING names this strand and it is disabled, "the behavior of the
  specified disabled virtual processor is undefined" (rule R1413). Safe. -/
  | errorToDisabledStrand
deriving DecidableEq, Repr

/-- Integer condition codes all zero. -/
def CC.zero : CC := ⟨false, false, false, false⟩

/-- No IEEE 754 exception. -/
def IeeeFlags.none : IeeeFlags := ⟨false, false, false, false, false⟩

/-- A trap-stack entry of zeros: what the model gives the entries POR leaves undefined (assumption log entry 1). -/
def TrapFrame.zero : TrapFrame where
  tpc := 0
  tnpc := 0
  tstate := ⟨0, ⟨CC.zero, CC.zero⟩, 0, ⟨false, false, false, false, false, false, false⟩, 0⟩
  tt := 0
  htstate := ⟨false, false, false, false⟩
  delaySlot := false

/-- No hardware error is reported. -/
def ErrorConditions.none : ErrorConditions := ⟨Option.none, false, false⟩

/-- No undefined case has arisen. -/
def UndefinedCases.none : UndefinedCases := ⟨false, false, false, false⟩

/-- PSTATE after every reset, with the `tle` given (rule R1455). -/
def Pstate.afterReset (tle : Bool) : Pstate := ⟨false, false, tle, true, false, false, false⟩

/-- HPSTATE after every reset (rule R1455). -/
def Hpstate.afterReset : Hpstate := ⟨false, true, true, false⟩

/-- The CMT registers after POR (rules R1413, R1456): the lowest-numbered available strand runs. -/
def Cmt.afterPor (c : Chip) : Cmt where
  enable := c.available
  enableStatus := c.available
  running := lowestBit c.available
  runningStatus := lowestBit c.available
  xirSteering := c.available
  intrId := Config.intrIdReset c.strand
  errorSteering := BitVec.ofNat 6 (lowestIndex c.available)

/-- The MMU after POR: TLBs empty, translation off, the registers POR leaves undefined zero (rule R1455, assumption log
entry 1). -/
def Mmu.afterPor : Mmu where
  itlb := []
  dtlb := []
  primaryContext := 0
  secondaryContext := 0
  partitionId := 0
  immuEnable := false
  dmmuEnable := false
  isfsr := 0
  dsfsr := 0
  dsfar := 0
  itagAccess := 0
  dtagAccess := 0
  watch := 0
  hwtwConfig := 0
  realRange := Vector.replicate 4 0
  physOffset := Vector.replicate 4 0
  tsbConfig := Vector.replicate 8 0
  tsbPointer := Vector.replicate 8 0
  tablewalkControl := 0
  tablewalkStatus := 0
  platform := []

/-- The machine of the given PA_BITS and strands after a power-on reset (rules R1455, R1456, R1458). Every value the POR column
calls undefined is 0 here (assumption log entry 1). -/
def State.resetOf (w : PaWidth) (c : Chip) : State where
  globals := Vector.replicate 32 0
  windows := Vector.replicate 128 0
  pc := Config.rstvAddr w + 0x20
  npc := Config.rstvAddr w + 0x24
  fregs := Vector.replicate 64 0
  fsr := ⟨0, 0, 0, 0, 0, IeeeFlags.none, 0, IeeeFlags.none, IeeeFlags.none⟩
  y := 0
  ccr := ⟨CC.zero, CC.zero⟩
  asi := 0
  tick := ⟨true, 0⟩
  fprs := ⟨false, false, false⟩
  pcr := ⟨0, 0, false, false, false⟩
  pic := 0
  gsr := ⟨0, false, 0, 0, 0⟩
  softint := 0
  tickCmpr := ⟨true, 0⟩
  stick := ⟨true, 0⟩
  stickCmpr := ⟨true, 0⟩
  win := ⟨0, 0, 0, 0, 0, 0, 0⟩
  trapStack := (Vector.replicate 8 TrapFrame.zero).set 6 { TrapFrame.zero with tt := 1 }
  tba := 0
  pstate := Pstate.afterReset false
  tl := 6
  pil := 0
  gl := 3
  hpstate := Hpstate.afterReset
  hsp := false
  htba := 0
  hstickCmpr := ⟨true, 0⟩
  scratchpad := Vector.replicate 8 0
  hypScratchpad := Vector.replicate 8 0
  queues := Vector.replicate 8 0
  mmu := Mmu.afterPor
  cmt := Cmt.afterPor c
  peerIntrIds := Vector.ofFn fun n => Config.intrIdReset (BitVec.ofNat 6 n.val)
  xirPending := false
  errors := ErrorConditions.none
  memory := []
  paWidth := w
  chip := c
  freeCount := 0
  lastTrap := none
  delaySlot := false
  stickWritten := false
  undefinedCases := UndefinedCases.none

/-- The machine after a power-on reset. One state has one width and one chip: PA_BITS is 47 here, the width TABLE 16-1 prints
RSTVADDR with (rule R1227, assumption log entry 3), and the chip has one strand (entry 6). -/
def State.reset : State := State.resetOf 7 singleStrand

end Sys2Proof.Machine
end

