-- ==== Sys2Proof/Machine/Fields.lean ====
section
/-! DEFINITION. The 64-bit values software reads and writes, and the fields of Machine/State.lean they hold: one `…Bits`
and one `…OfBits` per register. Bits a register does not implement read 0 and are dropped on a write (rule R45). -/

namespace Sys2Proof.Machine

/-- One bit. -/
def bit (b : Bool) : BitVec 1 := BitVec.ofBool b

/-- Bit `i` of a value as a flag. -/
def flagAt {w : Nat} (v : BitVec w) (i : Nat) : Bool := v.getLsbD i

/-- The lower 32 bits zero-extended: what the hardware keeps of an address when PSTATE.am = 1 (rule R176). -/
def low32 (a : DWord) : DWord := (a.extractLsb' 0 32).setWidth 64

/-! ### Condition codes, CCR (rule R72) -/

/-- n z v c, n most significant. -/
def ccBits (c : CC) : BitVec 4 := bit c.n ++ bit c.z ++ bit c.v ++ bit c.c

/-- See `ccBits`. -/
def ccOfBits (v : BitVec 4) : CC := ⟨flagAt v 3, flagAt v 2, flagAt v 1, flagAt v 0⟩

/-- xcc in bits 7:4, icc in bits 3:0. -/
def ccrBits (c : Ccr) : Byte := ccBits c.xcc ++ ccBits c.icc

/-- See `ccrBits`. -/
def ccrOfBits (v : Byte) : Ccr := ⟨ccOfBits (v.extractLsb' 4 4), ccOfBits (v.extractLsb' 0 4)⟩

/-! ### FSR (rules R55 to R65) -/

/-- nv of uf dz nx, nv most significant. -/
def ieeeBits (f : IeeeFlags) : BitVec 5 := bit f.nv ++ bit f.of ++ bit f.uf ++ bit f.dz ++ bit f.nx

/-- See `ieeeBits`. -/
def ieeeOfBits (v : BitVec 5) : IeeeFlags := ⟨flagAt v 4, flagAt v 3, flagAt v 2, flagAt v 1, flagAt v 0⟩

/-- FSR bits 31:0; `ns` (22) and `qne` (13) read 0, `ver` is the constant of the implementation (rule R55). -/
def fsrLowBits (f : Fsr) : Word :=
  f.rd ++ 0#2 ++ ieeeBits f.tem ++ 0#3 ++ BitVec.ofFin (w := 3) ⟨Config.fsrVer.val, by omega⟩ ++ f.ftt ++ 0#2 ++ f.fcc0
    ++ ieeeBits f.aexc ++ ieeeBits f.cexc

/-- All 64 bits of FSR, as STXFSR stores them (rule R55). -/
def fsrBits (f : Fsr) : DWord := 0#26 ++ f.fcc3 ++ f.fcc2 ++ f.fcc1 ++ fsrLowBits f

/-- What LDFSR loads: `rd`, `tem`, `fcc0`, `aexc`, `cexc` (rule R57). -/
def fsrLoadLow (f : Fsr) (v : Word) : Fsr :=
  { f with
    rd := v.extractLsb' 30 2
    tem := ieeeOfBits (v.extractLsb' 23 5)
    fcc0 := v.extractLsb' 10 2
    aexc := ieeeOfBits (v.extractLsb' 5 5)
    cexc := ieeeOfBits (v.extractLsb' 0 5) }

/-- What LDXFSR loads: the fields of LDFSR and `fcc1` to `fcc3` (rule R57). -/
def fsrLoad (f : Fsr) (v : DWord) : Fsr :=
  { fsrLoadLow f (v.extractLsb' 0 32) with
    fcc1 := v.extractLsb' 32 2
    fcc2 := v.extractLsb' 34 2
    fcc3 := v.extractLsb' 36 2 }

/-- FSR.fcc[n] (rule R58). -/
def fsrFcc (f : Fsr) (n : BitVec 2) : BitVec 2 :=
  if n = 0 then f.fcc0 else if n = 1 then f.fcc1 else if n = 2 then f.fcc2 else f.fcc3

/-- FSR with fcc[n] replaced (rule R58). -/
def fsrSetFcc (f : Fsr) (n v : BitVec 2) : Fsr :=
  if n = 0 then { f with fcc0 := v } else if n = 1 then { f with fcc1 := v }
  else if n = 2 then { f with fcc2 := v } else { f with fcc3 := v }

/-! ### The other ancillary registers -/

/-- FPRS (rule R76). -/
def fprsBits (f : Fprs) : BitVec 3 := bit f.fef ++ bit f.du ++ bit f.dl

/-- See `fprsBits`. -/
def fprsOfBits (v : BitVec 3) : Fprs := ⟨flagAt v 2, flagAt v 1, flagAt v 0⟩

/-- GSR (rule R79). -/
def gsrBits (g : Gsr) : DWord := g.mask ++ 0#4 ++ bit g.im ++ g.irnd ++ 0#17 ++ g.scale ++ g.align

/-- See `gsrBits`. -/
def gsrOfBits (v : DWord) : Gsr :=
  ⟨v.extractLsb' 32 32, flagAt v 27, v.extractLsb' 25 2, v.extractLsb' 3 5, v.extractLsb' 0 3⟩

/-- PCR (rule R77): `su` 16:11, `sl` 9:4, `ut` 2, `st` 1, `priv` 0. -/
def pcrBits (p : Pcr) : DWord := 0#47 ++ p.su ++ 0#1 ++ p.sl ++ 0#1 ++ bit p.ut ++ bit p.st ++ bit p.priv

/-- See `pcrBits`. -/
def pcrOfBits (v : DWord) : Pcr :=
  ⟨v.extractLsb' 11 6, v.extractLsb' 4 6, flagAt v 2, flagAt v 1, flagAt v 0⟩

/-- TICK or STICK (rules R74, R84). -/
def counterBits (c : Counter) : DWord := bit c.npt ++ c.counter

/-- See `counterBits`. -/
def counterOfBits (v : DWord) : Counter := ⟨flagAt v 63, v.extractLsb' 0 63⟩

/-- A compare register (rules R83, R85, R206). -/
def compareBits (c : Compare) : DWord := bit c.intDis ++ c.value

/-- See `compareBits`. -/
def compareOfBits (v : DWord) : Compare := ⟨flagAt v 63, v.extractLsb' 0 63⟩

/-! ### Privileged registers -/

/-- PSTATE's 13 bits (rule R170); `mm` reads 00 (rule R173). -/
def pstateBits (p : Pstate) : BitVec 13 :=
  bit p.tct ++ 0#2 ++ bit p.cle ++ bit p.tle ++ 0#3 ++ bit p.pef ++ bit p.am ++ bit p.priv ++ bit p.ie ++ 0#1

/-- See `pstateBits`: the `mm` bits and the reserved bits are dropped. -/
def pstateOfBits (v : BitVec 13) : Pstate :=
  ⟨flagAt v 12, flagAt v 9, flagAt v 8, flagAt v 4, flagAt v 3, flagAt v 2, flagAt v 1⟩

/-- HPSTATE's 11 bits (rule R201). -/
def hpstateBits (h : Hpstate) : BitVec 11 :=
  bit h.ibe ++ 0#4 ++ bit h.red ++ 0#2 ++ bit h.hpriv ++ 0#1 ++ bit h.tlz

/-- See `hpstateBits`. -/
def hpstateOfBits (v : BitVec 11) : Hpstate := ⟨flagAt v 10, flagAt v 5, flagAt v 2, flagAt v 0⟩

/-- TSTATE (rule R163). -/
def tstateBits (t : Tstate) : DWord :=
  0#21 ++ t.gl ++ ccrBits t.ccr ++ t.asi ++ 0#3 ++ pstateBits t.pstate ++ 0#5 ++ t.cwp

/-- See `tstateBits`. -/
def tstateOfBits (v : DWord) : Tstate :=
  ⟨v.extractLsb' 40 3, ccrOfBits (v.extractLsb' 32 8), v.extractLsb' 24 8, pstateOfBits (v.extractLsb' 8 13),
    v.extractLsb' 0 3⟩

/-- A word address from the 62 bits TPC and TNPC keep (rule R161). -/
def addressOfHigh62 (a : BitVec 62) : DWord := a ++ 0#2

/-- The 62 bits TPC and TNPC keep of an address (rule R161). -/
def high62 (a : DWord) : BitVec 62 := a.extractLsb' 2 62

/-- WSTATE (rule R146). -/
def wstateBits (w : WindowRegs) : BitVec 6 := w.wother ++ w.wnormal

/-- HVER (rule R205): MAXGL = 3, MAXTL = 6, N_REG_WINDOWS - 1 = 7. -/
def hver : DWord := Config.manuf ++ BitVec.ofNat 16 Config.impl.val ++ Config.mask ++ 0#4 ++ 3#4 ++ 6#8 ++ 0#3 ++ 7#5

end Sys2Proof.Machine
end

