-- ==== Sys2Proof/Syntax.lean ====
section
/-! DEFINITION. The instruction set as syntax: one constructor of `Instr` for each row of spec/opcode_table.json, with the
operand forms the formats of spec/30_encoding.md (rules R403 to R424) give it. Reserved bits are not operands: the decoder
refuses a word in which one is set (rule R431), so a term of `Instr` never holds one. -/

namespace Sys2Proof

/-- FMT3_RR / FMT3_RI (rule R408): the second operand is `R[rs2]` (`i = 0`) or a sign-extended 13-bit constant (`i = 1`). -/
inductive RegOrImm13 where
  | reg (rs2 : BitVec 5)
  | imm (simm13 : BitVec 13)
deriving DecidableEq, Repr

/-- FMT4_MOVCC (rule R412): `R[rs2]` or a sign-extended 11-bit constant. -/
inductive RegOrImm11 where
  | reg (rs2 : BitVec 5)
  | imm (simm11 : BitVec 11)
deriving DecidableEq, Repr

/-- FMT4_MOVR (rule R413): `R[rs2]` or a sign-extended 10-bit constant. -/
inductive RegOrImm10 where
  | reg (rs2 : BitVec 5)
  | imm (simm10 : BitVec 10)
deriving DecidableEq, Repr

/-- FMT3_SH with `x = 0` (rule R409): the count is `R[rs2]` or the constant `shcnt32`. -/
inductive Count32 where
  | reg (rs2 : BitVec 5)
  | imm (shcnt32 : BitVec 5)
deriving DecidableEq, Repr

/-- FMT3_SH with `x = 1` (rule R409): the count is `R[rs2]` or the constant `shcnt64`. -/
inductive Count64 where
  | reg (rs2 : BitVec 5)
  | imm (shcnt64 : BitVec 6)
deriving DecidableEq, Repr

/-- FMT3_ASI (rule R420): `i = 0` names `R[rs2]` and an immediate ASI, `i = 1` a 13-bit displacement and the ASI register. -/
inductive AsiOperand where
  | reg (rs2 : BitVec 5) (asi : BitVec 8)
  | imm (simm13 : BitVec 13)
deriving DecidableEq, Repr

/-- CASA and CASXA (rule R420): the ASI is immediate (`i = 0`) or the ASI register (`i = 1`). -/
inductive AsiSelect where
  | imm (asi : BitVec 8)
  | asiReg
deriving DecidableEq, Repr

/-- The integer condition codes an instruction may name (rules R462, R463); the other values are reserved. -/
inductive IccSelect where
  | icc
  | xcc
deriving DecidableEq, Repr

/-- FMT4_TCC (rule R414): `R[rs2]` or the 8-bit software trap number. -/
inductive TrapOperand where
  | reg (rs2 : BitVec 5)
  | imm (number : BitVec 8)
deriving DecidableEq, Repr

/-- Every instruction of spec/opcode_table.json, in the table's order. -/
inductive Instr where
  /-- ADD, rule R474. -/
  | add (rd : BitVec 5) (rs1 : BitVec 5) (op2 : RegOrImm13)
  /-- ADDcc, rule R475. -/
  | addcc (rd : BitVec 5) (rs1 : BitVec 5) (op2 : RegOrImm13)
  /-- AND, rule R478. -/
  | and (rd : BitVec 5) (rs1 : BitVec 5) (op2 : RegOrImm13)
  /-- ANDcc, rule R479. -/
  | andcc (rd : BitVec 5) (rs1 : BitVec 5) (op2 : RegOrImm13)
  /-- OR, rule R482. -/
  | or (rd : BitVec 5) (rs1 : BitVec 5) (op2 : RegOrImm13)
  /-- ORcc, rule R483. -/
  | orcc (rd : BitVec 5) (rs1 : BitVec 5) (op2 : RegOrImm13)
  /-- XOR, rule R486. -/
  | xor (rd : BitVec 5) (rs1 : BitVec 5) (op2 : RegOrImm13)
  /-- XORcc, rule R487. -/
  | xorcc (rd : BitVec 5) (rs1 : BitVec 5) (op2 : RegOrImm13)
  /-- SUB, rule R490. -/
  | sub (rd : BitVec 5) (rs1 : BitVec 5) (op2 : RegOrImm13)
  /-- SUBcc, rule R491. -/
  | subcc (rd : BitVec 5) (rs1 : BitVec 5) (op2 : RegOrImm13)
  /-- ANDN, rule R480. -/
  | andn (rd : BitVec 5) (rs1 : BitVec 5) (op2 : RegOrImm13)
  /-- ANDNcc, rule R481. -/
  | andncc (rd : BitVec 5) (rs1 : BitVec 5) (op2 : RegOrImm13)
  /-- ORN, rule R484. -/
  | orn (rd : BitVec 5) (rs1 : BitVec 5) (op2 : RegOrImm13)
  /-- ORNcc, rule R485. -/
  | orncc (rd : BitVec 5) (rs1 : BitVec 5) (op2 : RegOrImm13)
  /-- XNOR, rule R488. -/
  | xnor (rd : BitVec 5) (rs1 : BitVec 5) (op2 : RegOrImm13)
  /-- XNORcc, rule R489. -/
  | xnorcc (rd : BitVec 5) (rs1 : BitVec 5) (op2 : RegOrImm13)
  /-- ADDC, rule R476. -/
  | addc (rd : BitVec 5) (rs1 : BitVec 5) (op2 : RegOrImm13)
  /-- ADDCcc, rule R477. -/
  | addccc (rd : BitVec 5) (rs1 : BitVec 5) (op2 : RegOrImm13)
  /-- SUBC, rule R492. -/
  | subc (rd : BitVec 5) (rs1 : BitVec 5) (op2 : RegOrImm13)
  /-- SUBCcc, rule R493. -/
  | subccc (rd : BitVec 5) (rs1 : BitVec 5) (op2 : RegOrImm13)
  /-- MULX, rule R500. -/
  | mulx (rd : BitVec 5) (rs1 : BitVec 5) (op2 : RegOrImm13)
  /-- SDIVX, rule R501. -/
  | sdivx (rd : BitVec 5) (rs1 : BitVec 5) (op2 : RegOrImm13)
  /-- UDIVX, rule R502. -/
  | udivx (rd : BitVec 5) (rs1 : BitVec 5) (op2 : RegOrImm13)
  /-- UMUL, rule R503. -/
  | umul (rd : BitVec 5) (rs1 : BitVec 5) (op2 : RegOrImm13)
  /-- SMUL, rule R504. -/
  | smul (rd : BitVec 5) (rs1 : BitVec 5) (op2 : RegOrImm13)
  /-- UMULcc, rule R505. -/
  | umulcc (rd : BitVec 5) (rs1 : BitVec 5) (op2 : RegOrImm13)
  /-- SMULcc, rule R506. -/
  | smulcc (rd : BitVec 5) (rs1 : BitVec 5) (op2 : RegOrImm13)
  /-- UDIV, rule R507. -/
  | udiv (rd : BitVec 5) (rs1 : BitVec 5) (op2 : RegOrImm13)
  /-- SDIV, rule R508. -/
  | sdiv (rd : BitVec 5) (rs1 : BitVec 5) (op2 : RegOrImm13)
  /-- UDIVcc, rule R509. -/
  | udivcc (rd : BitVec 5) (rs1 : BitVec 5) (op2 : RegOrImm13)
  /-- SDIVcc, rule R510. -/
  | sdivcc (rd : BitVec 5) (rs1 : BitVec 5) (op2 : RegOrImm13)
  /-- MULScc, rule R511. -/
  | mulscc (rd : BitVec 5) (rs1 : BitVec 5) (op2 : RegOrImm13)
  /-- TADDcc, rule R512. -/
  | taddcc (rd : BitVec 5) (rs1 : BitVec 5) (op2 : RegOrImm13)
  /-- TADDccTV, rule R513. -/
  | taddcctv (rd : BitVec 5) (rs1 : BitVec 5) (op2 : RegOrImm13)
  /-- TSUBcc, rule R514. -/
  | tsubcc (rd : BitVec 5) (rs1 : BitVec 5) (op2 : RegOrImm13)
  /-- TSUBccTV, rule R515. -/
  | tsubcctv (rd : BitVec 5) (rs1 : BitVec 5) (op2 : RegOrImm13)
  /-- SLL, rule R494. -/
  | sll (rd : BitVec 5) (rs1 : BitVec 5) (count : Count32)
  /-- SLLX, rule R497. -/
  | sllx (rd : BitVec 5) (rs1 : BitVec 5) (count : Count64)
  /-- SRL, rule R495. -/
  | srl (rd : BitVec 5) (rs1 : BitVec 5) (count : Count32)
  /-- SRLX, rule R498. -/
  | srlx (rd : BitVec 5) (rs1 : BitVec 5) (count : Count64)
  /-- SRA, rule R496. -/
  | sra (rd : BitVec 5) (rs1 : BitVec 5) (count : Count32)
  /-- SRAX, rule R499. -/
  | srax (rd : BitVec 5) (rs1 : BitVec 5) (count : Count64)
  /-- SETHI, rule R516. -/
  | sethi (rd : BitVec 5) (imm22 : BitVec 22)
  /-- NOP, rule R517. -/
  | nop
  /-- POPC, rule R518. -/
  | popc (rd : BitVec 5) (op2 : RegOrImm13)
  /-- MOVA, rule R520. -/
  | mova (rd : BitVec 5) (cc : IccSelect) (op2 : RegOrImm11)
  /-- MOVN, rule R521. -/
  | movn (rd : BitVec 5) (cc : IccSelect) (op2 : RegOrImm11)
  /-- MOVNE, rule R522. -/
  | movne (rd : BitVec 5) (cc : IccSelect) (op2 : RegOrImm11)
  /-- MOVE, rule R523. -/
  | move (rd : BitVec 5) (cc : IccSelect) (op2 : RegOrImm11)
  /-- MOVG, rule R524. -/
  | movg (rd : BitVec 5) (cc : IccSelect) (op2 : RegOrImm11)
  /-- MOVLE, rule R525. -/
  | movle (rd : BitVec 5) (cc : IccSelect) (op2 : RegOrImm11)
  /-- MOVGE, rule R526. -/
  | movge (rd : BitVec 5) (cc : IccSelect) (op2 : RegOrImm11)
  /-- MOVL, rule R527. -/
  | movl (rd : BitVec 5) (cc : IccSelect) (op2 : RegOrImm11)
  /-- MOVGU, rule R528. -/
  | movgu (rd : BitVec 5) (cc : IccSelect) (op2 : RegOrImm11)
  /-- MOVLEU, rule R529. -/
  | movleu (rd : BitVec 5) (cc : IccSelect) (op2 : RegOrImm11)
  /-- MOVCC, rule R530. -/
  | movcc (rd : BitVec 5) (cc : IccSelect) (op2 : RegOrImm11)
  /-- MOVCS, rule R531. -/
  | movcs (rd : BitVec 5) (cc : IccSelect) (op2 : RegOrImm11)
  /-- MOVPOS, rule R532. -/
  | movpos (rd : BitVec 5) (cc : IccSelect) (op2 : RegOrImm11)
  /-- MOVNEG, rule R533. -/
  | movneg (rd : BitVec 5) (cc : IccSelect) (op2 : RegOrImm11)
  /-- MOVVC, rule R534. -/
  | movvc (rd : BitVec 5) (cc : IccSelect) (op2 : RegOrImm11)
  /-- MOVVS, rule R535. -/
  | movvs (rd : BitVec 5) (cc : IccSelect) (op2 : RegOrImm11)
  /-- MOVFA, rule R536. -/
  | movfa (rd : BitVec 5) (cc : BitVec 2) (op2 : RegOrImm11)
  /-- MOVFN, rule R537. -/
  | movfn (rd : BitVec 5) (cc : BitVec 2) (op2 : RegOrImm11)
  /-- MOVFU, rule R538. -/
  | movfu (rd : BitVec 5) (cc : BitVec 2) (op2 : RegOrImm11)
  /-- MOVFG, rule R539. -/
  | movfg (rd : BitVec 5) (cc : BitVec 2) (op2 : RegOrImm11)
  /-- MOVFUG, rule R540. -/
  | movfug (rd : BitVec 5) (cc : BitVec 2) (op2 : RegOrImm11)
  /-- MOVFL, rule R541. -/
  | movfl (rd : BitVec 5) (cc : BitVec 2) (op2 : RegOrImm11)
  /-- MOVFUL, rule R542. -/
  | movful (rd : BitVec 5) (cc : BitVec 2) (op2 : RegOrImm11)
  /-- MOVFLG, rule R543. -/
  | movflg (rd : BitVec 5) (cc : BitVec 2) (op2 : RegOrImm11)
  /-- MOVFNE, rule R544. -/
  | movfne (rd : BitVec 5) (cc : BitVec 2) (op2 : RegOrImm11)
  /-- MOVFE, rule R545. -/
  | movfe (rd : BitVec 5) (cc : BitVec 2) (op2 : RegOrImm11)
  /-- MOVFUE, rule R546. -/
  | movfue (rd : BitVec 5) (cc : BitVec 2) (op2 : RegOrImm11)
  /-- MOVFGE, rule R547. -/
  | movfge (rd : BitVec 5) (cc : BitVec 2) (op2 : RegOrImm11)
  /-- MOVFUGE, rule R548. -/
  | movfuge (rd : BitVec 5) (cc : BitVec 2) (op2 : RegOrImm11)
  /-- MOVFLE, rule R549. -/
  | movfle (rd : BitVec 5) (cc : BitVec 2) (op2 : RegOrImm11)
  /-- MOVFULE, rule R550. -/
  | movfule (rd : BitVec 5) (cc : BitVec 2) (op2 : RegOrImm11)
  /-- MOVFO, rule R551. -/
  | movfo (rd : BitVec 5) (cc : BitVec 2) (op2 : RegOrImm11)
  /-- MOVRZ, rule R553. -/
  | movrz (rd : BitVec 5) (rs1 : BitVec 5) (op2 : RegOrImm10)
  /-- MOVRLEZ, rule R554. -/
  | movrlez (rd : BitVec 5) (rs1 : BitVec 5) (op2 : RegOrImm10)
  /-- MOVRLZ, rule R555. -/
  | movrlz (rd : BitVec 5) (rs1 : BitVec 5) (op2 : RegOrImm10)
  /-- MOVRNZ, rule R556. -/
  | movrnz (rd : BitVec 5) (rs1 : BitVec 5) (op2 : RegOrImm10)
  /-- MOVRGZ, rule R557. -/
  | movrgz (rd : BitVec 5) (rs1 : BitVec 5) (op2 : RegOrImm10)
  /-- MOVRGEZ, rule R558. -/
  | movrgez (rd : BitVec 5) (rs1 : BitVec 5) (op2 : RegOrImm10)
  /-- BA, rule R607. -/
  | ba (a : BitVec 1) (disp22 : BitVec 22)
  /-- BN, rule R608. -/
  | bn (a : BitVec 1) (disp22 : BitVec 22)
  /-- BNE, rule R609. -/
  | bne (a : BitVec 1) (disp22 : BitVec 22)
  /-- BE, rule R610. -/
  | be (a : BitVec 1) (disp22 : BitVec 22)
  /-- BG, rule R611. -/
  | bg (a : BitVec 1) (disp22 : BitVec 22)
  /-- BLE, rule R612. -/
  | ble (a : BitVec 1) (disp22 : BitVec 22)
  /-- BGE, rule R613. -/
  | bge (a : BitVec 1) (disp22 : BitVec 22)
  /-- BL, rule R614. -/
  | bl (a : BitVec 1) (disp22 : BitVec 22)
  /-- BGU, rule R615. -/
  | bgu (a : BitVec 1) (disp22 : BitVec 22)
  /-- BLEU, rule R616. -/
  | bleu (a : BitVec 1) (disp22 : BitVec 22)
  /-- BCC, rule R617. -/
  | bcc (a : BitVec 1) (disp22 : BitVec 22)
  /-- BCS, rule R618. -/
  | bcs (a : BitVec 1) (disp22 : BitVec 22)
  /-- BPOS, rule R619. -/
  | bpos (a : BitVec 1) (disp22 : BitVec 22)
  /-- BNEG, rule R620. -/
  | bneg (a : BitVec 1) (disp22 : BitVec 22)
  /-- BVC, rule R621. -/
  | bvc (a : BitVec 1) (disp22 : BitVec 22)
  /-- BVS, rule R622. -/
  | bvs (a : BitVec 1) (disp22 : BitVec 22)
  /-- BPA, rule R624. -/
  | bpa (a : BitVec 1) (cc : IccSelect) (p : BitVec 1) (disp19 : BitVec 19)
  /-- BPN, rule R625. -/
  | bpn (a : BitVec 1) (cc : IccSelect) (p : BitVec 1) (disp19 : BitVec 19)
  /-- BPNE, rule R626. -/
  | bpne (a : BitVec 1) (cc : IccSelect) (p : BitVec 1) (disp19 : BitVec 19)
  /-- BPE, rule R627. -/
  | bpe (a : BitVec 1) (cc : IccSelect) (p : BitVec 1) (disp19 : BitVec 19)
  /-- BPG, rule R628. -/
  | bpg (a : BitVec 1) (cc : IccSelect) (p : BitVec 1) (disp19 : BitVec 19)
  /-- BPLE, rule R629. -/
  | bple (a : BitVec 1) (cc : IccSelect) (p : BitVec 1) (disp19 : BitVec 19)
  /-- BPGE, rule R630. -/
  | bpge (a : BitVec 1) (cc : IccSelect) (p : BitVec 1) (disp19 : BitVec 19)
  /-- BPL, rule R631. -/
  | bpl (a : BitVec 1) (cc : IccSelect) (p : BitVec 1) (disp19 : BitVec 19)
  /-- BPGU, rule R632. -/
  | bpgu (a : BitVec 1) (cc : IccSelect) (p : BitVec 1) (disp19 : BitVec 19)
  /-- BPLEU, rule R633. -/
  | bpleu (a : BitVec 1) (cc : IccSelect) (p : BitVec 1) (disp19 : BitVec 19)
  /-- BPCC, rule R634. -/
  | bpcc (a : BitVec 1) (cc : IccSelect) (p : BitVec 1) (disp19 : BitVec 19)
  /-- BPCS, rule R635. -/
  | bpcs (a : BitVec 1) (cc : IccSelect) (p : BitVec 1) (disp19 : BitVec 19)
  /-- BPPOS, rule R636. -/
  | bppos (a : BitVec 1) (cc : IccSelect) (p : BitVec 1) (disp19 : BitVec 19)
  /-- BPNEG, rule R637. -/
  | bpneg (a : BitVec 1) (cc : IccSelect) (p : BitVec 1) (disp19 : BitVec 19)
  /-- BPVC, rule R638. -/
  | bpvc (a : BitVec 1) (cc : IccSelect) (p : BitVec 1) (disp19 : BitVec 19)
  /-- BPVS, rule R639. -/
  | bpvs (a : BitVec 1) (cc : IccSelect) (p : BitVec 1) (disp19 : BitVec 19)
  /-- BRZ, rule R641. -/
  | brz (a : BitVec 1) (p : BitVec 1) (rs1 : BitVec 5) (disp16 : BitVec 16)
  /-- BRLEZ, rule R642. -/
  | brlez (a : BitVec 1) (p : BitVec 1) (rs1 : BitVec 5) (disp16 : BitVec 16)
  /-- BRLZ, rule R643. -/
  | brlz (a : BitVec 1) (p : BitVec 1) (rs1 : BitVec 5) (disp16 : BitVec 16)
  /-- BRNZ, rule R644. -/
  | brnz (a : BitVec 1) (p : BitVec 1) (rs1 : BitVec 5) (disp16 : BitVec 16)
  /-- BRGZ, rule R645. -/
  | brgz (a : BitVec 1) (p : BitVec 1) (rs1 : BitVec 5) (disp16 : BitVec 16)
  /-- BRGEZ, rule R646. -/
  | brgez (a : BitVec 1) (p : BitVec 1) (rs1 : BitVec 5) (disp16 : BitVec 16)
  /-- CALL, rule R647. -/
  | call (disp30 : BitVec 30)
  /-- FBA, rule R648. -/
  | fba (a : BitVec 1) (disp22 : BitVec 22)
  /-- FBN, rule R649. -/
  | fbn (a : BitVec 1) (disp22 : BitVec 22)
  /-- FBU, rule R650. -/
  | fbu (a : BitVec 1) (disp22 : BitVec 22)
  /-- FBG, rule R651. -/
  | fbg (a : BitVec 1) (disp22 : BitVec 22)
  /-- FBUG, rule R652. -/
  | fbug (a : BitVec 1) (disp22 : BitVec 22)
  /-- FBL, rule R653. -/
  | fbl (a : BitVec 1) (disp22 : BitVec 22)
  /-- FBUL, rule R654. -/
  | fbul (a : BitVec 1) (disp22 : BitVec 22)
  /-- FBLG, rule R655. -/
  | fblg (a : BitVec 1) (disp22 : BitVec 22)
  /-- FBNE, rule R656. -/
  | fbne (a : BitVec 1) (disp22 : BitVec 22)
  /-- FBE, rule R657. -/
  | fbe (a : BitVec 1) (disp22 : BitVec 22)
  /-- FBUE, rule R658. -/
  | fbue (a : BitVec 1) (disp22 : BitVec 22)
  /-- FBGE, rule R659. -/
  | fbge (a : BitVec 1) (disp22 : BitVec 22)
  /-- FBUGE, rule R660. -/
  | fbuge (a : BitVec 1) (disp22 : BitVec 22)
  /-- FBLE, rule R661. -/
  | fble (a : BitVec 1) (disp22 : BitVec 22)
  /-- FBULE, rule R662. -/
  | fbule (a : BitVec 1) (disp22 : BitVec 22)
  /-- FBO, rule R663. -/
  | fbo (a : BitVec 1) (disp22 : BitVec 22)
  /-- FBPA, rule R665. -/
  | fbpa (a : BitVec 1) (cc : BitVec 2) (p : BitVec 1) (disp19 : BitVec 19)
  /-- FBPN, rule R666. -/
  | fbpn (a : BitVec 1) (cc : BitVec 2) (p : BitVec 1) (disp19 : BitVec 19)
  /-- FBPU, rule R667. -/
  | fbpu (a : BitVec 1) (cc : BitVec 2) (p : BitVec 1) (disp19 : BitVec 19)
  /-- FBPG, rule R668. -/
  | fbpg (a : BitVec 1) (cc : BitVec 2) (p : BitVec 1) (disp19 : BitVec 19)
  /-- FBPUG, rule R669. -/
  | fbpug (a : BitVec 1) (cc : BitVec 2) (p : BitVec 1) (disp19 : BitVec 19)
  /-- FBPL, rule R670. -/
  | fbpl (a : BitVec 1) (cc : BitVec 2) (p : BitVec 1) (disp19 : BitVec 19)
  /-- FBPUL, rule R671. -/
  | fbpul (a : BitVec 1) (cc : BitVec 2) (p : BitVec 1) (disp19 : BitVec 19)
  /-- FBPLG, rule R672. -/
  | fbplg (a : BitVec 1) (cc : BitVec 2) (p : BitVec 1) (disp19 : BitVec 19)
  /-- FBPNE, rule R673. -/
  | fbpne (a : BitVec 1) (cc : BitVec 2) (p : BitVec 1) (disp19 : BitVec 19)
  /-- FBPE, rule R674. -/
  | fbpe (a : BitVec 1) (cc : BitVec 2) (p : BitVec 1) (disp19 : BitVec 19)
  /-- FBPUE, rule R675. -/
  | fbpue (a : BitVec 1) (cc : BitVec 2) (p : BitVec 1) (disp19 : BitVec 19)
  /-- FBPGE, rule R676. -/
  | fbpge (a : BitVec 1) (cc : BitVec 2) (p : BitVec 1) (disp19 : BitVec 19)
  /-- FBPUGE, rule R677. -/
  | fbpuge (a : BitVec 1) (cc : BitVec 2) (p : BitVec 1) (disp19 : BitVec 19)
  /-- FBPLE, rule R678. -/
  | fbple (a : BitVec 1) (cc : BitVec 2) (p : BitVec 1) (disp19 : BitVec 19)
  /-- FBPULE, rule R679. -/
  | fbpule (a : BitVec 1) (cc : BitVec 2) (p : BitVec 1) (disp19 : BitVec 19)
  /-- FBPO, rule R680. -/
  | fbpo (a : BitVec 1) (cc : BitVec 2) (p : BitVec 1) (disp19 : BitVec 19)
  /-- ILLTRAP, rule R681. -/
  | illtrap (const22 : BitVec 22)
  /-- JMPL, rule R682. -/
  | jmpl (rd : BitVec 5) (rs1 : BitVec 5) (op2 : RegOrImm13)
  /-- RETURN, rule R683. -/
  | return_ (rs1 : BitVec 5) (op2 : RegOrImm13)
  /-- TA, rule R685. -/
  | ta (cc : IccSelect) (rs1 : BitVec 5) (op2 : TrapOperand)
  /-- TN, rule R686. -/
  | tn (cc : IccSelect) (rs1 : BitVec 5) (op2 : TrapOperand)
  /-- TNE, rule R687. -/
  | tne (cc : IccSelect) (rs1 : BitVec 5) (op2 : TrapOperand)
  /-- TE, rule R688. -/
  | te (cc : IccSelect) (rs1 : BitVec 5) (op2 : TrapOperand)
  /-- TG, rule R689. -/
  | tg (cc : IccSelect) (rs1 : BitVec 5) (op2 : TrapOperand)
  /-- TLE, rule R690. -/
  | tle (cc : IccSelect) (rs1 : BitVec 5) (op2 : TrapOperand)
  /-- TGE, rule R691. -/
  | tge (cc : IccSelect) (rs1 : BitVec 5) (op2 : TrapOperand)
  /-- TL, rule R692. -/
  | tl (cc : IccSelect) (rs1 : BitVec 5) (op2 : TrapOperand)
  /-- TGU, rule R693. -/
  | tgu (cc : IccSelect) (rs1 : BitVec 5) (op2 : TrapOperand)
  /-- TLEU, rule R694. -/
  | tleu (cc : IccSelect) (rs1 : BitVec 5) (op2 : TrapOperand)
  /-- TCC, rule R695. -/
  | tcc (cc : IccSelect) (rs1 : BitVec 5) (op2 : TrapOperand)
  /-- TCS, rule R696. -/
  | tcs (cc : IccSelect) (rs1 : BitVec 5) (op2 : TrapOperand)
  /-- TPOS, rule R697. -/
  | tpos (cc : IccSelect) (rs1 : BitVec 5) (op2 : TrapOperand)
  /-- TNEG, rule R698. -/
  | tneg (cc : IccSelect) (rs1 : BitVec 5) (op2 : TrapOperand)
  /-- TVC, rule R699. -/
  | tvc (cc : IccSelect) (rs1 : BitVec 5) (op2 : TrapOperand)
  /-- TVS, rule R700. -/
  | tvs (cc : IccSelect) (rs1 : BitVec 5) (op2 : TrapOperand)
  /-- DONE, rule R701. -/
  | done
  /-- RETRY, rule R702. -/
  | retry
  /-- LDSB, rule R740. -/
  | ldsb (rd : BitVec 5) (rs1 : BitVec 5) (op2 : RegOrImm13)
  /-- LDSH, rule R741. -/
  | ldsh (rd : BitVec 5) (rs1 : BitVec 5) (op2 : RegOrImm13)
  /-- LDSW, rule R742. -/
  | ldsw (rd : BitVec 5) (rs1 : BitVec 5) (op2 : RegOrImm13)
  /-- LDUB, rule R743. -/
  | ldub (rd : BitVec 5) (rs1 : BitVec 5) (op2 : RegOrImm13)
  /-- LDUH, rule R744. -/
  | lduh (rd : BitVec 5) (rs1 : BitVec 5) (op2 : RegOrImm13)
  /-- LDUW, rule R745. -/
  | lduw (rd : BitVec 5) (rs1 : BitVec 5) (op2 : RegOrImm13)
  /-- LDX, rule R746. -/
  | ldx (rd : BitVec 5) (rs1 : BitVec 5) (op2 : RegOrImm13)
  /-- LDSBA, rule R747. -/
  | ldsba (rd : BitVec 5) (rs1 : BitVec 5) (ea : AsiOperand)
  /-- LDSHA, rule R747. -/
  | ldsha (rd : BitVec 5) (rs1 : BitVec 5) (ea : AsiOperand)
  /-- LDSWA, rule R747. -/
  | ldswa (rd : BitVec 5) (rs1 : BitVec 5) (ea : AsiOperand)
  /-- LDUBA, rule R747. -/
  | lduba (rd : BitVec 5) (rs1 : BitVec 5) (ea : AsiOperand)
  /-- LDUHA, rule R747. -/
  | lduha (rd : BitVec 5) (rs1 : BitVec 5) (ea : AsiOperand)
  /-- LDUWA, rule R747. -/
  | lduwa (rd : BitVec 5) (rs1 : BitVec 5) (ea : AsiOperand)
  /-- LDXA, rule R747. -/
  | ldxa (rd : BitVec 5) (rs1 : BitVec 5) (ea : AsiOperand)
  /-- LDTW, rule R750. -/
  | ldtw (rd : BitVec 5) (rs1 : BitVec 5) (op2 : RegOrImm13)
  /-- LDTWA, rule R751. -/
  | ldtwa (rd : BitVec 5) (rs1 : BitVec 5) (ea : AsiOperand)
  /-- LDTXA, rule R752. -/
  | ldtxa (rd : BitVec 5) (rs1 : BitVec 5) (rs2 : BitVec 5) (asi : BitVec 8)
  /-- STB, rule R755. -/
  | stb (rd : BitVec 5) (rs1 : BitVec 5) (op2 : RegOrImm13)
  /-- STH, rule R756. -/
  | sth (rd : BitVec 5) (rs1 : BitVec 5) (op2 : RegOrImm13)
  /-- STW, rule R757. -/
  | stw (rd : BitVec 5) (rs1 : BitVec 5) (op2 : RegOrImm13)
  /-- STX, rule R758. -/
  | stx (rd : BitVec 5) (rs1 : BitVec 5) (op2 : RegOrImm13)
  /-- STBA, rule R759. -/
  | stba (rd : BitVec 5) (rs1 : BitVec 5) (ea : AsiOperand)
  /-- STHA, rule R759. -/
  | stha (rd : BitVec 5) (rs1 : BitVec 5) (ea : AsiOperand)
  /-- STWA, rule R759. -/
  | stwa (rd : BitVec 5) (rs1 : BitVec 5) (ea : AsiOperand)
  /-- STXA, rule R759. -/
  | stxa (rd : BitVec 5) (rs1 : BitVec 5) (ea : AsiOperand)
  /-- STTW, rule R760. -/
  | sttw (rd : BitVec 5) (rs1 : BitVec 5) (op2 : RegOrImm13)
  /-- STTWA, rule R761. -/
  | sttwa (rd : BitVec 5) (rs1 : BitVec 5) (ea : AsiOperand)
  /-- LDSTUB, rule R766. -/
  | ldstub (rd : BitVec 5) (rs1 : BitVec 5) (op2 : RegOrImm13)
  /-- LDSTUBA, rule R767. -/
  | ldstuba (rd : BitVec 5) (rs1 : BitVec 5) (ea : AsiOperand)
  /-- SWAP, rule R768. -/
  | swap (rd : BitVec 5) (rs1 : BitVec 5) (op2 : RegOrImm13)
  /-- SWAPA, rule R769. -/
  | swapa (rd : BitVec 5) (rs1 : BitVec 5) (ea : AsiOperand)
  /-- CASA, rule R770. -/
  | casa (rd : BitVec 5) (rs1 : BitVec 5) (rs2 : BitVec 5) (sel : AsiSelect)
  /-- CASXA, rule R771. -/
  | casxa (rd : BitVec 5) (rs1 : BitVec 5) (rs2 : BitVec 5) (sel : AsiSelect)
  /-- PREFETCH, rule R775. -/
  | prefetch (fcn : BitVec 5) (rs1 : BitVec 5) (op2 : RegOrImm13)
  /-- PREFETCHA, rule R775. -/
  | prefetcha (fcn : BitVec 5) (rs1 : BitVec 5) (ea : AsiOperand)
  /-- MEMBAR, rule R780. -/
  | membar (cmask : BitVec 3) (mmask : BitVec 4)
  /-- STBAR, rule R782. -/
  | stbar
  /-- FLUSH, rule R785. -/
  | flush (rs1 : BitVec 5) (op2 : RegOrImm13)
  /-- LDF, rule R835. -/
  | ldf (rd : BitVec 5) (rs1 : BitVec 5) (op2 : RegOrImm13)
  /-- LDDF, rule R836. -/
  | lddf (rd : BitVec 5) (rs1 : BitVec 5) (op2 : RegOrImm13)
  /-- LDXFSR, rule R837. -/
  | ldxfsr (rs1 : BitVec 5) (op2 : RegOrImm13)
  /-- LDQF, rule R838. -/
  | ldqf (rd : BitVec 5) (rs1 : BitVec 5) (op2 : RegOrImm13)
  /-- LDFSR, rule R839. -/
  | ldfsr (rs1 : BitVec 5) (op2 : RegOrImm13)
  /-- LDFA, rule R840. -/
  | ldfa (rd : BitVec 5) (rs1 : BitVec 5) (ea : AsiOperand)
  /-- LDDFA, rule R841. -/
  | lddfa (rd : BitVec 5) (rs1 : BitVec 5) (ea : AsiOperand)
  /-- LDQFA, rule R842. -/
  | ldqfa (rd : BitVec 5) (rs1 : BitVec 5) (ea : AsiOperand)
  /-- LDBLOCKF, rule R843. -/
  | ldblockf (rd : BitVec 5) (rs1 : BitVec 5) (rs2 : BitVec 5) (asi : BitVec 8)
  /-- LDSHORTF, rule R844. -/
  | ldshortf (rd : BitVec 5) (rs1 : BitVec 5) (rs2 : BitVec 5) (asi : BitVec 8)
  /-- STF, rule R845. -/
  | stf (rd : BitVec 5) (rs1 : BitVec 5) (op2 : RegOrImm13)
  /-- STDF, rule R846. -/
  | stdf (rd : BitVec 5) (rs1 : BitVec 5) (op2 : RegOrImm13)
  /-- STXFSR, rule R847. -/
  | stxfsr (rs1 : BitVec 5) (op2 : RegOrImm13)
  /-- STQF, rule R848. -/
  | stqf (rd : BitVec 5) (rs1 : BitVec 5) (op2 : RegOrImm13)
  /-- STFSR, rule R849. -/
  | stfsr (rs1 : BitVec 5) (op2 : RegOrImm13)
  /-- STFA, rule R850. -/
  | stfa (rd : BitVec 5) (rs1 : BitVec 5) (ea : AsiOperand)
  /-- STDFA, rule R851. -/
  | stdfa (rd : BitVec 5) (rs1 : BitVec 5) (ea : AsiOperand)
  /-- STBLOCKF, rule R852. -/
  | stblockf (rd : BitVec 5) (rs1 : BitVec 5) (rs2 : BitVec 5) (asi : BitVec 8)
  /-- STSHORTF, rule R853. -/
  | stshortf (rd : BitVec 5) (rs1 : BitVec 5) (rs2 : BitVec 5) (asi : BitVec 8)
  /-- STPARTIALF, rule R854. -/
  | stpartialf (rd : BitVec 5) (rs1 : BitVec 5) (rs2 : BitVec 5) (asi : BitVec 8)
  /-- STQFA, rule R855. -/
  | stqfa (rd : BitVec 5) (rs1 : BitVec 5) (ea : AsiOperand)
  /-- SAVE, rule R881. -/
  | save (rd : BitVec 5) (rs1 : BitVec 5) (op2 : RegOrImm13)
  /-- RESTORE, rule R882. -/
  | restore (rd : BitVec 5) (rs1 : BitVec 5) (op2 : RegOrImm13)
  /-- SAVED, rule R883. -/
  | saved
  /-- RESTORED, rule R884. -/
  | restored
  /-- ALLCLEAN, rule R886. -/
  | allclean
  /-- OTHERW, rule R889. -/
  | otherw
  /-- NORMALW, rule R888. -/
  | normalw
  /-- INVALW, rule R887. -/
  | invalw
  /-- FLUSHW, rule R885. -/
  | flushw
  /-- RDY, rule R896. -/
  | rdy (rd : BitVec 5)
  /-- RDCCR, rule R897. -/
  | rdccr (rd : BitVec 5)
  /-- RDASI, rule R898. -/
  | rdasi (rd : BitVec 5)
  /-- RDTICK, rule R899. -/
  | rdtick (rd : BitVec 5)
  /-- RDPC, rule R900. -/
  | rdpc (rd : BitVec 5)
  /-- RDFPRS, rule R901. -/
  | rdfprs (rd : BitVec 5)
  /-- RDPCR, rule R902. -/
  | rdpcr (rd : BitVec 5)
  /-- RDPIC, rule R903. -/
  | rdpic (rd : BitVec 5)
  /-- RDGSR, rule R904. -/
  | rdgsr (rd : BitVec 5)
  /-- RDSOFTINT, rule R905. -/
  | rdsoftint (rd : BitVec 5)
  /-- RDTICK_CMPR, rule R906. -/
  | rdtick_cmpr (rd : BitVec 5)
  /-- RDSTICK, rule R907. -/
  | rdstick (rd : BitVec 5)
  /-- RDSTICK_CMPR, rule R908. -/
  | rdstick_cmpr (rd : BitVec 5)
  /-- WRY, rule R913. -/
  | wry (rs1 : BitVec 5) (op2 : RegOrImm13)
  /-- WRCCR, rule R914. -/
  | wrccr (rs1 : BitVec 5) (op2 : RegOrImm13)
  /-- WRASI, rule R915. -/
  | wrasi (rs1 : BitVec 5) (op2 : RegOrImm13)
  /-- WRFPRS, rule R916. -/
  | wrfprs (rs1 : BitVec 5) (op2 : RegOrImm13)
  /-- WRPCR, rule R917. -/
  | wrpcr (rs1 : BitVec 5) (op2 : RegOrImm13)
  /-- WRPIC, rule R918. -/
  | wrpic (rs1 : BitVec 5) (op2 : RegOrImm13)
  /-- WRGSR, rule R919. -/
  | wrgsr (rs1 : BitVec 5) (op2 : RegOrImm13)
  /-- WRSOFTINT_SET, rule R920. -/
  | wrsoftint_set (rs1 : BitVec 5) (op2 : RegOrImm13)
  /-- WRSOFTINT_CLR, rule R921. -/
  | wrsoftint_clr (rs1 : BitVec 5) (op2 : RegOrImm13)
  /-- WRSOFTINT, rule R922. -/
  | wrsoftint (rs1 : BitVec 5) (op2 : RegOrImm13)
  /-- WRTICK_CMPR, rule R923. -/
  | wrtick_cmpr (rs1 : BitVec 5) (op2 : RegOrImm13)
  /-- WRSTICK, rule R924. -/
  | wrstick (rs1 : BitVec 5) (op2 : RegOrImm13)
  /-- WRSTICK_CMPR, rule R925. -/
  | wrstick_cmpr (rs1 : BitVec 5) (op2 : RegOrImm13)
  /-- SIR, rule R927. -/
  | sir (simm13 : BitVec 13)
  /-- RDPR, rule R930. -/
  | rdpr (rd : BitVec 5) (rs1 : BitVec 5)
  /-- WRPR, rule R931. -/
  | wrpr (rd : BitVec 5) (rs1 : BitVec 5) (op2 : RegOrImm13)
  /-- RDHPR, rule R940. -/
  | rdhpr (rd : BitVec 5) (rs1 : BitVec 5)
  /-- WRHPR, rule R941. -/
  | wrhpr (rd : BitVec 5) (rs1 : BitVec 5) (op2 : RegOrImm13)
  /-- SHUTDOWN, rule R950. -/
  | shutdown
  /-- IMPDEP1, rule R951. -/
  | impdep1 (rd : BitVec 5) (rs1 : BitVec 5) (opf : BitVec 9) (rs2 : BitVec 5)
  /-- IMPDEP2A, rule R952. -/
  | impdep2a (rd : BitVec 5) (mid : BitVec 12) (rs2 : BitVec 5)
  /-- IMPDEP2B, rule R953. -/
  | impdep2b (rd : BitVec 5) (mid : BitVec 12) (op4 : BitVec 2) (rs2 : BitVec 5)
  /-- FADDs, rule R972. -/
  | fadds (rd : BitVec 5) (rs1 : BitVec 5) (rs2 : BitVec 5)
  /-- FADDd, rule R973. -/
  | faddd (rd : BitVec 5) (rs1 : BitVec 5) (rs2 : BitVec 5)
  /-- FADDq, rule R974. -/
  | faddq (rd : BitVec 5) (rs1 : BitVec 5) (rs2 : BitVec 5)
  /-- FSUBs, rule R975. -/
  | fsubs (rd : BitVec 5) (rs1 : BitVec 5) (rs2 : BitVec 5)
  /-- FSUBd, rule R976. -/
  | fsubd (rd : BitVec 5) (rs1 : BitVec 5) (rs2 : BitVec 5)
  /-- FSUBq, rule R977. -/
  | fsubq (rd : BitVec 5) (rs1 : BitVec 5) (rs2 : BitVec 5)
  /-- FMULs, rule R978. -/
  | fmuls (rd : BitVec 5) (rs1 : BitVec 5) (rs2 : BitVec 5)
  /-- FMULd, rule R979. -/
  | fmuld (rd : BitVec 5) (rs1 : BitVec 5) (rs2 : BitVec 5)
  /-- FMULq, rule R980. -/
  | fmulq (rd : BitVec 5) (rs1 : BitVec 5) (rs2 : BitVec 5)
  /-- FDIVs, rule R983. -/
  | fdivs (rd : BitVec 5) (rs1 : BitVec 5) (rs2 : BitVec 5)
  /-- FDIVd, rule R984. -/
  | fdivd (rd : BitVec 5) (rs1 : BitVec 5) (rs2 : BitVec 5)
  /-- FDIVq, rule R985. -/
  | fdivq (rd : BitVec 5) (rs1 : BitVec 5) (rs2 : BitVec 5)
  /-- FsMULd, rule R981. -/
  | fsmuld (rd : BitVec 5) (rs1 : BitVec 5) (rs2 : BitVec 5)
  /-- FdMULq, rule R982. -/
  | fdmulq (rd : BitVec 5) (rs1 : BitVec 5) (rs2 : BitVec 5)
  /-- FSQRTs, rule R986. -/
  | fsqrts (rd : BitVec 5) (rs2 : BitVec 5)
  /-- FSQRTd, rule R987. -/
  | fsqrtd (rd : BitVec 5) (rs2 : BitVec 5)
  /-- FSQRTq, rule R988. -/
  | fsqrtq (rd : BitVec 5) (rs2 : BitVec 5)
  /-- FCMPs, rule R990. -/
  | fcmps (cc : BitVec 2) (rs1 : BitVec 5) (rs2 : BitVec 5)
  /-- FCMPd, rule R991. -/
  | fcmpd (cc : BitVec 2) (rs1 : BitVec 5) (rs2 : BitVec 5)
  /-- FCMPq, rule R992. -/
  | fcmpq (cc : BitVec 2) (rs1 : BitVec 5) (rs2 : BitVec 5)
  /-- FCMPEs, rule R993. -/
  | fcmpes (cc : BitVec 2) (rs1 : BitVec 5) (rs2 : BitVec 5)
  /-- FCMPEd, rule R994. -/
  | fcmped (cc : BitVec 2) (rs1 : BitVec 5) (rs2 : BitVec 5)
  /-- FCMPEq, rule R995. -/
  | fcmpeq (cc : BitVec 2) (rs1 : BitVec 5) (rs2 : BitVec 5)
  /-- FiTOs, rule R996. -/
  | fitos (rd : BitVec 5) (rs2 : BitVec 5)
  /-- FiTOd, rule R997. -/
  | fitod (rd : BitVec 5) (rs2 : BitVec 5)
  /-- FiTOq, rule R998. -/
  | fitoq (rd : BitVec 5) (rs2 : BitVec 5)
  /-- FxTOs, rule R999. -/
  | fxtos (rd : BitVec 5) (rs2 : BitVec 5)
  /-- FxTOd, rule R1000. -/
  | fxtod (rd : BitVec 5) (rs2 : BitVec 5)
  /-- FxTOq, rule R1001. -/
  | fxtoq (rd : BitVec 5) (rs2 : BitVec 5)
  /-- FsTOx, rule R1002. -/
  | fstox (rd : BitVec 5) (rs2 : BitVec 5)
  /-- FdTOx, rule R1003. -/
  | fdtox (rd : BitVec 5) (rs2 : BitVec 5)
  /-- FqTOx, rule R1004. -/
  | fqtox (rd : BitVec 5) (rs2 : BitVec 5)
  /-- FsTOi, rule R1005. -/
  | fstoi (rd : BitVec 5) (rs2 : BitVec 5)
  /-- FdTOi, rule R1006. -/
  | fdtoi (rd : BitVec 5) (rs2 : BitVec 5)
  /-- FqTOi, rule R1007. -/
  | fqtoi (rd : BitVec 5) (rs2 : BitVec 5)
  /-- FsTOd, rule R1008. -/
  | fstod (rd : BitVec 5) (rs2 : BitVec 5)
  /-- FsTOq, rule R1009. -/
  | fstoq (rd : BitVec 5) (rs2 : BitVec 5)
  /-- FdTOs, rule R1010. -/
  | fdtos (rd : BitVec 5) (rs2 : BitVec 5)
  /-- FdTOq, rule R1011. -/
  | fdtoq (rd : BitVec 5) (rs2 : BitVec 5)
  /-- FqTOs, rule R1012. -/
  | fqtos (rd : BitVec 5) (rs2 : BitVec 5)
  /-- FqTOd, rule R1013. -/
  | fqtod (rd : BitVec 5) (rs2 : BitVec 5)
  /-- FMOVs, rule R1014. -/
  | fmovs (rd : BitVec 5) (rs2 : BitVec 5)
  /-- FMOVd, rule R1015. -/
  | fmovd (rd : BitVec 5) (rs2 : BitVec 5)
  /-- FMOVq, rule R1016. -/
  | fmovq (rd : BitVec 5) (rs2 : BitVec 5)
  /-- FNEGs, rule R1017. -/
  | fnegs (rd : BitVec 5) (rs2 : BitVec 5)
  /-- FNEGd, rule R1018. -/
  | fnegd (rd : BitVec 5) (rs2 : BitVec 5)
  /-- FNEGq, rule R1019. -/
  | fnegq (rd : BitVec 5) (rs2 : BitVec 5)
  /-- FABSs, rule R1020. -/
  | fabss (rd : BitVec 5) (rs2 : BitVec 5)
  /-- FABSd, rule R1021. -/
  | fabsd (rd : BitVec 5) (rs2 : BitVec 5)
  /-- FABSq, rule R1022. -/
  | fabsq (rd : BitVec 5) (rs2 : BitVec 5)
  /-- FMOVSicc, rule R1024. -/
  | fmovsicc (rd : BitVec 5) (cond : BitVec 4) (rs2 : BitVec 5)
  /-- FMOVDicc, rule R1025. -/
  | fmovdicc (rd : BitVec 5) (cond : BitVec 4) (rs2 : BitVec 5)
  /-- FMOVQicc, rule R1026. -/
  | fmovqicc (rd : BitVec 5) (cond : BitVec 4) (rs2 : BitVec 5)
  /-- FMOVSxcc, rule R1027. -/
  | fmovsxcc (rd : BitVec 5) (cond : BitVec 4) (rs2 : BitVec 5)
  /-- FMOVDxcc, rule R1028. -/
  | fmovdxcc (rd : BitVec 5) (cond : BitVec 4) (rs2 : BitVec 5)
  /-- FMOVQxcc, rule R1029. -/
  | fmovqxcc (rd : BitVec 5) (cond : BitVec 4) (rs2 : BitVec 5)
  /-- FMOVSfcc, rule R1030. -/
  | fmovsfcc (rd : BitVec 5) (cond : BitVec 4) (cc : BitVec 2) (rs2 : BitVec 5)
  /-- FMOVDfcc, rule R1031. -/
  | fmovdfcc (rd : BitVec 5) (cond : BitVec 4) (cc : BitVec 2) (rs2 : BitVec 5)
  /-- FMOVQfcc, rule R1032. -/
  | fmovqfcc (rd : BitVec 5) (cond : BitVec 4) (cc : BitVec 2) (rs2 : BitVec 5)
  /-- FMOVRsZ, rule R1034. -/
  | fmovrsz (rd : BitVec 5) (rs1 : BitVec 5) (rs2 : BitVec 5)
  /-- FMOVRsLEZ, rule R1035. -/
  | fmovrslez (rd : BitVec 5) (rs1 : BitVec 5) (rs2 : BitVec 5)
  /-- FMOVRsLZ, rule R1036. -/
  | fmovrslz (rd : BitVec 5) (rs1 : BitVec 5) (rs2 : BitVec 5)
  /-- FMOVRsNZ, rule R1037. -/
  | fmovrsnz (rd : BitVec 5) (rs1 : BitVec 5) (rs2 : BitVec 5)
  /-- FMOVRsGZ, rule R1038. -/
  | fmovrsgz (rd : BitVec 5) (rs1 : BitVec 5) (rs2 : BitVec 5)
  /-- FMOVRsGEZ, rule R1039. -/
  | fmovrsgez (rd : BitVec 5) (rs1 : BitVec 5) (rs2 : BitVec 5)
  /-- FMOVRdZ, rule R1040. -/
  | fmovrdz (rd : BitVec 5) (rs1 : BitVec 5) (rs2 : BitVec 5)
  /-- FMOVRdLEZ, rule R1041. -/
  | fmovrdlez (rd : BitVec 5) (rs1 : BitVec 5) (rs2 : BitVec 5)
  /-- FMOVRdLZ, rule R1042. -/
  | fmovrdlz (rd : BitVec 5) (rs1 : BitVec 5) (rs2 : BitVec 5)
  /-- FMOVRdNZ, rule R1043. -/
  | fmovrdnz (rd : BitVec 5) (rs1 : BitVec 5) (rs2 : BitVec 5)
  /-- FMOVRdGZ, rule R1044. -/
  | fmovrdgz (rd : BitVec 5) (rs1 : BitVec 5) (rs2 : BitVec 5)
  /-- FMOVRdGEZ, rule R1045. -/
  | fmovrdgez (rd : BitVec 5) (rs1 : BitVec 5) (rs2 : BitVec 5)
  /-- FMOVRqZ, rule R1046. -/
  | fmovrqz (rd : BitVec 5) (rs1 : BitVec 5) (rs2 : BitVec 5)
  /-- FMOVRqLEZ, rule R1047. -/
  | fmovrqlez (rd : BitVec 5) (rs1 : BitVec 5) (rs2 : BitVec 5)
  /-- FMOVRqLZ, rule R1048. -/
  | fmovrqlz (rd : BitVec 5) (rs1 : BitVec 5) (rs2 : BitVec 5)
  /-- FMOVRqNZ, rule R1049. -/
  | fmovrqnz (rd : BitVec 5) (rs1 : BitVec 5) (rs2 : BitVec 5)
  /-- FMOVRqGZ, rule R1050. -/
  | fmovrqgz (rd : BitVec 5) (rs1 : BitVec 5) (rs2 : BitVec 5)
  /-- FMOVRqGEZ, rule R1051. -/
  | fmovrqgez (rd : BitVec 5) (rs1 : BitVec 5) (rs2 : BitVec 5)
  /-- ALIGNADDRESS, rule R1064. -/
  | alignaddress (rd : BitVec 5) (rs1 : BitVec 5) (rs2 : BitVec 5)
  /-- ALIGNADDRESS_LITTLE, rule R1065. -/
  | alignaddress_little (rd : BitVec 5) (rs1 : BitVec 5) (rs2 : BitVec 5)
  /-- FALIGNDATA, rule R1066. -/
  | faligndata (rd : BitVec 5) (rs1 : BitVec 5) (rs2 : BitVec 5)
  /-- BMASK, rule R1067. -/
  | bmask (rd : BitVec 5) (rs1 : BitVec 5) (rs2 : BitVec 5)
  /-- BSHUFFLE, rule R1068. -/
  | bshuffle (rd : BitVec 5) (rs1 : BitVec 5) (rs2 : BitVec 5)
  /-- EDGE8cc, rule R1071. -/
  | edge8cc (rd : BitVec 5) (rs1 : BitVec 5) (rs2 : BitVec 5)
  /-- EDGE8Lcc, rule R1072. -/
  | edge8lcc (rd : BitVec 5) (rs1 : BitVec 5) (rs2 : BitVec 5)
  /-- EDGE16cc, rule R1073. -/
  | edge16cc (rd : BitVec 5) (rs1 : BitVec 5) (rs2 : BitVec 5)
  /-- EDGE16Lcc, rule R1074. -/
  | edge16lcc (rd : BitVec 5) (rs1 : BitVec 5) (rs2 : BitVec 5)
  /-- EDGE32cc, rule R1075. -/
  | edge32cc (rd : BitVec 5) (rs1 : BitVec 5) (rs2 : BitVec 5)
  /-- EDGE32Lcc, rule R1076. -/
  | edge32lcc (rd : BitVec 5) (rs1 : BitVec 5) (rs2 : BitVec 5)
  /-- EDGE8N, rule R1078. -/
  | edge8n (rd : BitVec 5) (rs1 : BitVec 5) (rs2 : BitVec 5)
  /-- EDGE8LN, rule R1079. -/
  | edge8ln (rd : BitVec 5) (rs1 : BitVec 5) (rs2 : BitVec 5)
  /-- EDGE16N, rule R1080. -/
  | edge16n (rd : BitVec 5) (rs1 : BitVec 5) (rs2 : BitVec 5)
  /-- EDGE16LN, rule R1081. -/
  | edge16ln (rd : BitVec 5) (rs1 : BitVec 5) (rs2 : BitVec 5)
  /-- EDGE32N, rule R1082. -/
  | edge32n (rd : BitVec 5) (rs1 : BitVec 5) (rs2 : BitVec 5)
  /-- EDGE32LN, rule R1083. -/
  | edge32ln (rd : BitVec 5) (rs1 : BitVec 5) (rs2 : BitVec 5)
  /-- ARRAY8, rule R1086. -/
  | array8 (rd : BitVec 5) (rs1 : BitVec 5) (rs2 : BitVec 5)
  /-- ARRAY16, rule R1087. -/
  | array16 (rd : BitVec 5) (rs1 : BitVec 5) (rs2 : BitVec 5)
  /-- ARRAY32, rule R1088. -/
  | array32 (rd : BitVec 5) (rs1 : BitVec 5) (rs2 : BitVec 5)
  /-- FCMPLE16, rule R1091. -/
  | fcmple16 (rd : BitVec 5) (rs1 : BitVec 5) (rs2 : BitVec 5)
  /-- FCMPNE16, rule R1092. -/
  | fcmpne16 (rd : BitVec 5) (rs1 : BitVec 5) (rs2 : BitVec 5)
  /-- FCMPLE32, rule R1093. -/
  | fcmple32 (rd : BitVec 5) (rs1 : BitVec 5) (rs2 : BitVec 5)
  /-- FCMPNE32, rule R1094. -/
  | fcmpne32 (rd : BitVec 5) (rs1 : BitVec 5) (rs2 : BitVec 5)
  /-- FCMPGT16, rule R1095. -/
  | fcmpgt16 (rd : BitVec 5) (rs1 : BitVec 5) (rs2 : BitVec 5)
  /-- FCMPEQ16, rule R1096. -/
  | fcmpeq16 (rd : BitVec 5) (rs1 : BitVec 5) (rs2 : BitVec 5)
  /-- FCMPGT32, rule R1097. -/
  | fcmpgt32 (rd : BitVec 5) (rs1 : BitVec 5) (rs2 : BitVec 5)
  /-- FCMPEQ32, rule R1098. -/
  | fcmpeq32 (rd : BitVec 5) (rs1 : BitVec 5) (rs2 : BitVec 5)
  /-- FPADD16, rule R1100. -/
  | fpadd16 (rd : BitVec 5) (rs1 : BitVec 5) (rs2 : BitVec 5)
  /-- FPADD16S, rule R1101. -/
  | fpadd16s (rd : BitVec 5) (rs1 : BitVec 5) (rs2 : BitVec 5)
  /-- FPADD32, rule R1102. -/
  | fpadd32 (rd : BitVec 5) (rs1 : BitVec 5) (rs2 : BitVec 5)
  /-- FPADD32S, rule R1103. -/
  | fpadd32s (rd : BitVec 5) (rs1 : BitVec 5) (rs2 : BitVec 5)
  /-- FPSUB16, rule R1104. -/
  | fpsub16 (rd : BitVec 5) (rs1 : BitVec 5) (rs2 : BitVec 5)
  /-- FPSUB16S, rule R1105. -/
  | fpsub16s (rd : BitVec 5) (rs1 : BitVec 5) (rs2 : BitVec 5)
  /-- FPSUB32, rule R1106. -/
  | fpsub32 (rd : BitVec 5) (rs1 : BitVec 5) (rs2 : BitVec 5)
  /-- FPSUB32S, rule R1107. -/
  | fpsub32s (rd : BitVec 5) (rs1 : BitVec 5) (rs2 : BitVec 5)
  /-- FZERO, rule R1111. -/
  | fzero (rd : BitVec 5)
  /-- FZEROs, rule R1112. -/
  | fzeros (rd : BitVec 5)
  /-- FONE, rule R1113. -/
  | fone (rd : BitVec 5)
  /-- FONEs, rule R1114. -/
  | fones (rd : BitVec 5)
  /-- FSRC1, rule R1115. -/
  | fsrc1 (rd : BitVec 5) (rs1 : BitVec 5)
  /-- FSRC1s, rule R1116. -/
  | fsrc1s (rd : BitVec 5) (rs1 : BitVec 5)
  /-- FSRC2, rule R1117. -/
  | fsrc2 (rd : BitVec 5) (rs2 : BitVec 5)
  /-- FSRC2s, rule R1118. -/
  | fsrc2s (rd : BitVec 5) (rs2 : BitVec 5)
  /-- FNOT1, rule R1119. -/
  | fnot1 (rd : BitVec 5) (rs1 : BitVec 5)
  /-- FNOT1s, rule R1120. -/
  | fnot1s (rd : BitVec 5) (rs1 : BitVec 5)
  /-- FNOT2, rule R1121. -/
  | fnot2 (rd : BitVec 5) (rs2 : BitVec 5)
  /-- FNOT2s, rule R1122. -/
  | fnot2s (rd : BitVec 5) (rs2 : BitVec 5)
  /-- FOR, rule R1123. -/
  | for_ (rd : BitVec 5) (rs1 : BitVec 5) (rs2 : BitVec 5)
  /-- FORs, rule R1124. -/
  | fors (rd : BitVec 5) (rs1 : BitVec 5) (rs2 : BitVec 5)
  /-- FNOR, rule R1125. -/
  | fnor (rd : BitVec 5) (rs1 : BitVec 5) (rs2 : BitVec 5)
  /-- FNORs, rule R1126. -/
  | fnors (rd : BitVec 5) (rs1 : BitVec 5) (rs2 : BitVec 5)
  /-- FAND, rule R1127. -/
  | fand (rd : BitVec 5) (rs1 : BitVec 5) (rs2 : BitVec 5)
  /-- FANDs, rule R1128. -/
  | fands (rd : BitVec 5) (rs1 : BitVec 5) (rs2 : BitVec 5)
  /-- FNAND, rule R1129. -/
  | fnand (rd : BitVec 5) (rs1 : BitVec 5) (rs2 : BitVec 5)
  /-- FNANDs, rule R1130. -/
  | fnands (rd : BitVec 5) (rs1 : BitVec 5) (rs2 : BitVec 5)
  /-- FXOR, rule R1131. -/
  | fxor (rd : BitVec 5) (rs1 : BitVec 5) (rs2 : BitVec 5)
  /-- FXORs, rule R1132. -/
  | fxors (rd : BitVec 5) (rs1 : BitVec 5) (rs2 : BitVec 5)
  /-- FXNOR, rule R1133. -/
  | fxnor (rd : BitVec 5) (rs1 : BitVec 5) (rs2 : BitVec 5)
  /-- FXNORs, rule R1134. -/
  | fxnors (rd : BitVec 5) (rs1 : BitVec 5) (rs2 : BitVec 5)
  /-- FORNOT1, rule R1135. -/
  | fornot1 (rd : BitVec 5) (rs1 : BitVec 5) (rs2 : BitVec 5)
  /-- FORNOT1s, rule R1136. -/
  | fornot1s (rd : BitVec 5) (rs1 : BitVec 5) (rs2 : BitVec 5)
  /-- FORNOT2, rule R1137. -/
  | fornot2 (rd : BitVec 5) (rs1 : BitVec 5) (rs2 : BitVec 5)
  /-- FORNOT2s, rule R1138. -/
  | fornot2s (rd : BitVec 5) (rs1 : BitVec 5) (rs2 : BitVec 5)
  /-- FANDNOT1, rule R1139. -/
  | fandnot1 (rd : BitVec 5) (rs1 : BitVec 5) (rs2 : BitVec 5)
  /-- FANDNOT1s, rule R1140. -/
  | fandnot1s (rd : BitVec 5) (rs1 : BitVec 5) (rs2 : BitVec 5)
  /-- FANDNOT2, rule R1141. -/
  | fandnot2 (rd : BitVec 5) (rs1 : BitVec 5) (rs2 : BitVec 5)
  /-- FANDNOT2s, rule R1142. -/
  | fandnot2s (rd : BitVec 5) (rs1 : BitVec 5) (rs2 : BitVec 5)
  /-- SIAM, rule R1145. -/
  | siam (mode : BitVec 3)
  /-- FEXPAND, rule R1150. -/
  | fexpand (rd : BitVec 5) (rs2 : BitVec 5)
  /-- FMUL8x16, rule R1152. -/
  | fmul8x16 (rd : BitVec 5) (rs1 : BitVec 5) (rs2 : BitVec 5)
  /-- FMUL8x16AU, rule R1153. -/
  | fmul8x16au (rd : BitVec 5) (rs1 : BitVec 5) (rs2 : BitVec 5)
  /-- FMUL8x16AL, rule R1154. -/
  | fmul8x16al (rd : BitVec 5) (rs1 : BitVec 5) (rs2 : BitVec 5)
  /-- FMUL8SUx16, rule R1155. -/
  | fmul8sux16 (rd : BitVec 5) (rs1 : BitVec 5) (rs2 : BitVec 5)
  /-- FMUL8ULx16, rule R1156. -/
  | fmul8ulx16 (rd : BitVec 5) (rs1 : BitVec 5) (rs2 : BitVec 5)
  /-- FMULD8SUx16, rule R1157. -/
  | fmuld8sux16 (rd : BitVec 5) (rs1 : BitVec 5) (rs2 : BitVec 5)
  /-- FMULD8ULx16, rule R1158. -/
  | fmuld8ulx16 (rd : BitVec 5) (rs1 : BitVec 5) (rs2 : BitVec 5)
  /-- FPACK16, rule R1161. -/
  | fpack16 (rd : BitVec 5) (rs2 : BitVec 5)
  /-- FPACK32, rule R1162. -/
  | fpack32 (rd : BitVec 5) (rs1 : BitVec 5) (rs2 : BitVec 5)
  /-- FPACKFIX, rule R1163. -/
  | fpackfix (rd : BitVec 5) (rs2 : BitVec 5)
  /-- FPMERGE, rule R1165. -/
  | fpmerge (rd : BitVec 5) (rs1 : BitVec 5) (rs2 : BitVec 5)
  /-- PDIST, rule R1166. -/
  | pdist (rd : BitVec 5) (rs1 : BitVec 5) (rs2 : BitVec 5)
deriving DecidableEq, Repr

end Sys2Proof
end

