-- ==== Sys2Proof/Machine/Ops.lean ====
section
/-! DEFINITION. The named operations every meaning is written with: the register files, memory, sequencing, the trap table,
taking a trap (one operation, `takeTrap`, rules R1229 to R1238) and returning from one (`trapReturn`, rules R701, R702). -/

namespace Sys2Proof.Machine

/-! ### Banks -/

/-- The register of a bank with the number given. -/
def bankRead {w k : Nat} (b : Bank w k) (i : BitVec k) : BitVec w := b[i.toNat]'i.isLt

/-- A bank with one register replaced. -/
def bankWrite {w k : Nat} (b : Bank w k) (i : BitVec k) (v : BitVec w) : Bank w k := b.set i.toNat v i.isLt

/-! ### Mode predicates (rules R174, R66) -/

/-- Hyperprivileged mode. -/
def isHyper (s : State) : Bool := s.hpstate.hpriv

/-- Privileged mode. -/
def isPriv (s : State) : Bool := !s.hpstate.hpriv && s.pstate.priv

/-- Nonprivileged mode. -/
def isUser (s : State) : Bool := !s.hpstate.hpriv && !s.pstate.priv

/-- FPU_enabled. -/
def fpuEnabled (s : State) : Bool := s.pstate.pef && s.fprs.fef

/-! ### Integer registers (rules R40 to R44) -/

/-- Where `R[r]`, 8 <= r, lies among the windowed registers when the current window is `cwp` (rule R42). -/
def windowSlot (cwp : BitVec 3) (r : BitVec 5) : BitVec 7 :=
  if r.extractLsb' 3 2 = 1 then (cwp + 1) ++ 0#1 ++ r.extractLsb' 0 3
  else if r.extractLsb' 3 2 = 2 then cwp ++ 1#1 ++ r.extractLsb' 0 3
  else cwp ++ 0#1 ++ r.extractLsb' 0 3

/-- Where `R[r]`, r < 8, lies among the globals when GL is `gl` (rule R44). -/
def globalSlot (gl : BitVec 2) (r : BitVec 5) : BitVec 5 := gl ++ r.extractLsb' 0 3

/-- `R[r]`: `R[0]` is zero (rule R41). -/
def getR (s : State) (r : BitVec 5) : DWord :=
  if r = 0 then 0
  else if r.extractLsb' 3 2 = 0 then bankRead s.globals (globalSlot s.gl r)
  else bankRead s.windows (windowSlot s.win.cwp r)

/-- `R[r] <- v`; a write of `R[0]` does nothing (rule R41). -/
def setR (s : State) (r : BitVec 5) (v : DWord) : State :=
  if r = 0 then s
  else if r.extractLsb' 3 2 = 0 then { s with globals := bankWrite s.globals (globalSlot s.gl r) v }
  else { s with windows := bankWrite s.windows (windowSlot s.win.cwp r) v }

/-- CCR <- c. -/
def setCcr (s : State) (c : Ccr) : State := { s with ccr := c }

/-- Y <- v. -/
def setY (s : State) (v : Word) : State := { s with y := v }

/-! ### Floating-point registers (rules R50 to R52, R68) -/

/-- The number of a double register divided by 2, from its 5-bit field (rule R52). -/
def doubleNumber (field : BitVec 5) : BitVec 5 := field.extractLsb' 0 1 ++ field.extractLsb' 1 4

/-- F_S[field]. -/
def getFS (s : State) (field : BitVec 5) : Word := bankRead s.fregs (0#1 ++ field)

/-- The double register `2 * d`: `F[2d] :: F[2d+1]` (rule R51). -/
def getFDn (s : State) (d : BitVec 5) : DWord := bankRead s.fregs (d ++ 0#1) ++ bankRead s.fregs (d ++ 1#1)

/-- F_D of a 5-bit field. -/
def getFD (s : State) (field : BitVec 5) : DWord := getFDn s (doubleNumber field)

/-- The dirty bit of a single-precision destination (rule R68). -/
def markFS (s : State) : State := { s with fprs := { s.fprs with dl := true } }

/-- The dirty bit of the double register `2 * d`: `du` for F[32] and above (rule R68). -/
def markFDn (s : State) (d : BitVec 5) : State :=
  if flagAt d 4 then { s with fprs := { s.fprs with du := true } } else { s with fprs := { s.fprs with dl := true } }

/-- The dirty bit of a double destination. -/
def markFD (s : State) (field : BitVec 5) : State := markFDn s (doubleNumber field)

/-- The dirty bit of a quad destination: its four F registers stand in the half that the field's low bit names, as a double's do
(rules R52, R68). -/
def markFQ (s : State) (field : BitVec 5) : State := markFD s field

/-- F_S[field] <- v, with FPRS.dl set (rule R68). -/
def setFS (s : State) (field : BitVec 5) (v : Word) : State :=
  { s with fregs := bankWrite s.fregs (0#1 ++ field) v, fprs := { s.fprs with dl := true } }

/-- The double register `2 * d` <- v, with its dirty bit set. -/
def setFDn (s : State) (d : BitVec 5) (v : DWord) : State :=
  markFDn { s with fregs := bankWrite (bankWrite s.fregs (d ++ 0#1) (v.extractLsb' 32 32)) (d ++ 1#1) (v.extractLsb' 0 32) } d

/-- F_D of a 5-bit field <- v. -/
def setFD (s : State) (field : BitVec 5) (v : DWord) : State := setFDn s (doubleNumber field) v

/-! ### Free values -/

/-- The next free value of the run. -/
def freeValue (s : State) : DWord := Config.freeWord s.freeCount

/-- The free value `freeValue` gave has been used. -/
def drawn (s : State) : State := { s with freeCount := s.freeCount + 1 }

/-! ### Memory (rules R260, R261) -/

/-- What an address that no entry lists reads as (assumption log entry 2). -/
def unlistedByte : Byte := 0

/-- The memory key of a physical address: its low `Config.paBits w` bits (rules R260, R1227). -/
def physKey (w : PaWidth) (pa : DWord) : Nat := pa.toNat % 2 ^ Config.paBits w

/-- A physical address as the platform sees it: `a[PA_BITS-1:0]` (rule R1377). -/
def physAddress (w : PaWidth) (a : DWord) : DWord := BitVec.ofNat 64 (physKey w a)

/-- The byte at a key. -/
def lookup : Memory → Nat → Byte
  | [], _ => unlistedByte
  | (a, b) :: m, k => if k = a then b else if k < a then unlistedByte else lookup m k

/-- The memory with the byte at a key replaced, in canonical form. -/
def update : Memory → Nat → Byte → Memory
  | [], k, v => if v = unlistedByte then [] else [(k, v)]
  | (a, b) :: m, k, v =>
    if k = a then (if v = unlistedByte then m else (k, v) :: m)
    else if k < a then (if v = unlistedByte then (a, b) :: m else (k, v) :: (a, b) :: m)
    else (a, b) :: update m k v

/-- Every key of the memory is above `lo`, keys rise and are physical addresses of the width, and no entry is what an unlisted address reads as. -/
def memoryAbove (w : PaWidth) : Option Nat → Memory → Bool
  | _, [] => true
  | lo, (a, b) :: m =>
    (match lo with
      | none => true
      | some l => decide (l < a)) && decide (b ≠ unlistedByte) && decide (a < 2 ^ Config.paBits w) && memoryAbove w (some a) m

/-- The canonical form of memory. -/
def Memory.wf (w : PaWidth) (m : Memory) : Bool := memoryAbove w none m

/-- Mem[pa]. -/
def readByte (w : PaWidth) (m : Memory) (pa : DWord) : Byte := lookup m (physKey w pa)

/-- Mem[pa] <- v. -/
def writeByte (w : PaWidth) (m : Memory) (pa : DWord) (v : Byte) : Memory := update m (physKey w pa) v

/-- MemRead(pa, n, BE), n <= 8, zero-extended to 64 bits (rule R261). -/
def readBE (w : PaWidth) (m : Memory) (pa : DWord) : Nat → DWord
  | 0 => 0
  | n + 1 => ((readByte w m pa).setWidth 64 <<< (8 * n)) ||| readBE w m (pa + 1) n

/-- MemRead(pa, n, LE), n <= 8, zero-extended to 64 bits (rule R261). -/
def readLE (w : PaWidth) (m : Memory) (pa : DWord) : Nat → DWord
  | 0 => 0
  | n + 1 => (readByte w m pa).setWidth 64 ||| (readLE w m (pa + 1) n <<< 8)

/-- MemWrite(pa, n, BE, v), n <= 8 (rule R261). -/
def writeBE (w : PaWidth) (m : Memory) (pa v : DWord) : Nat → Memory
  | 0 => m
  | n + 1 => writeBE w (writeByte w m pa (v.extractLsb' (8 * n) 8)) (pa + 1) v n

/-- MemWrite(pa, n, LE, v), n <= 8 (rule R261). -/
def writeLE (w : PaWidth) (m : Memory) (pa v : DWord) : Nat → Memory
  | 0 => m
  | n + 1 => writeLE w (writeByte w m pa (v.extractLsb' 0 8)) (pa + 1) (v >>> 8) n

/-- MemRead in the byte order given. -/
def readMem (w : PaWidth) (m : Memory) (pa : DWord) (n : Nat) (little : Bool) : DWord :=
  if little then readLE w m pa n else readBE w m pa n

/-- MemWrite in the byte order given. -/
def writeMem (w : PaWidth) (m : Memory) (pa : DWord) (n : Nat) (little : Bool) (v : DWord) : Memory :=
  if little then writeLE w m pa v n else writeBE w m pa v n

/-- What an access of `n` bytes at a physical address reads: memory, or the device's answer at an I/O location (rule R266). -/
def readPhys (s : State) (pa : DWord) (n : Nat) (little : Bool) : DWord :=
  match (Config.physAttr (physAddress s.paWidth pa)).kind with
  | .io => BitVec.ofNat 64 ((Config.deviceRead s.freeCount (physAddress s.paWidth pa) n).toNat % 2 ^ (8 * n))
  | _ => readMem s.paWidth s.memory pa n little

/-- The state after a store of `n` bytes at a physical address; a store to an I/O location goes to the device, which is no part
of the machine (rule R266). -/
def writePhys (s : State) (pa : DWord) (n : Nat) (little : Bool) (v : DWord) : State :=
  match (Config.physAttr (physAddress s.paWidth pa)).kind with
  | .io => s
  | _ => { s with memory := writeMem s.paWidth s.memory pa n little v }

/-! ### Sequencing (rules R600 to R603) -/

/-- The program counters after an instruction: PC, NPC, and whether the next instruction stands in a delay slot. -/
def jump (s : State) (pc npc : DWord) (delaySlot : Bool) : State :=
  { s with pc := pc, npc := npc, delaySlot := delaySlot }

/-- Default sequencing (rule R600). -/
def advance (s : State) : State := jump s s.npc (s.npc + 4) false

/-- A delayed transfer to `ea` (rule R601(a)). -/
def delayedTransfer (s : State) (ea : DWord) : State := jump s s.npc ea true

/-- mask_am (rule R176): an address as it is sent out, saved by a trap, or shown to a register. -/
def maskAm (s : State) (a : DWord) : DWord := if s.pstate.am then low32 a else a

/-! ### The trap table (rules R1210 to R1212, R1220, R1221) -/

/-- The exceptions, interrupt requests and reset requests this machine raises, those of hardware errors among them. -/
inductive Trap where
  | externallyInitiatedReset
  | softwareInitiatedReset
  | storeError
  | trapLevelZero
  | instructionRealTranslationMiss
  | fastInstructionAccessMmuMiss
  | instructionAccessMmuMiss
  | instructionInvalidTsbEntry
  | instructionAccessException
  | instructionAccessError
  | instructionBreakpoint
  | illegalInstruction
  | privilegedOpcode
  | fpDisabled
  /-- spill_n_normal or spill_n_other. -/
  | spill (other : Bool) (n : BitVec 3)
  /-- fill_n_normal or fill_n_other. -/
  | fill (other : Bool) (n : BitVec 3)
  | cleanWindow
  | lddfMemAddressNotAligned
  | stdfMemAddressNotAligned
  | memAddressNotAligned
  | fpExceptionOther
  | fpExceptionIeee754
  | privilegedAction
  | vaWatchpoint
  | dataAccessException
  | dataRealTranslationMiss
  | fastDataAccessMmuMiss
  | dataAccessMmuMiss
  | dataInvalidTsbEntry
  | fastDataAccessProtection
  | paWatchpoint
  | dataAccessError
  | tagOverflow
  | divisionByZero
  | hstickMatch
  /-- trap_instruction (n <= 127) or htrap_instruction (n >= 128). -/
  | softwareTrap (n : Byte)
  | cpuMondo
  | devMondo
  | interruptLevel (n : BitVec 4)
  | resumableError
  /-- Its priority, times 100, is the platform's and may vary with the cause (IMPL. DEP. #402). -/
  | internalProcessorError (priority : Nat)
  | fastEccError
  | swRecoverableError
deriving DecidableEq, Repr

/-- TT (rules R1210, R1211, R1212). -/
def trapType : Trap → BitVec 9
  | .externallyInitiatedReset => 0x003
  | .softwareInitiatedReset => 0x004
  | .storeError => 0x007
  | .trapLevelZero => 0x05F
  | .instructionRealTranslationMiss => 0x03E
  | .fastInstructionAccessMmuMiss => 0x064
  | .instructionAccessMmuMiss => 0x009
  | .instructionInvalidTsbEntry => 0x02A
  | .instructionAccessException => 0x008
  | .instructionAccessError => 0x00A
  | .instructionBreakpoint => 0x076
  | .illegalInstruction => 0x010
  | .privilegedOpcode => 0x011
  | .fpDisabled => 0x020
  | .spill other n => 0b010#3 ++ bit other ++ n ++ 0#2
  | .fill other n => 0b011#3 ++ bit other ++ n ++ 0#2
  | .cleanWindow => 0x024
  | .lddfMemAddressNotAligned => 0x035
  | .stdfMemAddressNotAligned => 0x036
  | .memAddressNotAligned => 0x034
  | .fpExceptionOther => 0x022
  | .fpExceptionIeee754 => 0x021
  | .privilegedAction => 0x037
  | .vaWatchpoint => 0x062
  | .dataAccessException => 0x030
  | .dataRealTranslationMiss => 0x03F
  | .fastDataAccessMmuMiss => 0x068
  | .dataAccessMmuMiss => 0x031
  | .dataInvalidTsbEntry => 0x02B
  | .fastDataAccessProtection => 0x06C
  | .paWatchpoint => 0x061
  | .dataAccessError => 0x032
  | .tagOverflow => 0x023
  | .divisionByZero => 0x028
  | .hstickMatch => 0x05E
  | .softwareTrap n => 1#1 ++ n
  | .cpuMondo => 0x07C
  | .devMondo => 0x07D
  | .interruptLevel n => 0x4#5 ++ n
  | .resumableError => 0x07E
  | .internalProcessorError _ => 0x029
  | .fastEccError => 0x070
  | .swRecoverableError => 0x040

/-- The priority of TABLE 12-5 times 100, so that 16.02 is 1602 (rule R1220). It has no number for internal_processor_error,
fast_ECC_error and sw_recoverable_error, whose priorities are the platform's (assumption log entry 39). -/
def trapPriority : Trap → Nat
  | .externallyInitiatedReset => 110
  | .softwareInitiatedReset => 130
  | .storeError => 201
  | .trapLevelZero => 202
  | .instructionRealTranslationMiss => 208
  | .fastInstructionAccessMmuMiss => 208
  | .instructionAccessMmuMiss => 208
  | .instructionInvalidTsbEntry => 210
  | .instructionAccessException => 300
  | .instructionAccessError => 400
  | .instructionBreakpoint => 610
  | .illegalInstruction => 620
  | .privilegedOpcode => 700
  | .fpDisabled => 800
  | .spill _ _ => 900
  | .fill _ _ => 900
  | .cleanWindow => 1010
  | .lddfMemAddressNotAligned => 1010
  | .stdfMemAddressNotAligned => 1010
  | .memAddressNotAligned => 1020
  | .fpExceptionOther => 1110
  | .fpExceptionIeee754 => 1110
  | .privilegedAction => 1110
  | .vaWatchpoint => 1120
  | .dataAccessException => 1201
  | .dataRealTranslationMiss => 1203
  | .fastDataAccessMmuMiss => 1203
  | .dataAccessMmuMiss => 1203
  | .dataInvalidTsbEntry => 1203
  | .fastDataAccessProtection => 1207
  | .paWatchpoint => 1209
  | .dataAccessError => 1210
  | .tagOverflow => 1400
  | .divisionByZero => 1500
  | .hstickMatch => 1601
  | .softwareTrap _ => 1602
  | .cpuMondo => 1608
  | .devMondo => 1611
  | .interruptLevel n => 100 * (32 - n.toNat)
  | .resumableError => 3330
  | .internalProcessorError p => p
  | .fastEccError => Config.fastEccErrorPriority
  | .swRecoverableError => Config.swRecoverableErrorPriority

/-- Destined for privileged mode when taken from nonprivileged or privileged mode (rule R1221). -/
def destinedForPrivileged : Trap → Bool
  | .privilegedOpcode | .fpDisabled | .fpExceptionIeee754 | .fpExceptionOther | .tagOverflow | .cleanWindow
  | .divisionByZero | .vaWatchpoint | .spill _ _ | .fill _ _ | .interruptLevel _ | .cpuMondo | .devMondo
  | .resumableError => true
  | .softwareTrap n => n.toNat < 128
  | .externallyInitiatedReset | .softwareInitiatedReset | .trapLevelZero | .instructionRealTranslationMiss
  | .fastInstructionAccessMmuMiss | .instructionAccessMmuMiss | .instructionInvalidTsbEntry
  | .instructionAccessException | .instructionAccessError | .instructionBreakpoint | .illegalInstruction
  | .lddfMemAddressNotAligned | .stdfMemAddressNotAligned | .memAddressNotAligned | .privilegedAction
  | .dataAccessException | .dataRealTranslationMiss | .fastDataAccessMmuMiss | .dataAccessMmuMiss
  | .dataInvalidTsbEntry | .fastDataAccessProtection | .paWatchpoint | .dataAccessError | .hstickMatch | .storeError
  | .internalProcessorError _ | .fastEccError | .swRecoverableError => false

/-- The spill trap of SAVE and FLUSHW (rule R1211). -/
def spillTrap (s : State) : Trap :=
  if s.win.otherwin = 0 then .spill false s.win.wnormal else .spill true s.win.wother

/-- The fill trap of RESTORE and RETURN (rule R1211). -/
def fillTrap (s : State) : Trap :=
  if s.win.otherwin = 0 then .fill false s.win.wnormal else .fill true s.win.wother

/-! ### Taking a trap (rules R1225 to R1238) -/

/-- The trap-stack entry of the trap level given. -/
def frameAt (s : State) (tl : BitVec 3) : TrapFrame := s.trapStack[tl.toNat]'tl.isLt

/-- The trap stack with one entry replaced. -/
def setFrame (s : State) (tl : BitVec 3) (f : TrapFrame) : State :=
  { s with trapStack := s.trapStack.set tl.toNat f tl.isLt }

/-- What a trap saves: GL, CCR, ASI, PSTATE, CWP, PC, NPC, HPSTATE and the trap type (rule R1230), and the model's mark of a delay
slot (DESIGN CHOICE, assumption log entry 15). -/
def savedFrame (s : State) (tt : BitVec 9) : TrapFrame where
  tpc := high62 (maskAm s s.pc)
  tnpc := high62 (maskAm s s.npc)
  tstate := ⟨0#1 ++ s.gl, s.ccr, s.asi, s.pstate, s.win.cwp⟩
  tt := tt
  htstate := s.hpstate
  delaySlot := s.delaySlot

/-- CWP on a window trap: clean_window, spill, fill (rule R1323). -/
def trapCwp (w : WindowRegs) (tt : BitVec 9) : BitVec 3 :=
  if tt = 0x024 then w.cwp + 1
  else if 0x080 ≤ tt ∧ tt ≤ 0x0BF then w.cwp + w.cansave + 2
  else if 0x0C0 ≤ tt ∧ tt ≤ 0x0FF then w.cwp - 1
  else w.cwp

/-- min(GL + 1, limit). -/
def raiseGl (gl limit : BitVec 2) : BitVec 2 := if gl.toNat + 1 < limit.toNat then gl + 1 else limit

/-- min(TL + 1, MAXTL). -/
def raiseTl (tl : BitVec 3) : BitVec 3 := if tl.toNat < 6 then tl + 1 else 6

/-- PrivVector (rule R1225). -/
def privVector (s : State) (tt : BitVec 9) (tlBefore : BitVec 3) : DWord :=
  s.tba ++ bit (tlBefore != 0) ++ tt ++ 0#5

/-- HypVector (rule R1226). -/
def hypVector (s : State) (tt : BitVec 9) : DWord := s.htba ++ tt ++ 0#5

/-- GuestWatchdogVector (rules R1223, R1226). -/
def guestWatchdogVector (s : State) : DWord := s.htba ++ 0x40#14

/-- RedVector (rule R1227). -/
def redVector (w : PaWidth) (off : Byte) : DWord := (Config.rstvAddr w).extractLsb' 8 56 ++ off

/-- Trap entry into RED_state through the RED_state trap vector at `off`; `tlz` is HPSTATE.tlz afterwards
(rules R1232, R1234 to R1237). -/
def redStateTrap (s : State) (tt : BitVec 9) (off : Byte) (tlz : Bool) : State :=
  { setFrame s (raiseTl s.tl) (savedFrame s tt) with
    tl := raiseTl s.tl
    gl := raiseGl s.gl 3
    pstate := Pstate.afterReset s.pstate.tle
    hpstate := ⟨false, true, true, tlz⟩
    win := { s.win with cwp := trapCwp s.win tt }
    pc := redVector s.paWidth off
    npc := redVector s.paWidth off + 4 }

/-- A trap is delivered in privileged mode: destined for it and TL < MAXPTL (rules R1221, R1223, R1230). -/
def deliveredPrivileged (s : State) (e : Trap) : Bool :=
  !isHyper s && destinedForPrivileged e && decide (s.tl.toNat < 2)

/-- A trap destined for privileged mode at TL >= MAXPTL (rule R1223). -/
def isGuestWatchdog (s : State) (e : Trap) : Bool :=
  !isHyper s && destinedForPrivileged e && decide (2 ≤ s.tl.toNat)

/-- Where a normal trap goes (rules R1225, R1226, R1230). -/
def normalVector (s : State) (e : Trap) : DWord :=
  if deliveredPrivileged s e then privVector s (trapType e) s.tl
  else if isGuestWatchdog s e then guestWatchdogVector s
  else hypVector s (trapType e)

/-- Normal trap processing (rule R1230). -/
def normalTrap (s : State) (e : Trap) : State :=
  { setFrame s (s.tl + 1) (savedFrame s (trapType e)) with
    tl := s.tl + 1
    gl := raiseGl s.gl (if deliveredPrivileged s e then 2 else 3)
    pstate :=
      { tct := false
        cle := deliveredPrivileged s e && s.pstate.tle
        tle := s.pstate.tle
        pef := true
        am := false
        priv := deliveredPrivileged s e
        ie := false }
    hpstate := if deliveredPrivileged s e then s.hpstate else ⟨false, false, true, s.hpstate.tlz⟩
    win := { s.win with cwp := trapCwp s.win (trapType e) }
    pc := normalVector s e
    npc := normalVector s e + 4 }

/-- The state changes of a trap (rule R1229). error_state lasts no time: a trap at TL = MAXTL is a watchdog reset with
the trap type of its cause (rules R1234, R1238, decision D29). -/
def enterTrap (s : State) (e : Trap) : State :=
  if 6 ≤ s.tl.toNat then redStateTrap s (trapType e) 0x40 false
  else match e with
    | .externallyInitiatedReset => redStateTrap s (trapType e) 0x60 false
    | .softwareInitiatedReset => redStateTrap s (trapType e) 0x80 false
    | e =>
      if s.tl = 5 then redStateTrap s (trapType e) 0xA0 false
      else if s.hpstate.red then redStateTrap s (trapType e) 0xA0 s.hpstate.tlz
      else normalTrap s e

/-- TakeTrap (rule R1229): the state changes, and the priority kept for the step's selection (rule R1201). The handler's first
instruction stands in no delay slot; whether the trapped one does is kept in its frame (assumption log entry 15). -/
def takeTrap (s : State) (e : Trap) : State :=
  { enterTrap s e with delaySlot := false, lastTrap := some (trapPriority e) }

/-! ### Returning from a trap (rules R701, R702) -/

/-- The GL that DONE and RETRY restore (rules R701, R182). -/
def restoredGl (s : State) (f : TrapFrame) : BitVec 2 :=
  if !isHyper s && !f.htstate.hpriv && decide (2 < f.tstate.gl.toNat) then 2
  else if 3 < f.tstate.gl.toNat then 3
  else f.tstate.gl.extractLsb' 0 2

/-- DONE and RETRY: everything but the program counters from the frame of the current trap level, then TL - 1. `slot` says whether
the instruction returned to stands in a delay slot: the spec is silent on it (DESIGN CHOICE, assumption log entry 15). -/
def trapReturn (s : State) (pc npc : DWord) (slot : Bool) : State :=
  { s with
    gl := restoredGl s (frameAt s s.tl)
    ccr := (frameAt s s.tl).tstate.ccr
    asi := (frameAt s s.tl).tstate.asi
    pstate := (frameAt s s.tl).tstate.pstate
    win := { s.win with cwp := (frameAt s s.tl).tstate.cwp }
    hpstate := (frameAt s s.tl).htstate
    pc := pc
    npc := npc
    tl := s.tl - 1
    delaySlot := slot }

/-! ### The end of an instruction -/

/-- An exception, with the state as the exception leaves it before trap entry: unchanged but for the registers a rule says
the exception itself updates (FSR.ftt and cexc, FPRS, the MMU's fault registers). -/
structure Stop where
  trap : Trap
  state : State
deriving DecidableEq, Repr

/-- An instruction's own effect: the state after it, or the exception that ends it. -/
abbrev Effect (α : Type) : Type := Except Stop α

/-- What a meaning answers. -/
abbrev Run : Type := Host.Outcome State Fault Refusal

/-- Raise an exception that changes nothing before trap entry. -/
def raise {α : Type} (s : State) (e : Trap) : Effect α := .error ⟨e, s⟩

/-- The outcome of an instruction: a raised exception is taken (rule R1201). -/
def complete : Effect State → Run
  | .ok s => .next s
  | .error x => .next (takeTrap x.state x.trap)

/-- The outcome of an instruction that takes the exception given. -/
def trapTo (s : State) (e : Trap) : Run := .next (takeTrap s e)

end Sys2Proof.Machine
end

