-- ==== Sys2Proof/Machine/Operands.lean ====
section
/-! DEFINITION. The operand forms of the instruction formats: their values, and the effective addresses and displacements. -/

namespace Sys2Proof.Machine

/-- `src2` of FMT3_RR / FMT3_RI (rule R470). -/
def src2 (s : State) : RegOrImm13 → DWord
  | .reg rs2 => getR s rs2
  | .imm simm13 => simm13.signExtend 64

/-- The second operand of MOVcc (rule R519). -/
def src11 (s : State) : RegOrImm11 → DWord
  | .reg rs2 => getR s rs2
  | .imm simm11 => simm11.signExtend 64

/-- The second operand of MOVr (rule R552). -/
def src10 (s : State) : RegOrImm10 → DWord
  | .reg rs2 => getR s rs2
  | .imm simm10 => simm10.signExtend 64

/-- The shift count of SLL, SRL and SRA: R[rs2][4:0] or shcnt32. -/
def count32 (s : State) : Count32 → Nat
  | .reg rs2 => ((getR s rs2).extractLsb' 0 5).toNat
  | .imm shcnt32 => shcnt32.toNat

/-- The shift count of SLLX, SRLX and SRAX: R[rs2][5:0] or shcnt64. -/
def count64 (s : State) : Count64 → Nat
  | .reg rs2 => ((getR s rs2).extractLsb' 0 6).toNat
  | .imm shcnt64 => shcnt64.toNat

/-- The second operand of Tcc (rule R684). -/
def srcTrap (s : State) : TrapOperand → DWord
  | .reg rs2 => getR s rs2
  | .imm number => number.setWidth 64

/-- EA of a load or store: R[rs1] plus the second operand, modulo 2^64 (rule R730). -/
def effectiveAddress (s : State) (rs1 : BitVec 5) (op2 : RegOrImm13) : DWord := getR s rs1 + src2 s op2

/-- EA of an alternate-space access (rule R730). -/
def asiAddress (s : State) (rs1 : BitVec 5) : AsiOperand → DWord
  | .reg rs2 _ => getR s rs1 + getR s rs2
  | .imm simm13 => getR s rs1 + simm13.signExtend 64

/-- The ASI of an alternate-space access: immediate, or the ASI register (rules R347, R731). -/
def asiNumber (s : State) : AsiOperand → Byte
  | .reg _ asi => asi
  | .imm _ => s.asi

/-- The ASI of CASA and CASXA (rule R731). -/
def casAsi (s : State) : AsiSelect → Byte
  | .imm asi => asi
  | .asiReg => s.asi

/-- EA of a PC-relative control transfer: PC + 4 * sext(disp) (rule R603). -/
def branchTarget {w : Nat} (s : State) (disp : BitVec w) : DWord := s.pc + (disp.signExtend 64 <<< 2)

end Sys2Proof.Machine
end

