-- ==== Sys2Proof/Machine/Flags.lean ====
section
/-! DEFINITION. Every flag computation: the condition codes of the integer instructions (rules R471 to R473, R505, R509, R511,
R512), and the evaluation of the integer, floating-point and register conditions (rules R604, R605, R641 to R646). -/

namespace Sys2Proof.Machine

/-- The lower 32 bits of a register value. -/
def lo32 (a : DWord) : Word := a.extractLsb' 0 32

/-- The flags of the addition `a + b + cin` at one width (rule R471). -/
def addCC {w : Nat} (a b : BitVec w) (cin : Bool) : CC :=
  let r := a + b + BitVec.ofNat w cin.toNat
  { n := r.msb
    z := r == 0
    v := a.msb == b.msb && r.msb != a.msb
    c := decide (2 ^ w ≤ a.toNat + b.toNat + cin.toNat) }

/-- AddCC (rule R471). -/
def addCcr (a b : DWord) (cin : Bool) : Ccr := ⟨addCC a b cin, addCC (lo32 a) (lo32 b) cin⟩

/-- The flags of the subtraction `a - b - cin` at one width (rule R472). -/
def subCC {w : Nat} (a b : BitVec w) (cin : Bool) : CC :=
  let r := a - b - BitVec.ofNat w cin.toNat
  { n := r.msb
    z := r == 0
    v := a.msb != b.msb && r.msb != a.msb
    c := decide (a.toNat < b.toNat + cin.toNat) }

/-- SubCC (rule R472). -/
def subCcr (a b : DWord) (cin : Bool) : Ccr := ⟨subCC a b cin, subCC (lo32 a) (lo32 b) cin⟩

/-- The n and z of a result, v and c zero, at one width (rule R473). -/
def logicCC {w : Nat} (r : BitVec w) : CC := { n := r.msb, z := r == 0, v := false, c := false }

/-- LogicCC (rule R473); also the flags of UMULcc and SMULcc (rules R505, R506). -/
def logicCcr (r : DWord) : Ccr := ⟨logicCC r, logicCC (lo32 r)⟩

/-- The flags of UDIVcc and SDIVcc from the value written and the overflow of the quotient (rules R509, R510). -/
def divCcr (r : DWord) (overflow : Bool) : Ccr := ⟨logicCC r, { logicCC (lo32 r) with v := overflow }⟩

/-- Tag overflow of an addition (section 10 of spec/40_integer.md). -/
def tagOverflowAdd (a b : DWord) : Bool :=
  a.extractLsb' 0 2 != 0 || b.extractLsb' 0 2 != 0 || (addCC (lo32 a) (lo32 b) false).v

/-- Tag overflow of a subtraction. -/
def tagOverflowSub (a b : DWord) : Bool :=
  a.extractLsb' 0 2 != 0 || b.extractLsb' 0 2 != 0 || (subCC (lo32 a) (lo32 b) false).v

/-- CCR with icc.v replaced by the tag overflow (rules R512, R514). -/
def withTagOverflow (c : Ccr) (tagov : Bool) : Ccr := { c with icc := { c.icc with v := tagov } }

/-- icond(cond, cc) (rule R604). -/
def icond (cond : BitVec 4) (cc : CC) : Bool :=
  match cond.toNat with
  | 0 => false
  | 1 => cc.z
  | 2 => cc.z || (cc.n != cc.v)
  | 3 => cc.n != cc.v
  | 4 => cc.c || cc.z
  | 5 => cc.c
  | 6 => cc.n
  | 7 => cc.v
  | 8 => true
  | 9 => !cc.z
  | 10 => !(cc.z || (cc.n != cc.v))
  | 11 => !(cc.n != cc.v)
  | 12 => !(cc.c || cc.z)
  | 13 => !cc.c
  | 14 => !cc.n
  | _ => !cc.v

/-- fcond(cond, fcc) (rule R605); fcc is 0 equal, 1 less, 2 greater, 3 unordered. -/
def fcond (cond : BitVec 4) (fcc : BitVec 2) : Bool :=
  match cond.toNat with
  | 0 => false
  | 1 => fcc != 0
  | 2 => fcc == 1 || fcc == 2
  | 3 => fcc == 1 || fcc == 3
  | 4 => fcc == 1
  | 5 => fcc == 2 || fcc == 3
  | 6 => fcc == 2
  | 7 => fcc == 3
  | 8 => true
  | 9 => fcc == 0
  | 10 => fcc == 0 || fcc == 3
  | 11 => fcc == 0 || fcc == 2
  | 12 => fcc == 0 || fcc == 2 || fcc == 3
  | 13 => fcc == 0 || fcc == 1
  | 14 => fcc == 0 || fcc == 1 || fcc == 3
  | _ => fcc == 0 || fcc == 1 || fcc == 2

/-- rtest(rcond, v), v as a signed 64-bit integer (rules R641 to R646); 000 and 100 are reserved and test nothing. -/
def rtest (rcond : BitVec 3) (v : DWord) : Bool :=
  match rcond.toNat with
  | 1 => v == 0
  | 2 => v == 0 || v.msb
  | 3 => v.msb
  | 5 => v != 0
  | 6 => !(v == 0 || v.msb)
  | 7 => !v.msb
  | _ => false

/-- The condition codes an instruction names. -/
def selectCC (s : State) : IccSelect → CC
  | .icc => s.ccr.icc
  | .xcc => s.ccr.xcc

end Sys2Proof.Machine
end

