-- ==== Sys2Proof/Machine/Control.lean ====
section
/-! DEFINITION. The meanings of spec/41_control_transfer.md: branches, CALL, JMPL, RETURN, ILLTRAP, the traps Tcc, DONE and RETRY. -/

namespace Sys2Proof.Machine

/-! ### Shared operations -/

/-- Branch(taken, uncond, a, EA) (rule R602). What counts as standing in its delay slot (rule R1462 U1) is not said of every branch
(DESIGN CHOICE, assumption log entry 15): the next instruction does after a taken transfer that is delayed and after an untaken
conditional branch with a = 0; after a branch never (BN, BPN, FBN, FBPN), which with a = 0 acts as a NOP (rule R608), it does
not. -/
def branch (s : State) (taken uncond : Bool) (a : BitVec 1) (ea : DWord) : State :=
  if taken && !(uncond && a == 1) then delayedTransfer s ea
  else if taken then jump s ea (ea + 4) false
  else if a = 1 then jump s (s.npc + 4) (s.npc + 8) false
  else jump s s.npc (s.npc + 4) (!uncond)

/-- `cond` is 1000 (always) or 0000 (never) (rule R602). -/
def isUnconditional (cond : BitVec 4) : Bool := cond == 8 || cond == 0

/-- A branch on integer condition codes (rules R603, R623; section 2 of spec/41_control_transfer.md). -/
def branchIcc {w : Nat} (s : State) (cond : BitVec 4) (cc : CC) (a : BitVec 1) (disp : BitVec w) : Run :=
  .next (branch s (icond cond cc) (isUnconditional cond) a (branchTarget s disp))

/-- A branch on a floating-point condition code (rule R664; section 6 of spec/41_control_transfer.md). -/
def branchFcc {w : Nat} (s : State) (cond : BitVec 4) (cc : BitVec 2) (a : BitVec 1) (disp : BitVec w) : Run :=
  if fpuEnabled s then
    .next (branch s (fcond cond (fsrFcc s.fsr cc)) (isUnconditional cond) a (branchTarget s disp))
  else trapTo s .fpDisabled

/-- A branch on a register (rule R640). -/
def branchReg (s : State) (rcond : BitVec 3) (a : BitVec 1) (rs1 : BitVec 5) (disp : BitVec 16) : Run :=
  .next (branch s (rtest rcond (getR s rs1)) false a (branchTarget s disp))

/-- The software trap number of Tcc: 7 bits of the sum in nonprivileged mode, else 8 (rule R684). -/
def softwareTrapNumber (s : State) (rs1 : BitVec 5) (op2 : TrapOperand) : Byte :=
  if isUser s then 0#1 ++ (getR s rs1 + srcTrap s op2).extractLsb' 0 7
  else (getR s rs1 + srcTrap s op2).extractLsb' 0 8

/-- Tcc (rule R684). -/
def trapIf (s : State) (cond : BitVec 4) (cc : CC) (rs1 : BitVec 5) (op2 : TrapOperand) : Run :=
  if icond cond cc then trapTo s (.softwareTrap (softwareTrapNumber s rs1 op2)) else .next (advance s)

/-- RESTORE's and RETURN's window movement where the window can be restored (rules R683, R882). -/
def previousWindow (s : State) : State :=
  { s with win :=
      { s.win with cwp := s.win.cwp - 1, cansave := s.win.cansave + 1, canrestore := s.win.canrestore - 1 } }

/-- What a misaligned JMPL or RETURN leaves in DSFAR (IMPL. DEP. #237, rule R1383). -/
def noteTarget (s : State) (a : DWord) : State :=
  { s with mmu := { s.mmu with dsfar := if Config.dsfarOnMisalign then maskAm s a else s.mmu.dsfar } }

/-- An address is a multiple of 4. -/
def wordAligned (a : DWord) : Bool := a.extractLsb' 0 2 == 0

/-- DONE and RETRY: the checks, then the return to the program counters, and to the delay slot or not, that `place` reads from the
current trap-stack entry (rules R701, R702, R1462 U1). -/
def returnFromTrap (s : State) (place : TrapFrame → DWord × DWord × Bool) : Run :=
  if isUser s then trapTo s .privilegedOpcode
  else if s.tl = 0 then trapTo s .illegalInstruction
  else if s.delaySlot then .refused .doneRetryInDelaySlot
  else .next (trapReturn s (place (frameAt s s.tl)).1 (place (frameAt s s.tl)).2.1 (place (frameAt s s.tl)).2.2)

/-- BA (rule R607). -/
def execBa (a : BitVec 1) (disp22 : BitVec 22) (s : State) : Run := branchIcc s 8 s.ccr.icc a disp22

/-- BN (rule R608). -/
def execBn (a : BitVec 1) (disp22 : BitVec 22) (s : State) : Run := branchIcc s 0 s.ccr.icc a disp22

/-- BNE (rule R609). -/
def execBne (a : BitVec 1) (disp22 : BitVec 22) (s : State) : Run := branchIcc s 9 s.ccr.icc a disp22

/-- BE (rule R610). -/
def execBe (a : BitVec 1) (disp22 : BitVec 22) (s : State) : Run := branchIcc s 1 s.ccr.icc a disp22

/-- BG (rule R611). -/
def execBg (a : BitVec 1) (disp22 : BitVec 22) (s : State) : Run := branchIcc s 10 s.ccr.icc a disp22

/-- BLE (rule R612). -/
def execBle (a : BitVec 1) (disp22 : BitVec 22) (s : State) : Run := branchIcc s 2 s.ccr.icc a disp22

/-- BGE (rule R613). -/
def execBge (a : BitVec 1) (disp22 : BitVec 22) (s : State) : Run := branchIcc s 11 s.ccr.icc a disp22

/-- BL (rule R614). -/
def execBl (a : BitVec 1) (disp22 : BitVec 22) (s : State) : Run := branchIcc s 3 s.ccr.icc a disp22

/-- BGU (rule R615). -/
def execBgu (a : BitVec 1) (disp22 : BitVec 22) (s : State) : Run := branchIcc s 12 s.ccr.icc a disp22

/-- BLEU (rule R616). -/
def execBleu (a : BitVec 1) (disp22 : BitVec 22) (s : State) : Run := branchIcc s 4 s.ccr.icc a disp22

/-- BCC (rule R617). -/
def execBcc (a : BitVec 1) (disp22 : BitVec 22) (s : State) : Run := branchIcc s 13 s.ccr.icc a disp22

/-- BCS (rule R618). -/
def execBcs (a : BitVec 1) (disp22 : BitVec 22) (s : State) : Run := branchIcc s 5 s.ccr.icc a disp22

/-- BPOS (rule R619). -/
def execBpos (a : BitVec 1) (disp22 : BitVec 22) (s : State) : Run := branchIcc s 14 s.ccr.icc a disp22

/-- BNEG (rule R620). -/
def execBneg (a : BitVec 1) (disp22 : BitVec 22) (s : State) : Run := branchIcc s 6 s.ccr.icc a disp22

/-- BVC (rule R621). -/
def execBvc (a : BitVec 1) (disp22 : BitVec 22) (s : State) : Run := branchIcc s 15 s.ccr.icc a disp22

/-- BVS (rule R622). -/
def execBvs (a : BitVec 1) (disp22 : BitVec 22) (s : State) : Run := branchIcc s 7 s.ccr.icc a disp22

/-- BPA (rule R624). -/
def execBpa (a : BitVec 1) (cc : IccSelect) (_p : BitVec 1) (disp19 : BitVec 19) (s : State) : Run :=
  branchIcc s 8 (selectCC s cc) a disp19

/-- BPN (rule R625). -/
def execBpn (a : BitVec 1) (cc : IccSelect) (_p : BitVec 1) (disp19 : BitVec 19) (s : State) : Run :=
  branchIcc s 0 (selectCC s cc) a disp19

/-- BPNE (rule R626). -/
def execBpne (a : BitVec 1) (cc : IccSelect) (_p : BitVec 1) (disp19 : BitVec 19) (s : State) : Run :=
  branchIcc s 9 (selectCC s cc) a disp19

/-- BPE (rule R627). -/
def execBpe (a : BitVec 1) (cc : IccSelect) (_p : BitVec 1) (disp19 : BitVec 19) (s : State) : Run :=
  branchIcc s 1 (selectCC s cc) a disp19

/-- BPG (rule R628). -/
def execBpg (a : BitVec 1) (cc : IccSelect) (_p : BitVec 1) (disp19 : BitVec 19) (s : State) : Run :=
  branchIcc s 10 (selectCC s cc) a disp19

/-- BPLE (rule R629). -/
def execBple (a : BitVec 1) (cc : IccSelect) (_p : BitVec 1) (disp19 : BitVec 19) (s : State) : Run :=
  branchIcc s 2 (selectCC s cc) a disp19

/-- BPGE (rule R630). -/
def execBpge (a : BitVec 1) (cc : IccSelect) (_p : BitVec 1) (disp19 : BitVec 19) (s : State) : Run :=
  branchIcc s 11 (selectCC s cc) a disp19

/-- BPL (rule R631). -/
def execBpl (a : BitVec 1) (cc : IccSelect) (_p : BitVec 1) (disp19 : BitVec 19) (s : State) : Run :=
  branchIcc s 3 (selectCC s cc) a disp19

/-- BPGU (rule R632). -/
def execBpgu (a : BitVec 1) (cc : IccSelect) (_p : BitVec 1) (disp19 : BitVec 19) (s : State) : Run :=
  branchIcc s 12 (selectCC s cc) a disp19

/-- BPLEU (rule R633). -/
def execBpleu (a : BitVec 1) (cc : IccSelect) (_p : BitVec 1) (disp19 : BitVec 19) (s : State) : Run :=
  branchIcc s 4 (selectCC s cc) a disp19

/-- BPCC (rule R634). -/
def execBpcc (a : BitVec 1) (cc : IccSelect) (_p : BitVec 1) (disp19 : BitVec 19) (s : State) : Run :=
  branchIcc s 13 (selectCC s cc) a disp19

/-- BPCS (rule R635). -/
def execBpcs (a : BitVec 1) (cc : IccSelect) (_p : BitVec 1) (disp19 : BitVec 19) (s : State) : Run :=
  branchIcc s 5 (selectCC s cc) a disp19

/-- BPPOS (rule R636). -/
def execBppos (a : BitVec 1) (cc : IccSelect) (_p : BitVec 1) (disp19 : BitVec 19) (s : State) : Run :=
  branchIcc s 14 (selectCC s cc) a disp19

/-- BPNEG (rule R637). -/
def execBpneg (a : BitVec 1) (cc : IccSelect) (_p : BitVec 1) (disp19 : BitVec 19) (s : State) : Run :=
  branchIcc s 6 (selectCC s cc) a disp19

/-- BPVC (rule R638). -/
def execBpvc (a : BitVec 1) (cc : IccSelect) (_p : BitVec 1) (disp19 : BitVec 19) (s : State) : Run :=
  branchIcc s 15 (selectCC s cc) a disp19

/-- BPVS (rule R639). -/
def execBpvs (a : BitVec 1) (cc : IccSelect) (_p : BitVec 1) (disp19 : BitVec 19) (s : State) : Run :=
  branchIcc s 7 (selectCC s cc) a disp19

/-- BRZ (rule R641). -/
def execBrz (a : BitVec 1) (_p : BitVec 1) (rs1 : BitVec 5) (disp16 : BitVec 16) (s : State) : Run :=
  branchReg s 1 a rs1 disp16

/-- BRLEZ (rule R642). -/
def execBrlez (a : BitVec 1) (_p : BitVec 1) (rs1 : BitVec 5) (disp16 : BitVec 16) (s : State) : Run :=
  branchReg s 2 a rs1 disp16

/-- BRLZ (rule R643). -/
def execBrlz (a : BitVec 1) (_p : BitVec 1) (rs1 : BitVec 5) (disp16 : BitVec 16) (s : State) : Run :=
  branchReg s 3 a rs1 disp16

/-- BRNZ (rule R644). -/
def execBrnz (a : BitVec 1) (_p : BitVec 1) (rs1 : BitVec 5) (disp16 : BitVec 16) (s : State) : Run :=
  branchReg s 5 a rs1 disp16

/-- BRGZ (rule R645). -/
def execBrgz (a : BitVec 1) (_p : BitVec 1) (rs1 : BitVec 5) (disp16 : BitVec 16) (s : State) : Run :=
  branchReg s 6 a rs1 disp16

/-- BRGEZ (rule R646). -/
def execBrgez (a : BitVec 1) (_p : BitVec 1) (rs1 : BitVec 5) (disp16 : BitVec 16) (s : State) : Run :=
  branchReg s 7 a rs1 disp16

/-- CALL (rule R647). -/
def execCall (disp30 : BitVec 30) (s : State) : Run :=
  .next (delayedTransfer (setR s 15 (maskAm s s.pc)) (branchTarget s disp30))

/-- FBA (rule R648). -/
def execFba (a : BitVec 1) (disp22 : BitVec 22) (s : State) : Run := branchFcc s 8 0 a disp22

/-- FBN (rule R649). -/
def execFbn (a : BitVec 1) (disp22 : BitVec 22) (s : State) : Run := branchFcc s 0 0 a disp22

/-- FBU (rule R650). -/
def execFbu (a : BitVec 1) (disp22 : BitVec 22) (s : State) : Run := branchFcc s 7 0 a disp22

/-- FBG (rule R651). -/
def execFbg (a : BitVec 1) (disp22 : BitVec 22) (s : State) : Run := branchFcc s 6 0 a disp22

/-- FBUG (rule R652). -/
def execFbug (a : BitVec 1) (disp22 : BitVec 22) (s : State) : Run := branchFcc s 5 0 a disp22

/-- FBL (rule R653). -/
def execFbl (a : BitVec 1) (disp22 : BitVec 22) (s : State) : Run := branchFcc s 4 0 a disp22

/-- FBUL (rule R654). -/
def execFbul (a : BitVec 1) (disp22 : BitVec 22) (s : State) : Run := branchFcc s 3 0 a disp22

/-- FBLG (rule R655). -/
def execFblg (a : BitVec 1) (disp22 : BitVec 22) (s : State) : Run := branchFcc s 2 0 a disp22

/-- FBNE (rule R656). -/
def execFbne (a : BitVec 1) (disp22 : BitVec 22) (s : State) : Run := branchFcc s 1 0 a disp22

/-- FBE (rule R657). -/
def execFbe (a : BitVec 1) (disp22 : BitVec 22) (s : State) : Run := branchFcc s 9 0 a disp22

/-- FBUE (rule R658). -/
def execFbue (a : BitVec 1) (disp22 : BitVec 22) (s : State) : Run := branchFcc s 10 0 a disp22

/-- FBGE (rule R659). -/
def execFbge (a : BitVec 1) (disp22 : BitVec 22) (s : State) : Run := branchFcc s 11 0 a disp22

/-- FBUGE (rule R660). -/
def execFbuge (a : BitVec 1) (disp22 : BitVec 22) (s : State) : Run := branchFcc s 12 0 a disp22

/-- FBLE (rule R661). -/
def execFble (a : BitVec 1) (disp22 : BitVec 22) (s : State) : Run := branchFcc s 13 0 a disp22

/-- FBULE (rule R662). -/
def execFbule (a : BitVec 1) (disp22 : BitVec 22) (s : State) : Run := branchFcc s 14 0 a disp22

/-- FBO (rule R663). -/
def execFbo (a : BitVec 1) (disp22 : BitVec 22) (s : State) : Run := branchFcc s 15 0 a disp22

/-- FBPA (rule R665). -/
def execFbpa (a : BitVec 1) (cc : BitVec 2) (_p : BitVec 1) (disp19 : BitVec 19) (s : State) : Run :=
  branchFcc s 8 cc a disp19

/-- FBPN (rule R666). -/
def execFbpn (a : BitVec 1) (cc : BitVec 2) (_p : BitVec 1) (disp19 : BitVec 19) (s : State) : Run :=
  branchFcc s 0 cc a disp19

/-- FBPU (rule R667). -/
def execFbpu (a : BitVec 1) (cc : BitVec 2) (_p : BitVec 1) (disp19 : BitVec 19) (s : State) : Run :=
  branchFcc s 7 cc a disp19

/-- FBPG (rule R668). -/
def execFbpg (a : BitVec 1) (cc : BitVec 2) (_p : BitVec 1) (disp19 : BitVec 19) (s : State) : Run :=
  branchFcc s 6 cc a disp19

/-- FBPUG (rule R669). -/
def execFbpug (a : BitVec 1) (cc : BitVec 2) (_p : BitVec 1) (disp19 : BitVec 19) (s : State) : Run :=
  branchFcc s 5 cc a disp19

/-- FBPL (rule R670). -/
def execFbpl (a : BitVec 1) (cc : BitVec 2) (_p : BitVec 1) (disp19 : BitVec 19) (s : State) : Run :=
  branchFcc s 4 cc a disp19

/-- FBPUL (rule R671). -/
def execFbpul (a : BitVec 1) (cc : BitVec 2) (_p : BitVec 1) (disp19 : BitVec 19) (s : State) : Run :=
  branchFcc s 3 cc a disp19

/-- FBPLG (rule R672). -/
def execFbplg (a : BitVec 1) (cc : BitVec 2) (_p : BitVec 1) (disp19 : BitVec 19) (s : State) : Run :=
  branchFcc s 2 cc a disp19

/-- FBPNE (rule R673). -/
def execFbpne (a : BitVec 1) (cc : BitVec 2) (_p : BitVec 1) (disp19 : BitVec 19) (s : State) : Run :=
  branchFcc s 1 cc a disp19

/-- FBPE (rule R674). -/
def execFbpe (a : BitVec 1) (cc : BitVec 2) (_p : BitVec 1) (disp19 : BitVec 19) (s : State) : Run :=
  branchFcc s 9 cc a disp19

/-- FBPUE (rule R675). -/
def execFbpue (a : BitVec 1) (cc : BitVec 2) (_p : BitVec 1) (disp19 : BitVec 19) (s : State) : Run :=
  branchFcc s 10 cc a disp19

/-- FBPGE (rule R676). -/
def execFbpge (a : BitVec 1) (cc : BitVec 2) (_p : BitVec 1) (disp19 : BitVec 19) (s : State) : Run :=
  branchFcc s 11 cc a disp19

/-- FBPUGE (rule R677). -/
def execFbpuge (a : BitVec 1) (cc : BitVec 2) (_p : BitVec 1) (disp19 : BitVec 19) (s : State) : Run :=
  branchFcc s 12 cc a disp19

/-- FBPLE (rule R678). -/
def execFbple (a : BitVec 1) (cc : BitVec 2) (_p : BitVec 1) (disp19 : BitVec 19) (s : State) : Run :=
  branchFcc s 13 cc a disp19

/-- FBPULE (rule R679). -/
def execFbpule (a : BitVec 1) (cc : BitVec 2) (_p : BitVec 1) (disp19 : BitVec 19) (s : State) : Run :=
  branchFcc s 14 cc a disp19

/-- FBPO (rule R680). -/
def execFbpo (a : BitVec 1) (cc : BitVec 2) (_p : BitVec 1) (disp19 : BitVec 19) (s : State) : Run :=
  branchFcc s 15 cc a disp19

/-- ILLTRAP (rule R681). -/
def execIlltrap (_const22 : BitVec 22) (s : State) : Run := trapTo s .illegalInstruction

/-- JMPL (rule R682). -/
def execJmpl (rd : BitVec 5) (rs1 : BitVec 5) (op2 : RegOrImm13) (s : State) : Run :=
  if wordAligned (effectiveAddress s rs1 op2) then
    .next (delayedTransfer (setR s rd (maskAm s s.pc)) (effectiveAddress s rs1 op2))
  else trapTo (noteTarget s (effectiveAddress s rs1 op2)) .memAddressNotAligned

/-- RETURN (rule R683). -/
def execReturn_ (rs1 : BitVec 5) (op2 : RegOrImm13) (s : State) : Run :=
  if s.win.canrestore = 0 then trapTo s (fillTrap s)
  else if wordAligned (effectiveAddress s rs1 op2) then
    .next (delayedTransfer (previousWindow s) (effectiveAddress s rs1 op2))
  else trapTo (noteTarget s (effectiveAddress s rs1 op2)) .memAddressNotAligned

/-- TA (rule R685). -/
def execTa (cc : IccSelect) (rs1 : BitVec 5) (op2 : TrapOperand) (s : State) : Run :=
  trapIf s 8 (selectCC s cc) rs1 op2

/-- TN (rule R686). -/
def execTn (cc : IccSelect) (rs1 : BitVec 5) (op2 : TrapOperand) (s : State) : Run :=
  trapIf s 0 (selectCC s cc) rs1 op2

/-- TNE (rule R687). -/
def execTne (cc : IccSelect) (rs1 : BitVec 5) (op2 : TrapOperand) (s : State) : Run :=
  trapIf s 9 (selectCC s cc) rs1 op2

/-- TE (rule R688). -/
def execTe (cc : IccSelect) (rs1 : BitVec 5) (op2 : TrapOperand) (s : State) : Run :=
  trapIf s 1 (selectCC s cc) rs1 op2

/-- TG (rule R689). -/
def execTg (cc : IccSelect) (rs1 : BitVec 5) (op2 : TrapOperand) (s : State) : Run :=
  trapIf s 10 (selectCC s cc) rs1 op2

/-- TLE (rule R690). -/
def execTle (cc : IccSelect) (rs1 : BitVec 5) (op2 : TrapOperand) (s : State) : Run :=
  trapIf s 2 (selectCC s cc) rs1 op2

/-- TGE (rule R691). -/
def execTge (cc : IccSelect) (rs1 : BitVec 5) (op2 : TrapOperand) (s : State) : Run :=
  trapIf s 11 (selectCC s cc) rs1 op2

/-- TL (rule R692). -/
def execTl (cc : IccSelect) (rs1 : BitVec 5) (op2 : TrapOperand) (s : State) : Run :=
  trapIf s 3 (selectCC s cc) rs1 op2

/-- TGU (rule R693). -/
def execTgu (cc : IccSelect) (rs1 : BitVec 5) (op2 : TrapOperand) (s : State) : Run :=
  trapIf s 12 (selectCC s cc) rs1 op2

/-- TLEU (rule R694). -/
def execTleu (cc : IccSelect) (rs1 : BitVec 5) (op2 : TrapOperand) (s : State) : Run :=
  trapIf s 4 (selectCC s cc) rs1 op2

/-- TCC (rule R695). -/
def execTcc (cc : IccSelect) (rs1 : BitVec 5) (op2 : TrapOperand) (s : State) : Run :=
  trapIf s 13 (selectCC s cc) rs1 op2

/-- TCS (rule R696). -/
def execTcs (cc : IccSelect) (rs1 : BitVec 5) (op2 : TrapOperand) (s : State) : Run :=
  trapIf s 5 (selectCC s cc) rs1 op2

/-- TPOS (rule R697). -/
def execTpos (cc : IccSelect) (rs1 : BitVec 5) (op2 : TrapOperand) (s : State) : Run :=
  trapIf s 14 (selectCC s cc) rs1 op2

/-- TNEG (rule R698). -/
def execTneg (cc : IccSelect) (rs1 : BitVec 5) (op2 : TrapOperand) (s : State) : Run :=
  trapIf s 6 (selectCC s cc) rs1 op2

/-- TVC (rule R699). -/
def execTvc (cc : IccSelect) (rs1 : BitVec 5) (op2 : TrapOperand) (s : State) : Run :=
  trapIf s 15 (selectCC s cc) rs1 op2

/-- TVS (rule R700). -/
def execTvs (cc : IccSelect) (rs1 : BitVec 5) (op2 : TrapOperand) (s : State) : Run :=
  trapIf s 7 (selectCC s cc) rs1 op2

/-- DONE (rule R701). The instruction at TNPC stands in no delay slot (assumption log entry 15). -/
def execDone (s : State) : Run := returnFromTrap s fun f => (addressOfHigh62 f.tnpc, addressOfHigh62 f.tnpc + 4, false)

/-- RETRY (rule R702). The instruction at TPC stands in a delay slot if it did when it was trapped (assumption log entry 15). -/
def execRetry (s : State) : Run := returnFromTrap s fun f => (addressOfHigh62 f.tpc, addressOfHigh62 f.tnpc, f.delaySlot)

end Sys2Proof.Machine
end

