-- ==== Sys2Proof/Machine/Ieee.lean ====
section
/-! DEFINITION. IEEE 754 arithmetic (rules R964 to R970): a value is an exact fraction of naturals, an operation computes the
exact result, and `deliver` rounds it once. Bit patterns are natural numbers below `2 ^ width`; Machine/Float.lean converts
registers to patterns and back. -/

namespace Sys2Proof.Machine

/-- A binary interchange format: the widths of its fraction and exponent fields (rules R244 to R246). -/
structure FpFormat where
  frac : Nat
  exp : Nat
deriving DecidableEq, Repr

namespace FpFormat

/-- Single precision. -/
def single : FpFormat := ⟨23, 8⟩

/-- Double precision. -/
def double : FpFormat := ⟨52, 11⟩

/-- The exponent bias. -/
def bias (f : FpFormat) : Nat := 2 ^ (f.exp - 1) - 1

/-- The exponent field of infinities and NaNs. -/
def maxExp (f : FpFormat) : Nat := 2 ^ f.exp - 1

/-- +infinity. -/
def infinity (f : FpFormat) : Nat := f.maxExp * 2 ^ f.frac

/-- MAXFINITE. -/
def maxFinite (f : FpFormat) : Nat := f.infinity - 1

/-- The sign bit's weight. -/
def signBit (f : FpFormat) : Nat := 2 ^ (f.frac + f.exp)

/-- DefaultNaN (rule R968). -/
def defaultNan (f : FpFormat) : Nat := f.signBit - 1

/-- The most significant fraction bit, which a quiet NaN has set (rule R968). -/
def quietBit (f : FpFormat) : Nat := 2 ^ (f.frac - 1)

end FpFormat

/-- The sign of a pattern. -/
def fpSign (f : FpFormat) (x : Nat) : Bool := decide (f.signBit ≤ x)

/-- A pattern without its sign bit. -/
def fpMagnitude (f : FpFormat) (x : Nat) : Nat := x % f.signBit

/-- A magnitude with a sign. -/
def fpWithSign (f : FpFormat) (sign : Bool) (mag : Nat) : Nat := if sign then f.signBit + mag else mag

/-- A NaN. -/
def fpIsNan (f : FpFormat) (x : Nat) : Bool := decide (f.infinity < fpMagnitude f x)

/-- A signalling NaN. -/
def fpIsSnan (f : FpFormat) (x : Nat) : Bool := fpIsNan f x && !(x.testBit (f.frac - 1))

/-- quiet(n) (rule R968). -/
def fpQuiet (f : FpFormat) (x : Nat) : Nat := if x.testBit (f.frac - 1) then x else x + f.quietBit

/-- An infinity. -/
def fpIsInf (f : FpFormat) (x : Nat) : Bool := fpMagnitude f x == f.infinity

/-- The magnitude of a value: the fraction `num / den`, `den` positive. -/
structure FpFraction where
  num : Nat
  den : Nat
deriving DecidableEq, Repr

/-- `m * 2 ^ (p - q)` as a fraction. -/
def scaled (m p q : Nat) : FpFraction := if q ≤ p then ⟨m * 2 ^ (p - q), 1⟩ else ⟨m, 2 ^ (q - p)⟩

/-- The exact magnitude of a finite pattern (rules R245, R246). -/
def fpValue (f : FpFormat) (x : Nat) : FpFraction :=
  let mag := fpMagnitude f x
  let e := mag / 2 ^ f.frac
  if e = 0 then scaled mag 1 (f.bias + f.frac)
  else scaled (mag % 2 ^ f.frac + 2 ^ f.frac) e (f.bias + f.frac)

/-- What an operation delivers: the pattern and the exceptions it detects. -/
structure FpResult where
  bits : Nat
  flags : IeeeFlags
deriving DecidableEq, Repr

/-- No exception. -/
def FpResult.exact (bits : Nat) : FpResult := ⟨bits, IeeeFlags.none⟩

/-- An invalid operation (rule R965). -/
def FpResult.invalid (bits : Nat) : FpResult := ⟨bits, { IeeeFlags.none with nv := true }⟩

/-- What rounding depends on: the rounding mode RM, and FSR.tem.ufm (rules R56, R964). -/
structure Rounding where
  mode : BitVec 2
  ufm : Bool
deriving DecidableEq, Repr

/-- A fraction rounded to an integer, and whether that changed it. -/
def roundInteger (mode : BitVec 2) (sign : Bool) (x : FpFraction) : Nat × Bool :=
  let q := x.num / x.den
  let r := x.num % x.den
  let up :=
    if mode = 0 then decide (x.den < 2 * r) || (2 * r == x.den && q % 2 == 1)
    else if mode = 1 then false
    else if mode = 2 then !sign && r != 0
    else sign && r != 0
  (if up then q + 1 else q, r != 0)

/-- A fraction divided by `2 ^ k`. -/
def FpFraction.shift (x : FpFraction) (k : Int) : FpFraction :=
  if k < 0 then ⟨x.num * 2 ^ (-k).toNat, x.den⟩ else ⟨x.num, x.den * 2 ^ k.toNat⟩

/-- The floor of the base-2 logarithm of a positive fraction. -/
def FpFraction.log2 (x : FpFraction) : Int :=
  let l : Int := (x.num.log2 : Int) - (x.den.log2 : Int)
  if (x.shift l).num < (x.shift l).den then l - 1 else l

/-- What an overflow delivers (rule R964). -/
def overflowResult (f : FpFormat) (mode : BitVec 2) (sign : Bool) : FpResult :=
  ⟨fpWithSign f sign (if mode = 0 ∨ (mode = 2 ∧ !sign) ∨ (mode = 3 ∧ sign) then f.infinity else f.maxFinite),
    { IeeeFlags.none with of := true, nx := true }⟩

/-- Deliver(fmt, x, sign) (rule R964): tininess is detected before rounding (rule R967). -/
def deliver (f : FpFormat) (rnd : Rounding) (sign : Bool) (x : FpFraction) : FpResult :=
  if x.num = 0 then .exact (fpWithSign f sign 0)
  else if x.log2 < 1 - (f.bias : Int) then
    let m := roundInteger rnd.mode sign (x.shift (1 - (f.bias : Int) - f.frac))
    ⟨fpWithSign f sign m.1, { IeeeFlags.none with uf := rnd.ufm || m.2, nx := m.2 }⟩
  else
    let m := roundInteger rnd.mode sign (x.shift (x.log2 - f.frac))
    let mag := (x.log2 + f.bias - 1).toNat * 2 ^ f.frac + m.1
    if f.infinity ≤ mag then overflowResult f rnd.mode sign
    else ⟨fpWithSign f sign mag, { IeeeFlags.none with nx := m.2 }⟩

/-! ### NaN operands -/

/-- The NaN that two operands, at least one of them a NaN, give, and whether it is invalid (rule R968). -/
def chooseNan (f : FpFormat) (a b : Nat) : Nat × Bool :=
  if fpIsSnan f b then (b, true)
  else if fpIsSnan f a then (a, true)
  else if fpIsNan f b then (b, false)
  else (a, false)

/-- The result of an operation in the operands' own format with a NaN operand (rule R968). -/
def nanResult (f : FpFormat) (a b : Nat) : FpResult :=
  if (chooseNan f a b).2 then .invalid (fpQuiet f (chooseNan f a b).1) else .exact (chooseNan f a b).1

/-- The NaN transformation into another format (rule R969). -/
def transformNan (src dst : FpFormat) (x : Nat) : Nat :=
  let fraction := x % 2 ^ src.frac
  let moved := if src.frac ≤ dst.frac then fraction * 2 ^ (dst.frac - src.frac) else fraction / 2 ^ (src.frac - dst.frac)
  fpWithSign dst (fpSign src x) (fpQuiet dst (dst.infinity + moved))

/-! ### Operations (rules R964, R972 to R984) -/

/-- The sum of two finite values with the signs given. -/
def addFinite (f : FpFormat) (rnd : Rounding) (sa : Bool) (a : FpFraction) (sb : Bool) (b : FpFraction) : FpResult :=
  let x := a.num * b.den
  let y := b.num * a.den
  if sa = sb then deliver f rnd sa ⟨x + y, a.den * b.den⟩
  else if x = y then deliver f rnd (rnd.mode == 3) ⟨0, 1⟩
  else if x < y then deliver f rnd sb ⟨y - x, a.den * b.den⟩
  else deliver f rnd sa ⟨x - y, a.den * b.den⟩

/-- FADD; with `negate`, FSUB: the second operand's sign is inverted unless it is a NaN. -/
def fpAdd (f : FpFormat) (rnd : Rounding) (negate : Bool) (a b : Nat) : FpResult :=
  let sa := fpSign f a
  let sb := fpSign f b != negate
  if fpIsNan f a || fpIsNan f b then nanResult f a b
  else if fpIsInf f a then (if fpIsInf f b && sa != sb then .invalid f.defaultNan else .exact a)
  else if fpIsInf f b then .exact (fpWithSign f sb f.infinity)
  else addFinite f rnd sa (fpValue f a) sb (fpValue f b)

/-- A pattern is a zero. -/
def fpIsZero (f : FpFormat) (x : Nat) : Bool := fpMagnitude f x == 0

/-- The product of operands that are not NaNs, from format `src` into format `dst`. -/
def multiplyNumbers (src dst : FpFormat) (rnd : Rounding) (a b : Nat) : FpResult :=
  let sign := fpSign src a != fpSign src b
  if fpIsInf src a || fpIsInf src b then
    (if fpIsZero src a || fpIsZero src b then .invalid dst.defaultNan else .exact (fpWithSign dst sign dst.infinity))
  else
    deliver dst rnd sign
      ⟨(fpValue src a).num * (fpValue src b).num, (fpValue src a).den * (fpValue src b).den⟩

/-- FMUL. -/
def fpMul (f : FpFormat) (rnd : Rounding) (a b : Nat) : FpResult :=
  if fpIsNan f a || fpIsNan f b then nanResult f a b else multiplyNumbers f f rnd a b

/-- FsMULd (rule R981): the NaN is chosen as in rule R968 and transformed as in rule R969. -/
def fpMulWiden (rnd : Rounding) (a b : Nat) : FpResult :=
  if fpIsNan .single a || fpIsNan .single b then
    ⟨transformNan .single .double (chooseNan .single a b).1,
      { IeeeFlags.none with nv := (chooseNan .single a b).2 }⟩
  else multiplyNumbers .single .double rnd a b

/-- FDIV (rule R983). -/
def fpDiv (f : FpFormat) (rnd : Rounding) (a b : Nat) : FpResult :=
  let sign := fpSign f a != fpSign f b
  if fpIsNan f a || fpIsNan f b then nanResult f a b
  else if fpIsInf f a then (if fpIsInf f b then .invalid f.defaultNan else .exact (fpWithSign f sign f.infinity))
  else if fpIsInf f b then .exact (fpWithSign f sign 0)
  else if fpIsZero f b then
    (if fpIsZero f a then .invalid f.defaultNan
     else ⟨fpWithSign f sign f.infinity, { IeeeFlags.none with dz := true }⟩)
  else deliver f rnd sign ⟨(fpValue f a).num * (fpValue f b).den, (fpValue f a).den * (fpValue f b).num⟩

/-- The relation an FCMP writes into fccn: 0 equal, 1 less, 2 greater, 3 unordered (rule R989). -/
def fpRelation (f : FpFormat) (a b : Nat) : BitVec 2 :=
  let key (x : Nat) : Int := if fpSign f x then -(fpMagnitude f x : Int) else (fpMagnitude f x : Int)
  if fpIsNan f a || fpIsNan f b then 3
  else if key a = key b then 0
  else if key a < key b then 1 else 2

/-! ### Conversions (rules R996 to R1010) -/

/-- FiTO and FxTO: a signed integer into a format. -/
def fpOfInt (f : FpFormat) (rnd : Rounding) (i : Int) : FpResult := deliver f rnd (decide (i < 0)) ⟨i.natAbs, 1⟩

/-- FsTOd and FdTOs. -/
def fpConvert (src dst : FpFormat) (rnd : Rounding) (x : Nat) : FpResult :=
  if fpIsNan src x then
    ⟨transformNan src dst x, { IeeeFlags.none with nv := fpIsSnan src x }⟩
  else if fpIsInf src x then .exact (fpWithSign dst (fpSign src x) dst.infinity)
  else deliver dst rnd (fpSign src x) (fpValue src x)

/-- A signed integer of `w` bits as a two's complement pattern. -/
def intPattern (w : Nat) (i : Int) : Nat := (BitVec.ofInt w i).toNat

/-- F(s,d)TO(i,x): truncation to a signed integer of `w` bits (rules R970, R1002, R1005). -/
def fpToInt (f : FpFormat) (w : Nat) (x : Nat) : FpResult :=
  let v := fpValue f x
  let t : Int := if fpSign f x then -((v.num / v.den : Nat) : Int) else ((v.num / v.den : Nat) : Int)
  if fpIsNan f x || fpIsInf f x || decide (t < -(2 ^ (w - 1) : Int)) || decide ((2 ^ (w - 1) : Int) ≤ t) then
    .invalid (if fpSign f x then 2 ^ (w - 1) else 2 ^ (w - 1) - 1)
  else ⟨intPattern w t, { IeeeFlags.none with nx := v.num % v.den != 0 }⟩

end Sys2Proof.Machine
end

