-- ==== Sys2Proof/Machine/Float.lean ====
section
/-! DEFINITION. The meanings of spec/45_floating_point.md: the floating-point operate instructions. -/

namespace Sys2Proof.Machine

/-! ### Shared operations -/

/-- RM: GSR.irnd in interval mode, else FSR.rd (rule R56). -/
def roundingMode (s : State) : BitVec 2 := if s.gsr.im then s.gsr.irnd else s.fsr.rd

/-- What rounding depends on in a state. -/
def rounding (s : State) : Rounding := ⟨roundingMode s, s.fsr.tem.uf⟩

/-- FSR.ftt <- v. -/
def setFtt (s : State) (v : BitVec 3) : State := { s with fsr := { s.fsr with ftt := v } }

/-- FSR.ftt <- 0; FSR.cexc <- 0, as the moves leave them (rules R1014, R1023). -/
def clearFpStatus (s : State) : State := { s with fsr := { s.fsr with ftt := 0, cexc := IeeeFlags.none } }

/-- The bitwise or of two sets of exceptions. -/
def ieeeOr (a b : IeeeFlags) : IeeeFlags := ⟨a.nv || b.nv, a.of || b.of, a.uf || b.uf, a.dz || b.dz, a.nx || b.nx⟩

/-- The one exception that traps, if any (rule R965). -/
def trappingException (tem e : IeeeFlags) : Option IeeeFlags :=
  if e.nv && tem.nv then some { IeeeFlags.none with nv := true }
  else if e.dz && tem.dz then some { IeeeFlags.none with dz := true }
  else if e.of && tem.of then some { IeeeFlags.none with of := true }
  else if e.uf && tem.uf then some { IeeeFlags.none with uf := true }
  else if e.nx && tem.nx then some { IeeeFlags.none with nx := true }
  else none

/-- FSR after an FPop that detected `e` completes: ftt, cexc and aexc (rule R965). -/
def fpStatus (f : Fsr) (e : IeeeFlags) : Fsr := { f with ftt := 0, cexc := e, aexc := ieeeOr f.aexc e }

/-- FSR after an FPop traps on one exception (rules R965, R966). -/
def fpTrapStatus (f : Fsr) (e : IeeeFlags) : Fsr := { f with ftt := 1, cexc := e }

/-- The end of an FPop that detected `e`: the trap, or the status and then what `write` does (rule R961 steps 5, 6). -/
def finishFp (s : State) (e : IeeeFlags) (write : State → State) : Run :=
  match trappingException s.fsr.tem e with
  | some x => trapTo { s with fsr := fpTrapStatus s.fsr x } .fpExceptionIeee754
  | none => .next (advance (write { s with fsr := fpStatus s.fsr e }))

/-- An FPop that hardware does not implement (rules R961 steps 2 and 3, R962): the FPU-enable check comes first, and fp_disabled
leaves the dirty bit that `mark` sets for the destination register, if the instruction has one (rule R68). -/
def unimplementedFPop (s : State) (mark : State → State) : Run :=
  if fpuEnabled s then trapTo (setFtt s 3) .fpExceptionOther else trapTo (mark s) .fpDisabled

/-- unfinished_FPop (rules R961 step 4, R963), else the end of the instruction. -/
def unlessUnfinished (s : State) (opf : BitVec 9) (a b : DWord) (run : Run) : Run :=
  if Config.unfinishedFPop opf a b (fsrBits s.fsr) then trapTo (setFtt s 2) .fpExceptionOther else run

/-- An FPop with a single-precision or 32-bit result. -/
def fpIntoS (s : State) (rd : BitVec 5) (r : FpResult) : Run :=
  if fpuEnabled s then finishFp s r.flags fun t => setFS t rd (BitVec.ofNat 32 r.bits) else trapTo (markFS s) .fpDisabled

/-- An FPop with a double-precision or 64-bit result. -/
def fpIntoD (s : State) (rd : BitVec 5) (r : FpResult) : Run :=
  if fpuEnabled s then finishFp s r.flags fun t => setFD t rd (BitVec.ofNat 64 r.bits) else trapTo (markFD s rd) .fpDisabled

/-- `fpIntoS` for an instruction that may be unfinished. -/
def arithIntoS (s : State) (rd : BitVec 5) (opf : BitVec 9) (a b : DWord) (r : FpResult) : Run :=
  if fpuEnabled s then unlessUnfinished s opf a b (fpIntoS s rd r) else trapTo (markFS s) .fpDisabled

/-- `fpIntoD` for an instruction that may be unfinished. -/
def arithIntoD (s : State) (rd : BitVec 5) (opf : BitVec 9) (a b : DWord) (r : FpResult) : Run :=
  if fpuEnabled s then unlessUnfinished s opf a b (fpIntoD s rd r) else trapTo (markFD s rd) .fpDisabled

/-- The pattern of a single register. -/
def patS (s : State) (field : BitVec 5) : Nat := (getFS s field).toNat

/-- The pattern of a double register. -/
def patD (s : State) (field : BitVec 5) : Nat := (getFD s field).toNat

/-- A single-precision operand as the parameter of unfinished_FPop sees it. -/
def wideS (s : State) (field : BitVec 5) : DWord := (getFS s field).setWidth 64

/-- FCMP and FCMPE (rule R989): `nv` is the invalid condition. -/
def compareFp (s : State) (cc : BitVec 2) (relation : BitVec 2) (nv : Bool) : Run :=
  if fpuEnabled s then
    finishFp s { IeeeFlags.none with nv := nv } fun t => { t with fsr := fsrSetFcc t.fsr cc relation }
  else trapTo s .fpDisabled

/-- Either operand is a signalling NaN. -/
def anySnan (f : FpFormat) (a b : Nat) : Bool := fpIsSnan f a || fpIsSnan f b

/-- Either operand is a NaN. -/
def anyNan (f : FpFormat) (a b : Nat) : Bool := fpIsNan f a || fpIsNan f b

/-- A move of a single register where `t` holds (rules R1014, R1023, R1033). -/
def moveFS (s : State) (t : Bool) (rd : BitVec 5) (v : Word) : Run :=
  if fpuEnabled s then .next (advance (clearFpStatus (if t then setFS s rd v else s))) else trapTo (markFS s) .fpDisabled

/-- A move of a double register where `t` holds (rules R1015, R1023, R1033). -/
def moveFD (s : State) (t : Bool) (rd : BitVec 5) (v : DWord) : Run :=
  if fpuEnabled s then .next (advance (clearFpStatus (if t then setFD s rd v else s))) else trapTo (markFD s rd) .fpDisabled

/-! ### Arithmetic -/

/-- FADDs (rule R972). -/
def execFadds (rd : BitVec 5) (rs1 : BitVec 5) (rs2 : BitVec 5) (s : State) : Run :=
  arithIntoS s rd 0x041 (wideS s rs1) (wideS s rs2)
    (fpAdd .single (rounding s) false (patS s rs1) (patS s rs2))

/-- FADDd (rule R973). -/
def execFaddd (rd : BitVec 5) (rs1 : BitVec 5) (rs2 : BitVec 5) (s : State) : Run :=
  arithIntoD s rd 0x042 (getFD s rs1) (getFD s rs2)
    (fpAdd .double (rounding s) false (patD s rs1) (patD s rs2))

/-- FADDq (rule R974). Not implemented in hardware. -/
def execFaddq (rd : BitVec 5) (_rs1 : BitVec 5) (_rs2 : BitVec 5) (s : State) : Run := unimplementedFPop s (markFQ · rd)

/-- FSUBs (rule R975). -/
def execFsubs (rd : BitVec 5) (rs1 : BitVec 5) (rs2 : BitVec 5) (s : State) : Run :=
  arithIntoS s rd 0x045 (wideS s rs1) (wideS s rs2)
    (fpAdd .single (rounding s) true (patS s rs1) (patS s rs2))

/-- FSUBd (rule R976). -/
def execFsubd (rd : BitVec 5) (rs1 : BitVec 5) (rs2 : BitVec 5) (s : State) : Run :=
  arithIntoD s rd 0x046 (getFD s rs1) (getFD s rs2)
    (fpAdd .double (rounding s) true (patD s rs1) (patD s rs2))

/-- FSUBq (rule R977). Not implemented in hardware. -/
def execFsubq (rd : BitVec 5) (_rs1 : BitVec 5) (_rs2 : BitVec 5) (s : State) : Run := unimplementedFPop s (markFQ · rd)

/-- FMULs (rule R978). -/
def execFmuls (rd : BitVec 5) (rs1 : BitVec 5) (rs2 : BitVec 5) (s : State) : Run :=
  arithIntoS s rd 0x049 (wideS s rs1) (wideS s rs2)
    (fpMul .single (rounding s) (patS s rs1) (patS s rs2))

/-- FMULd (rule R979). -/
def execFmuld (rd : BitVec 5) (rs1 : BitVec 5) (rs2 : BitVec 5) (s : State) : Run :=
  arithIntoD s rd 0x04A (getFD s rs1) (getFD s rs2)
    (fpMul .double (rounding s) (patD s rs1) (patD s rs2))

/-- FMULq (rule R980). Not implemented in hardware. -/
def execFmulq (rd : BitVec 5) (_rs1 : BitVec 5) (_rs2 : BitVec 5) (s : State) : Run := unimplementedFPop s (markFQ · rd)

/-- FDIVs (rule R983). -/
def execFdivs (rd : BitVec 5) (rs1 : BitVec 5) (rs2 : BitVec 5) (s : State) : Run :=
  arithIntoS s rd 0x04D (wideS s rs1) (wideS s rs2)
    (fpDiv .single (rounding s) (patS s rs1) (patS s rs2))

/-- FDIVd (rule R984). -/
def execFdivd (rd : BitVec 5) (rs1 : BitVec 5) (rs2 : BitVec 5) (s : State) : Run :=
  arithIntoD s rd 0x04E (getFD s rs1) (getFD s rs2)
    (fpDiv .double (rounding s) (patD s rs1) (patD s rs2))

/-- FDIVq (rule R985). Not implemented in hardware. -/
def execFdivq (rd : BitVec 5) (_rs1 : BitVec 5) (_rs2 : BitVec 5) (s : State) : Run := unimplementedFPop s (markFQ · rd)

/-- FsMULd (rule R981). -/
def execFsmuld (rd : BitVec 5) (rs1 : BitVec 5) (rs2 : BitVec 5) (s : State) : Run :=
  arithIntoD s rd 0x069 (wideS s rs1) (wideS s rs2)
    (fpMulWiden (rounding s) (patS s rs1) (patS s rs2))

/-- FdMULq (rule R982). Not implemented in hardware. -/
def execFdmulq (rd : BitVec 5) (_rs1 : BitVec 5) (_rs2 : BitVec 5) (s : State) : Run := unimplementedFPop s (markFQ · rd)

/-- FSQRTs (rule R986). Not implemented in hardware. -/
def execFsqrts (_rd : BitVec 5) (_rs2 : BitVec 5) (s : State) : Run := unimplementedFPop s markFS

/-- FSQRTd (rule R987). Not implemented in hardware. -/
def execFsqrtd (rd : BitVec 5) (_rs2 : BitVec 5) (s : State) : Run := unimplementedFPop s (markFD · rd)

/-- FSQRTq (rule R988). Not implemented in hardware. -/
def execFsqrtq (rd : BitVec 5) (_rs2 : BitVec 5) (s : State) : Run := unimplementedFPop s (markFQ · rd)

/-! ### Compare -/

/-- FCMPs (rule R990). -/
def execFcmps (cc : BitVec 2) (rs1 : BitVec 5) (rs2 : BitVec 5) (s : State) : Run :=
  compareFp s cc (fpRelation .single (patS s rs1) (patS s rs2))
    (anySnan .single (patS s rs1) (patS s rs2))

/-- FCMPd (rule R991). -/
def execFcmpd (cc : BitVec 2) (rs1 : BitVec 5) (rs2 : BitVec 5) (s : State) : Run :=
  compareFp s cc (fpRelation .double (patD s rs1) (patD s rs2))
    (anySnan .double (patD s rs1) (patD s rs2))

/-- FCMPq (rule R992). Not implemented in hardware. -/
def execFcmpq (_cc : BitVec 2) (_rs1 : BitVec 5) (_rs2 : BitVec 5) (s : State) : Run := unimplementedFPop s id

/-- FCMPEs (rule R993). -/
def execFcmpes (cc : BitVec 2) (rs1 : BitVec 5) (rs2 : BitVec 5) (s : State) : Run :=
  compareFp s cc (fpRelation .single (patS s rs1) (patS s rs2))
    (anyNan .single (patS s rs1) (patS s rs2))

/-- FCMPEd (rule R994). -/
def execFcmped (cc : BitVec 2) (rs1 : BitVec 5) (rs2 : BitVec 5) (s : State) : Run :=
  compareFp s cc (fpRelation .double (patD s rs1) (patD s rs2))
    (anyNan .double (patD s rs1) (patD s rs2))

/-- FCMPEq (rule R995). Not implemented in hardware. -/
def execFcmpeq (_cc : BitVec 2) (_rs1 : BitVec 5) (_rs2 : BitVec 5) (s : State) : Run := unimplementedFPop s id

/-! ### Conversions -/

/-- FiTOs (rule R996). -/
def execFitos (rd : BitVec 5) (rs2 : BitVec 5) (s : State) : Run :=
  fpIntoS s rd (fpOfInt .single (rounding s) (getFS s rs2).toInt)

/-- FiTOd (rule R997). -/
def execFitod (rd : BitVec 5) (rs2 : BitVec 5) (s : State) : Run :=
  fpIntoD s rd (fpOfInt .double (rounding s) (getFS s rs2).toInt)

/-- FiTOq (rule R998). Not implemented in hardware. -/
def execFitoq (rd : BitVec 5) (_rs2 : BitVec 5) (s : State) : Run := unimplementedFPop s (markFQ · rd)

/-- FxTOs (rule R999). -/
def execFxtos (rd : BitVec 5) (rs2 : BitVec 5) (s : State) : Run :=
  fpIntoS s rd (fpOfInt .single (rounding s) (getFD s rs2).toInt)

/-- FxTOd (rule R1000). -/
def execFxtod (rd : BitVec 5) (rs2 : BitVec 5) (s : State) : Run :=
  fpIntoD s rd (fpOfInt .double (rounding s) (getFD s rs2).toInt)

/-- FxTOq (rule R1001). Not implemented in hardware. -/
def execFxtoq (rd : BitVec 5) (_rs2 : BitVec 5) (s : State) : Run := unimplementedFPop s (markFQ · rd)

/-- FsTOx (rule R1002). -/
def execFstox (rd : BitVec 5) (rs2 : BitVec 5) (s : State) : Run := fpIntoD s rd (fpToInt .single 64 (patS s rs2))

/-- FdTOx (rule R1003). -/
def execFdtox (rd : BitVec 5) (rs2 : BitVec 5) (s : State) : Run := fpIntoD s rd (fpToInt .double 64 (patD s rs2))

/-- FqTOx (rule R1004). Not implemented in hardware. -/
def execFqtox (rd : BitVec 5) (_rs2 : BitVec 5) (s : State) : Run := unimplementedFPop s (markFD · rd)

/-- FsTOi (rule R1005). -/
def execFstoi (rd : BitVec 5) (rs2 : BitVec 5) (s : State) : Run := fpIntoS s rd (fpToInt .single 32 (patS s rs2))

/-- FdTOi (rule R1006). -/
def execFdtoi (rd : BitVec 5) (rs2 : BitVec 5) (s : State) : Run := fpIntoS s rd (fpToInt .double 32 (patD s rs2))

/-- FqTOi (rule R1007). Not implemented in hardware. -/
def execFqtoi (_rd : BitVec 5) (_rs2 : BitVec 5) (s : State) : Run := unimplementedFPop s markFS

/-- FsTOd (rule R1008). -/
def execFstod (rd : BitVec 5) (rs2 : BitVec 5) (s : State) : Run :=
  arithIntoD s rd 0x0C9 0 (wideS s rs2) (fpConvert .single .double (rounding s) (patS s rs2))

/-- FsTOq (rule R1009). Not implemented in hardware. -/
def execFstoq (rd : BitVec 5) (_rs2 : BitVec 5) (s : State) : Run := unimplementedFPop s (markFQ · rd)

/-- FdTOs (rule R1010). -/
def execFdtos (rd : BitVec 5) (rs2 : BitVec 5) (s : State) : Run :=
  arithIntoS s rd 0x0C6 0 (getFD s rs2) (fpConvert .double .single (rounding s) (patD s rs2))

/-- FdTOq (rule R1011). Not implemented in hardware. -/
def execFdtoq (rd : BitVec 5) (_rs2 : BitVec 5) (s : State) : Run := unimplementedFPop s (markFQ · rd)

/-- FqTOs (rule R1012). Not implemented in hardware. -/
def execFqtos (_rd : BitVec 5) (_rs2 : BitVec 5) (s : State) : Run := unimplementedFPop s markFS

/-- FqTOd (rule R1013). Not implemented in hardware. -/
def execFqtod (rd : BitVec 5) (_rs2 : BitVec 5) (s : State) : Run := unimplementedFPop s (markFD · rd)

/-! ### Move, negate, absolute value -/

/-- FMOVs (rule R1014). -/
def execFmovs (rd : BitVec 5) (rs2 : BitVec 5) (s : State) : Run := moveFS s true rd (getFS s rs2)

/-- FMOVd (rule R1015). -/
def execFmovd (rd : BitVec 5) (rs2 : BitVec 5) (s : State) : Run := moveFD s true rd (getFD s rs2)

/-- FMOVq (rule R1016). Not implemented in hardware. -/
def execFmovq (rd : BitVec 5) (_rs2 : BitVec 5) (s : State) : Run := unimplementedFPop s (markFQ · rd)

/-- FNEGs (rule R1017). -/
def execFnegs (rd : BitVec 5) (rs2 : BitVec 5) (s : State) : Run := moveFS s true rd (getFS s rs2 ^^^ 0x80000000)

/-- FNEGd (rule R1018). -/
def execFnegd (rd : BitVec 5) (rs2 : BitVec 5) (s : State) : Run :=
  moveFD s true rd (getFD s rs2 ^^^ 0x8000000000000000)

/-- FNEGq (rule R1019). Not implemented in hardware. -/
def execFnegq (rd : BitVec 5) (_rs2 : BitVec 5) (s : State) : Run := unimplementedFPop s (markFQ · rd)

/-- FABSs (rule R1020). -/
def execFabss (rd : BitVec 5) (rs2 : BitVec 5) (s : State) : Run := moveFS s true rd (getFS s rs2 &&& 0x7FFFFFFF)

/-- FABSd (rule R1021). -/
def execFabsd (rd : BitVec 5) (rs2 : BitVec 5) (s : State) : Run :=
  moveFD s true rd (getFD s rs2 &&& 0x7FFFFFFFFFFFFFFF)

/-- FABSq (rule R1022). Not implemented in hardware. -/
def execFabsq (rd : BitVec 5) (_rs2 : BitVec 5) (s : State) : Run := unimplementedFPop s (markFQ · rd)

/-! ### Conditional moves -/

/-- FMOVSicc (rule R1024). -/
def execFmovsicc (rd : BitVec 5) (cond : BitVec 4) (rs2 : BitVec 5) (s : State) : Run :=
  moveFS s (icond cond s.ccr.icc) rd (getFS s rs2)

/-- FMOVDicc (rule R1025). -/
def execFmovdicc (rd : BitVec 5) (cond : BitVec 4) (rs2 : BitVec 5) (s : State) : Run :=
  moveFD s (icond cond s.ccr.icc) rd (getFD s rs2)

/-- FMOVQicc (rule R1026). Not implemented in hardware. -/
def execFmovqicc (rd : BitVec 5) (_cond : BitVec 4) (_rs2 : BitVec 5) (s : State) : Run := unimplementedFPop s (markFQ · rd)

/-- FMOVSxcc (rule R1027). -/
def execFmovsxcc (rd : BitVec 5) (cond : BitVec 4) (rs2 : BitVec 5) (s : State) : Run :=
  moveFS s (icond cond s.ccr.xcc) rd (getFS s rs2)

/-- FMOVDxcc (rule R1028). -/
def execFmovdxcc (rd : BitVec 5) (cond : BitVec 4) (rs2 : BitVec 5) (s : State) : Run :=
  moveFD s (icond cond s.ccr.xcc) rd (getFD s rs2)

/-- FMOVQxcc (rule R1029). Not implemented in hardware. -/
def execFmovqxcc (rd : BitVec 5) (_cond : BitVec 4) (_rs2 : BitVec 5) (s : State) : Run := unimplementedFPop s (markFQ · rd)

/-- FMOVSfcc (rule R1030). -/
def execFmovsfcc (rd : BitVec 5) (cond : BitVec 4) (cc : BitVec 2) (rs2 : BitVec 5) (s : State) : Run :=
  moveFS s (fcond cond (fsrFcc s.fsr cc)) rd (getFS s rs2)

/-- FMOVDfcc (rule R1031). -/
def execFmovdfcc (rd : BitVec 5) (cond : BitVec 4) (cc : BitVec 2) (rs2 : BitVec 5) (s : State) : Run :=
  moveFD s (fcond cond (fsrFcc s.fsr cc)) rd (getFD s rs2)

/-- FMOVQfcc (rule R1032). Not implemented in hardware. -/
def execFmovqfcc (rd : BitVec 5) (_cond : BitVec 4) (_cc : BitVec 2) (_rs2 : BitVec 5) (s : State) : Run :=
  unimplementedFPop s (markFQ · rd)

/-- FMOVRsZ (rule R1034). -/
def execFmovrsz (rd : BitVec 5) (rs1 : BitVec 5) (rs2 : BitVec 5) (s : State) : Run :=
  moveFS s (rtest 1 (getR s rs1)) rd (getFS s rs2)

/-- FMOVRsLEZ (rule R1035). -/
def execFmovrslez (rd : BitVec 5) (rs1 : BitVec 5) (rs2 : BitVec 5) (s : State) : Run :=
  moveFS s (rtest 2 (getR s rs1)) rd (getFS s rs2)

/-- FMOVRsLZ (rule R1036). -/
def execFmovrslz (rd : BitVec 5) (rs1 : BitVec 5) (rs2 : BitVec 5) (s : State) : Run :=
  moveFS s (rtest 3 (getR s rs1)) rd (getFS s rs2)

/-- FMOVRsNZ (rule R1037). -/
def execFmovrsnz (rd : BitVec 5) (rs1 : BitVec 5) (rs2 : BitVec 5) (s : State) : Run :=
  moveFS s (rtest 5 (getR s rs1)) rd (getFS s rs2)

/-- FMOVRsGZ (rule R1038). -/
def execFmovrsgz (rd : BitVec 5) (rs1 : BitVec 5) (rs2 : BitVec 5) (s : State) : Run :=
  moveFS s (rtest 6 (getR s rs1)) rd (getFS s rs2)

/-- FMOVRsGEZ (rule R1039). -/
def execFmovrsgez (rd : BitVec 5) (rs1 : BitVec 5) (rs2 : BitVec 5) (s : State) : Run :=
  moveFS s (rtest 7 (getR s rs1)) rd (getFS s rs2)

/-- FMOVRdZ (rule R1040). -/
def execFmovrdz (rd : BitVec 5) (rs1 : BitVec 5) (rs2 : BitVec 5) (s : State) : Run :=
  moveFD s (rtest 1 (getR s rs1)) rd (getFD s rs2)

/-- FMOVRdLEZ (rule R1041). -/
def execFmovrdlez (rd : BitVec 5) (rs1 : BitVec 5) (rs2 : BitVec 5) (s : State) : Run :=
  moveFD s (rtest 2 (getR s rs1)) rd (getFD s rs2)

/-- FMOVRdLZ (rule R1042). -/
def execFmovrdlz (rd : BitVec 5) (rs1 : BitVec 5) (rs2 : BitVec 5) (s : State) : Run :=
  moveFD s (rtest 3 (getR s rs1)) rd (getFD s rs2)

/-- FMOVRdNZ (rule R1043). -/
def execFmovrdnz (rd : BitVec 5) (rs1 : BitVec 5) (rs2 : BitVec 5) (s : State) : Run :=
  moveFD s (rtest 5 (getR s rs1)) rd (getFD s rs2)

/-- FMOVRdGZ (rule R1044). -/
def execFmovrdgz (rd : BitVec 5) (rs1 : BitVec 5) (rs2 : BitVec 5) (s : State) : Run :=
  moveFD s (rtest 6 (getR s rs1)) rd (getFD s rs2)

/-- FMOVRdGEZ (rule R1045). -/
def execFmovrdgez (rd : BitVec 5) (rs1 : BitVec 5) (rs2 : BitVec 5) (s : State) : Run :=
  moveFD s (rtest 7 (getR s rs1)) rd (getFD s rs2)

/-- FMOVRqZ (rule R1046). Not implemented in hardware. -/
def execFmovrqz (rd : BitVec 5) (_rs1 : BitVec 5) (_rs2 : BitVec 5) (s : State) : Run := unimplementedFPop s (markFQ · rd)

/-- FMOVRqLEZ (rule R1047). Not implemented in hardware. -/
def execFmovrqlez (rd : BitVec 5) (_rs1 : BitVec 5) (_rs2 : BitVec 5) (s : State) : Run := unimplementedFPop s (markFQ · rd)

/-- FMOVRqLZ (rule R1048). Not implemented in hardware. -/
def execFmovrqlz (rd : BitVec 5) (_rs1 : BitVec 5) (_rs2 : BitVec 5) (s : State) : Run := unimplementedFPop s (markFQ · rd)

/-- FMOVRqNZ (rule R1049). Not implemented in hardware. -/
def execFmovrqnz (rd : BitVec 5) (_rs1 : BitVec 5) (_rs2 : BitVec 5) (s : State) : Run := unimplementedFPop s (markFQ · rd)

/-- FMOVRqGZ (rule R1050). Not implemented in hardware. -/
def execFmovrqgz (rd : BitVec 5) (_rs1 : BitVec 5) (_rs2 : BitVec 5) (s : State) : Run := unimplementedFPop s (markFQ · rd)

/-- FMOVRqGEZ (rule R1051). Not implemented in hardware. -/
def execFmovrqgez (rd : BitVec 5) (_rs1 : BitVec 5) (_rs2 : BitVec 5) (s : State) : Run := unimplementedFPop s (markFQ · rd)

end Sys2Proof.Machine
end

