-- ==== Sys2Proof/Decode.lean ====
section
/-! DEFINITION. The decoder and, after it, the encoder, both written from the formats and opcode maps of spec/30_encoding.md
(rules R403 to R424, R440 to R456). `decode` is total on the 2^32 words: it answers an instruction, or a `Reject` that
names what the word is; Machine/Step.lean turns a reject into the exception rule R431 gives it.

Lean's code generator gives an object constructor at most 244 tags and `Instr` has 437, so the definitions that build its
later constructors are marked noncomputable: no code is generated for them. They are ordinary total functions and the
kernel evaluates them. -/

namespace Sys2Proof

/-- Why a word is no instruction of the table (rule R431). The first three raise illegal_instruction; the last is an FPop
whose `opf` is unassigned and raises fp_disabled or fp_exception_other with `ftt = 3` (rule R1056). -/
inductive Reject where
  /-- An opcode value the maps leave unassigned (rule R431(c)). -/
  | reservedOpcode
  /-- The named instruction with a nonzero reserved field (rules R431(b), R432). -/
  | reservedBits (mnemonic : String)
  /-- The named instruction with a value its field may not hold (cc, rcond, opf_cc; rules R462, R463, R461). -/
  | illegalField (mnemonic : String)
  /-- An FPop1 or FPop2 word whose `opf` is unassigned (rules R447, R448, R1056). -/
  | unassignedFPop
deriving DecidableEq, Repr

/-- What the decoder answers. -/
abbrev Decoded := Except Reject Instr

/-! ### The ASIs that select an instruction from a shared opcode (rules R733, R843, R844, R854) -/

/-- ASI_LDTX: the twin-extended-word ASIs of LDTXA (rule R733). -/
def asiIsLdtx (asi : BitVec 8) : Bool :=
  asi = 0x22 || asi = 0x23 || asi = 0x24 || asi = 0x26 || asi = 0x27 || asi = 0x2A || asi = 0x2B || asi = 0x2C
    || asi = 0x2E || asi = 0x2F || asi = 0xE2 || asi = 0xE3 || asi = 0xEA || asi = 0xEB

/-- The block-transfer ASIs of LDBLOCKF and STBLOCKF (rules R843, R852). -/
def asiIsBlock (asi : BitVec 8) : Bool :=
  asi = 0x16 || asi = 0x17 || asi = 0x1E || asi = 0x1F || asi = 0xF0 || asi = 0xF1 || asi = 0xF8 || asi = 0xF9

/-- The short floating-point ASIs of LDSHORTF and STSHORTF (rules R844, R853). -/
def asiIsShort (asi : BitVec 8) : Bool :=
  asi = 0xD0 || asi = 0xD1 || asi = 0xD2 || asi = 0xD3 || asi = 0xD8 || asi = 0xD9 || asi = 0xDA || asi = 0xDB

/-- The partial-store ASIs of STPARTIALF (rule R854). -/
def asiIsPartial (asi : BitVec 8) : Bool :=
  asi = 0xC0 || asi = 0xC1 || asi = 0xC2 || asi = 0xC3 || asi = 0xC4 || asi = 0xC5 || asi = 0xC8 || asi = 0xC9
    || asi = 0xCA || asi = 0xCB || asi = 0xCC || asi = 0xCD

/-! ### Operand fields of the low 14 bits -/

/-- Bits 13:0 of FMT3_RR / FMT3_RI (rule R408); `none` where `i = 0` and bits 12:5 are not zero. -/
def decSrc2 (low : BitVec 14) : Option RegOrImm13 :=
  if low.extractLsb' 13 1 = 1 then some (.imm (low.extractLsb' 0 13))
  else if low.extractLsb' 5 8 = 0 then some (.reg (low.extractLsb' 0 5)) else none

/-- FMT3_ASI (rule R420): no reserved bits. -/
def decAsi (low : BitVec 14) : AsiOperand :=
  if low.extractLsb' 13 1 = 1 then .imm (low.extractLsb' 0 13)
  else .reg (low.extractLsb' 0 5) (low.extractLsb' 5 8)

/-- The ASI of CASA and CASXA; bits 12:5 are reserved when `i = 1` (rule R432). -/
def decCas (low : BitVec 14) : Option AsiSelect :=
  if low.extractLsb' 13 1 = 1 then (if low.extractLsb' 5 8 = 0 then some .asiReg else none)
  else some (.imm (low.extractLsb' 5 8))

/-- FMT3_SH with `x = 0` (rules R409, R432). -/
def decCount32 (low : BitVec 14) : Option Count32 :=
  if low.extractLsb' 5 7 = 0 then
    (if low.extractLsb' 13 1 = 1 then some (.imm (low.extractLsb' 0 5)) else some (.reg (low.extractLsb' 0 5)))
  else none

/-- FMT3_SH with `x = 1` (rules R409, R432). -/
def decCount64 (low : BitVec 14) : Option Count64 :=
  if low.extractLsb' 13 1 = 1 then
    (if low.extractLsb' 6 6 = 0 then some (.imm (low.extractLsb' 0 6)) else none)
  else if low.extractLsb' 5 7 = 0 then some (.reg (low.extractLsb' 0 5)) else none

/-- FMT4_MOVCC, bits 10:0 with `i` (rules R412, R432). -/
def decMovccSrc (low : BitVec 14) : Option RegOrImm11 :=
  if low.extractLsb' 13 1 = 1 then some (.imm (low.extractLsb' 0 11))
  else if low.extractLsb' 5 6 = 0 then some (.reg (low.extractLsb' 0 5)) else none

/-- FMT4_MOVR, bits 9:0 with `i` (rules R413, R432). -/
def decMovrSrc (low : BitVec 14) : Option RegOrImm10 :=
  if low.extractLsb' 13 1 = 1 then some (.imm (low.extractLsb' 0 10))
  else if low.extractLsb' 5 5 = 0 then some (.reg (low.extractLsb' 0 5)) else none

/-- FMT4_TCC, the software trap number (rules R414, R432). -/
def decTrapOperand (low : BitVec 14) : Option TrapOperand :=
  if low.extractLsb' 13 1 = 1 then (if low.extractLsb' 8 3 = 0 then some (.imm (low.extractLsb' 0 8)) else none)
  else if low.extractLsb' 5 6 = 0 then some (.reg (low.extractLsb' 0 5)) else none

/-- `cc1 :: cc0` of BPcc, Tcc and MOVcc on integer codes (rules R462, R463): 00 icc, 10 xcc, the others reserved. -/
def decIcc (cc : BitVec 2) : Option IccSelect :=
  if cc = 0 then some .icc else if cc = 2 then some .xcc else none

/-- An operand that may be ill-formed: the instruction, or the reject `e`. -/
def orReject {α : Type} (e : Reject) (x : Option α) (k : α → Instr) : Decoded :=
  match x with
  | some a => .ok (k a)
  | none => .error e

/-- FMT3_RR / FMT3_RI: the instruction, or its reserved bits. -/
def withSrc2 (name : String) (low : BitVec 14) (k : RegOrImm13 → Instr) : Decoded :=
  orReject (.reservedBits name) (decSrc2 low) k

/-- The instruction where the reserved bits are zero. -/
def whenZero (name : String) (zero : Bool) (i : Instr) : Decoded :=
  if zero then .ok i else .error (.reservedBits name)

/-! ### op = 0: branches and SETHI (rules R441, R460, R461) -/

/-- Bicc, rule R602. -/
def decodeBicc (a : BitVec 1) (cond : BitVec 4) (disp22 : BitVec 22) : Decoded :=
  if cond = 0x8#4 then .ok (.ba a disp22)
  else if cond = 0x0#4 then .ok (.bn a disp22)
  else if cond = 0x9#4 then .ok (.bne a disp22)
  else if cond = 0x1#4 then .ok (.be a disp22)
  else if cond = 0xa#4 then .ok (.bg a disp22)
  else if cond = 0x2#4 then .ok (.ble a disp22)
  else if cond = 0xb#4 then .ok (.bge a disp22)
  else if cond = 0x3#4 then .ok (.bl a disp22)
  else if cond = 0xc#4 then .ok (.bgu a disp22)
  else if cond = 0x4#4 then .ok (.bleu a disp22)
  else if cond = 0xd#4 then .ok (.bcc a disp22)
  else if cond = 0x5#4 then .ok (.bcs a disp22)
  else if cond = 0xe#4 then .ok (.bpos a disp22)
  else if cond = 0x6#4 then .ok (.bneg a disp22)
  else if cond = 0xf#4 then .ok (.bvc a disp22)
  else if cond = 0x7#4 then .ok (.bvs a disp22)
  else .error .reservedOpcode

/-- FBfcc, rule R648. -/
def decodeFbfcc (a : BitVec 1) (cond : BitVec 4) (disp22 : BitVec 22) : Decoded :=
  if cond = 0x8#4 then .ok (.fba a disp22)
  else if cond = 0x0#4 then .ok (.fbn a disp22)
  else if cond = 0x7#4 then .ok (.fbu a disp22)
  else if cond = 0x6#4 then .ok (.fbg a disp22)
  else if cond = 0x5#4 then .ok (.fbug a disp22)
  else if cond = 0x4#4 then .ok (.fbl a disp22)
  else if cond = 0x3#4 then .ok (.fbul a disp22)
  else if cond = 0x2#4 then .ok (.fblg a disp22)
  else if cond = 0x1#4 then .ok (.fbne a disp22)
  else if cond = 0x9#4 then .ok (.fbe a disp22)
  else if cond = 0xa#4 then .ok (.fbue a disp22)
  else if cond = 0xb#4 then .ok (.fbge a disp22)
  else if cond = 0xc#4 then .ok (.fbuge a disp22)
  else if cond = 0xd#4 then .ok (.fble a disp22)
  else if cond = 0xe#4 then .ok (.fbule a disp22)
  else if cond = 0xf#4 then .ok (.fbo a disp22)
  else .error .reservedOpcode

/-- BPcc, rule R623; `cc0 = 1` is reserved. -/
def decodeBpcc (a : BitVec 1) (cond : BitVec 4) (cc : BitVec 2) (p : BitVec 1) (disp19 : BitVec 19) : Decoded :=
  match decIcc cc with
  | none => .error (.illegalField "BPcc")
  | some cc =>
    if cond = 0x8#4 then .ok (.bpa a cc p disp19)
    else if cond = 0x0#4 then .ok (.bpn a cc p disp19)
    else if cond = 0x9#4 then .ok (.bpne a cc p disp19)
    else if cond = 0x1#4 then .ok (.bpe a cc p disp19)
    else if cond = 0xa#4 then .ok (.bpg a cc p disp19)
    else if cond = 0x2#4 then .ok (.bple a cc p disp19)
    else if cond = 0xb#4 then .ok (.bpge a cc p disp19)
    else if cond = 0x3#4 then .ok (.bpl a cc p disp19)
    else if cond = 0xc#4 then .ok (.bpgu a cc p disp19)
    else if cond = 0x4#4 then .ok (.bpleu a cc p disp19)
    else if cond = 0xd#4 then .ok (.bpcc a cc p disp19)
    else if cond = 0x5#4 then .ok (.bpcs a cc p disp19)
    else if cond = 0xe#4 then .ok (.bppos a cc p disp19)
    else if cond = 0x6#4 then .ok (.bpneg a cc p disp19)
    else if cond = 0xf#4 then .ok (.bpvc a cc p disp19)
    else if cond = 0x7#4 then .ok (.bpvs a cc p disp19)
    else .error .reservedOpcode

/-- FBPfcc, rule R664. -/
def decodeFbpfcc (a : BitVec 1) (cond : BitVec 4) (cc : BitVec 2) (p : BitVec 1) (disp19 : BitVec 19) : Decoded :=
  if cond = 0x8#4 then .ok (.fbpa a cc p disp19)
  else if cond = 0x0#4 then .ok (.fbpn a cc p disp19)
  else if cond = 0x7#4 then .ok (.fbpu a cc p disp19)
  else if cond = 0x6#4 then .ok (.fbpg a cc p disp19)
  else if cond = 0x5#4 then .ok (.fbpug a cc p disp19)
  else if cond = 0x4#4 then .ok (.fbpl a cc p disp19)
  else if cond = 0x3#4 then .ok (.fbpul a cc p disp19)
  else if cond = 0x2#4 then .ok (.fbplg a cc p disp19)
  else if cond = 0x1#4 then .ok (.fbpne a cc p disp19)
  else if cond = 0x9#4 then .ok (.fbpe a cc p disp19)
  else if cond = 0xa#4 then .ok (.fbpue a cc p disp19)
  else if cond = 0xb#4 then .ok (.fbpge a cc p disp19)
  else if cond = 0xc#4 then .ok (.fbpuge a cc p disp19)
  else if cond = 0xd#4 then .ok (.fbple a cc p disp19)
  else if cond = 0xe#4 then .ok (.fbpule a cc p disp19)
  else if cond = 0xf#4 then .ok (.fbpo a cc p disp19)
  else .error .reservedOpcode

/-- BPr, rule R640; bit 28 and the reserved rcond values are refused. -/
def decodeBpr (a b28 : BitVec 1) (rcond : BitVec 3) (p : BitVec 1) (rs1 : BitVec 5) (disp16 : BitVec 16) : Decoded :=
  if b28 = 1#1 then .error (.reservedBits "BPr")
  else if rcond = 0x1#3 then .ok (.brz a p rs1 disp16)
  else if rcond = 0x2#3 then .ok (.brlez a p rs1 disp16)
  else if rcond = 0x3#3 then .ok (.brlz a p rs1 disp16)
  else if rcond = 0x5#3 then .ok (.brnz a p rs1 disp16)
  else if rcond = 0x6#3 then .ok (.brgz a p rs1 disp16)
  else if rcond = 0x7#3 then .ok (.brgez a p rs1 disp16)
  else .error (.illegalField "BPr")

/-- `op = 0` by `op2` (rule R441). -/
def decodeFmt2 (top : BitVec 5) (op2 : BitVec 3) (low : BitVec 22) : Decoded :=
  if op2 = 0#3 then .ok (.illtrap low)
  else if op2 = 1#3 then
    decodeBpcc (top.extractLsb' 4 1) (top.extractLsb' 0 4) (low.extractLsb' 20 2) (low.extractLsb' 19 1) (low.extractLsb' 0 19)
  else if op2 = 2#3 then decodeBicc (top.extractLsb' 4 1) (top.extractLsb' 0 4) low
  else if op2 = 3#3 then
    decodeBpr (top.extractLsb' 4 1) (top.extractLsb' 3 1) (top.extractLsb' 0 3) (low.extractLsb' 19 1) (low.extractLsb' 14 5)
      (low.extractLsb' 20 2 ++ low.extractLsb' 0 14)
  else if op2 = 4#3 then (if top = 0#5 ∧ low = 0#22 then .ok .nop else .ok (.sethi top low))
  else if op2 = 5#3 then
    decodeFbpfcc (top.extractLsb' 4 1) (top.extractLsb' 0 4) (low.extractLsb' 20 2) (low.extractLsb' 19 1) (low.extractLsb' 0 19)
  else if op2 = 6#3 then decodeFbfcc (top.extractLsb' 4 1) (top.extractLsb' 0 4) low
  else .error .reservedOpcode

/-! ### op = 2: arithmetic, control and state (rules R442, R444 to R449) -/

/-- MOVcc (rule R519): `cc2 = 1` tests icc or xcc, `cc2 = 0` tests fccn. -/
def decodeMovcc (rd : BitVec 5) (cc2 : BitVec 1) (cond : BitVec 4) (low : BitVec 14) : Decoded :=
  match decMovccSrc low with
  | none => .error (.reservedBits "MOVcc")
  | some op2 =>
    if cc2 = 1#1 then
      match decIcc (low.extractLsb' 11 2) with
      | none => .error (.illegalField "MOVcc")
      | some cc =>
        if cond = 0x8#4 then .ok (.mova rd cc op2)
        else if cond = 0x0#4 then .ok (.movn rd cc op2)
        else if cond = 0x9#4 then .ok (.movne rd cc op2)
        else if cond = 0x1#4 then .ok (.move rd cc op2)
        else if cond = 0xa#4 then .ok (.movg rd cc op2)
        else if cond = 0x2#4 then .ok (.movle rd cc op2)
        else if cond = 0xb#4 then .ok (.movge rd cc op2)
        else if cond = 0x3#4 then .ok (.movl rd cc op2)
        else if cond = 0xc#4 then .ok (.movgu rd cc op2)
        else if cond = 0x4#4 then .ok (.movleu rd cc op2)
        else if cond = 0xd#4 then .ok (.movcc rd cc op2)
        else if cond = 0x5#4 then .ok (.movcs rd cc op2)
        else if cond = 0xe#4 then .ok (.movpos rd cc op2)
        else if cond = 0x6#4 then .ok (.movneg rd cc op2)
        else if cond = 0xf#4 then .ok (.movvc rd cc op2)
        else if cond = 0x7#4 then .ok (.movvs rd cc op2)
        else .error .reservedOpcode
    else
      if cond = 0x8#4 then .ok (.movfa rd (low.extractLsb' 11 2) op2)
      else if cond = 0x0#4 then .ok (.movfn rd (low.extractLsb' 11 2) op2)
      else if cond = 0x7#4 then .ok (.movfu rd (low.extractLsb' 11 2) op2)
      else if cond = 0x6#4 then .ok (.movfg rd (low.extractLsb' 11 2) op2)
      else if cond = 0x5#4 then .ok (.movfug rd (low.extractLsb' 11 2) op2)
      else if cond = 0x4#4 then .ok (.movfl rd (low.extractLsb' 11 2) op2)
      else if cond = 0x3#4 then .ok (.movful rd (low.extractLsb' 11 2) op2)
      else if cond = 0x2#4 then .ok (.movflg rd (low.extractLsb' 11 2) op2)
      else if cond = 0x1#4 then .ok (.movfne rd (low.extractLsb' 11 2) op2)
      else if cond = 0x9#4 then .ok (.movfe rd (low.extractLsb' 11 2) op2)
      else if cond = 0xa#4 then .ok (.movfue rd (low.extractLsb' 11 2) op2)
      else if cond = 0xb#4 then .ok (.movfge rd (low.extractLsb' 11 2) op2)
      else if cond = 0xc#4 then .ok (.movfuge rd (low.extractLsb' 11 2) op2)
      else if cond = 0xd#4 then .ok (.movfle rd (low.extractLsb' 11 2) op2)
      else if cond = 0xe#4 then .ok (.movfule rd (low.extractLsb' 11 2) op2)
      else if cond = 0xf#4 then .ok (.movfo rd (low.extractLsb' 11 2) op2)
      else .error .reservedOpcode

/-- MOVr (rule R552). -/
def decodeMovr (rd rs1 : BitVec 5) (low : BitVec 14) : Decoded :=
  match decMovrSrc low with
  | none => .error (.reservedBits "MOVr")
  | some op2 =>
    if low.extractLsb' 10 3 = 0x1#3 then .ok (.movrz rd rs1 op2)
    else if low.extractLsb' 10 3 = 0x2#3 then .ok (.movrlez rd rs1 op2)
    else if low.extractLsb' 10 3 = 0x3#3 then .ok (.movrlz rd rs1 op2)
    else if low.extractLsb' 10 3 = 0x5#3 then .ok (.movrnz rd rs1 op2)
    else if low.extractLsb' 10 3 = 0x6#3 then .ok (.movrgz rd rs1 op2)
    else if low.extractLsb' 10 3 = 0x7#3 then .ok (.movrgez rd rs1 op2)
    else .error (.illegalField "MOVr")

/-- Tcc (rule R684): bit 29 and the bits above the trap number are reserved, `cc0 = 1` is reserved. -/
def decodeTcc (b29 : BitVec 1) (cond : BitVec 4) (rs1 : BitVec 5) (low : BitVec 14) : Decoded :=
  if b29 = 1#1 then .error (.reservedBits "Tcc")
  else match decTrapOperand low with
  | none => .error (.reservedBits "Tcc")
  | some op2 =>
    match decIcc (low.extractLsb' 11 2) with
    | none => .error (.illegalField "Tcc")
    | some cc =>
      if cond = 0x8#4 then .ok (.ta cc rs1 op2)
      else if cond = 0x0#4 then .ok (.tn cc rs1 op2)
      else if cond = 0x9#4 then .ok (.tne cc rs1 op2)
      else if cond = 0x1#4 then .ok (.te cc rs1 op2)
      else if cond = 0xa#4 then .ok (.tg cc rs1 op2)
      else if cond = 0x2#4 then .ok (.tle cc rs1 op2)
      else if cond = 0xb#4 then .ok (.tge cc rs1 op2)
      else if cond = 0x3#4 then .ok (.tl cc rs1 op2)
      else if cond = 0xc#4 then .ok (.tgu cc rs1 op2)
      else if cond = 0x4#4 then .ok (.tleu cc rs1 op2)
      else if cond = 0xd#4 then .ok (.tcc cc rs1 op2)
      else if cond = 0x5#4 then .ok (.tcs cc rs1 op2)
      else if cond = 0xe#4 then .ok (.tpos cc rs1 op2)
      else if cond = 0x6#4 then .ok (.tneg cc rs1 op2)
      else if cond = 0xf#4 then .ok (.tvc cc rs1 op2)
      else if cond = 0x7#4 then .ok (.tvs cc rs1 op2)
      else .error .reservedOpcode

/-- `op3 = 0x28` (rule R444): RDasr, and MEMBAR and STBAR at `rs1 = 15`. -/
noncomputable def decodeRdasr (rd rs1 : BitVec 5) (low : BitVec 14) : Decoded :=
  if rs1 = 15#5 then
    (if rd ≠ 0#5 then .error .reservedOpcode
     else if low.extractLsb' 13 1 = 1#1 then
       whenZero "MEMBAR" (low.extractLsb' 7 6 = 0#6) (.membar (low.extractLsb' 4 3) (low.extractLsb' 0 4))
     else whenZero "STBAR" (low.extractLsb' 0 13 = 0#13) .stbar)
  else if low ≠ 0#14 then .error (.reservedBits "RDasr")
  else if rs1 = 0x00#5 then .ok (.rdy rd)
  else if rs1 = 0x02#5 then .ok (.rdccr rd)
  else if rs1 = 0x03#5 then .ok (.rdasi rd)
  else if rs1 = 0x04#5 then .ok (.rdtick rd)
  else if rs1 = 0x05#5 then .ok (.rdpc rd)
  else if rs1 = 0x06#5 then .ok (.rdfprs rd)
  else if rs1 = 0x10#5 then .ok (.rdpcr rd)
  else if rs1 = 0x11#5 then .ok (.rdpic rd)
  else if rs1 = 0x13#5 then .ok (.rdgsr rd)
  else if rs1 = 0x16#5 then .ok (.rdsoftint rd)
  else if rs1 = 0x17#5 then .ok (.rdtick_cmpr rd)
  else if rs1 = 0x18#5 then .ok (.rdstick rd)
  else if rs1 = 0x19#5 then .ok (.rdstick_cmpr rd)
  else .error .reservedOpcode

/-- `op3 = 0x30` (rule R445): WRasr, and SIR at `rd = 15`, `rs1 = 0`, `i = 1`. -/
noncomputable def decodeWrasr (rd rs1 : BitVec 5) (low : BitVec 14) : Decoded :=
  if rd = 15#5 then
    (if rs1 = 0#5 ∧ low.extractLsb' 13 1 = 1#1 then .ok (.sir (low.extractLsb' 0 13)) else .error .reservedOpcode)
  else if rd = 0x00#5 then withSrc2 "WRY" low (.wry rs1)
  else if rd = 0x02#5 then withSrc2 "WRCCR" low (.wrccr rs1)
  else if rd = 0x03#5 then withSrc2 "WRASI" low (.wrasi rs1)
  else if rd = 0x06#5 then withSrc2 "WRFPRS" low (.wrfprs rs1)
  else if rd = 0x10#5 then withSrc2 "WRPCR" low (.wrpcr rs1)
  else if rd = 0x11#5 then withSrc2 "WRPIC" low (.wrpic rs1)
  else if rd = 0x13#5 then withSrc2 "WRGSR" low (.wrgsr rs1)
  else if rd = 0x14#5 then withSrc2 "WRSOFTINT_SET" low (.wrsoftint_set rs1)
  else if rd = 0x15#5 then withSrc2 "WRSOFTINT_CLR" low (.wrsoftint_clr rs1)
  else if rd = 0x16#5 then withSrc2 "WRSOFTINT" low (.wrsoftint rs1)
  else if rd = 0x17#5 then withSrc2 "WRTICK_CMPR" low (.wrtick_cmpr rs1)
  else if rd = 0x18#5 then withSrc2 "WRSTICK" low (.wrstick rs1)
  else if rd = 0x19#5 then withSrc2 "WRSTICK_CMPR" low (.wrstick_cmpr rs1)
  else .error .reservedOpcode

/-- `op3 = 0x31` (rule R890). -/
def decodeWindow (fcn rs1 : BitVec 5) (low : BitVec 14) : Decoded :=
  if ¬ (rs1 = 0#5 ∧ low = 0#14) then (if fcn.toNat ≤ 5 then .error (.reservedBits "SAVED") else .error .reservedOpcode)
  else if fcn = 0x00#5 then .ok .saved
  else if fcn = 0x01#5 then .ok .restored
  else if fcn = 0x02#5 then .ok .allclean
  else if fcn = 0x03#5 then .ok .otherw
  else if fcn = 0x04#5 then .ok .normalw
  else if fcn = 0x05#5 then .ok .invalw
  else .error .reservedOpcode

/-- FPop1 by `opf` (rule R447). -/
noncomputable def decodeFPop1 (rd rs1 : BitVec 5) (opf : BitVec 9) (rs2 : BitVec 5) : Decoded :=
  if opf = 0x041#9 then .ok (.fadds rd rs1 rs2)
  else if opf = 0x042#9 then .ok (.faddd rd rs1 rs2)
  else if opf = 0x043#9 then .ok (.faddq rd rs1 rs2)
  else if opf = 0x045#9 then .ok (.fsubs rd rs1 rs2)
  else if opf = 0x046#9 then .ok (.fsubd rd rs1 rs2)
  else if opf = 0x047#9 then .ok (.fsubq rd rs1 rs2)
  else if opf = 0x049#9 then .ok (.fmuls rd rs1 rs2)
  else if opf = 0x04a#9 then .ok (.fmuld rd rs1 rs2)
  else if opf = 0x04b#9 then .ok (.fmulq rd rs1 rs2)
  else if opf = 0x04d#9 then .ok (.fdivs rd rs1 rs2)
  else if opf = 0x04e#9 then .ok (.fdivd rd rs1 rs2)
  else if opf = 0x04f#9 then .ok (.fdivq rd rs1 rs2)
  else if opf = 0x069#9 then .ok (.fsmuld rd rs1 rs2)
  else if opf = 0x06e#9 then .ok (.fdmulq rd rs1 rs2)
  else if opf = 0x029#9 then whenZero "FSQRTs" (rs1 = 0#5) (.fsqrts rd rs2)
  else if opf = 0x02a#9 then whenZero "FSQRTd" (rs1 = 0#5) (.fsqrtd rd rs2)
  else if opf = 0x02b#9 then whenZero "FSQRTq" (rs1 = 0#5) (.fsqrtq rd rs2)
  else if opf = 0x0c4#9 then whenZero "FiTOs" (rs1 = 0#5) (.fitos rd rs2)
  else if opf = 0x0c8#9 then whenZero "FiTOd" (rs1 = 0#5) (.fitod rd rs2)
  else if opf = 0x0cc#9 then whenZero "FiTOq" (rs1 = 0#5) (.fitoq rd rs2)
  else if opf = 0x084#9 then whenZero "FxTOs" (rs1 = 0#5) (.fxtos rd rs2)
  else if opf = 0x088#9 then whenZero "FxTOd" (rs1 = 0#5) (.fxtod rd rs2)
  else if opf = 0x08c#9 then whenZero "FxTOq" (rs1 = 0#5) (.fxtoq rd rs2)
  else if opf = 0x081#9 then whenZero "FsTOx" (rs1 = 0#5) (.fstox rd rs2)
  else if opf = 0x082#9 then whenZero "FdTOx" (rs1 = 0#5) (.fdtox rd rs2)
  else if opf = 0x083#9 then whenZero "FqTOx" (rs1 = 0#5) (.fqtox rd rs2)
  else if opf = 0x0d1#9 then whenZero "FsTOi" (rs1 = 0#5) (.fstoi rd rs2)
  else if opf = 0x0d2#9 then whenZero "FdTOi" (rs1 = 0#5) (.fdtoi rd rs2)
  else if opf = 0x0d3#9 then whenZero "FqTOi" (rs1 = 0#5) (.fqtoi rd rs2)
  else if opf = 0x0c9#9 then whenZero "FsTOd" (rs1 = 0#5) (.fstod rd rs2)
  else if opf = 0x0cd#9 then whenZero "FsTOq" (rs1 = 0#5) (.fstoq rd rs2)
  else if opf = 0x0c6#9 then whenZero "FdTOs" (rs1 = 0#5) (.fdtos rd rs2)
  else if opf = 0x0ce#9 then whenZero "FdTOq" (rs1 = 0#5) (.fdtoq rd rs2)
  else if opf = 0x0c7#9 then whenZero "FqTOs" (rs1 = 0#5) (.fqtos rd rs2)
  else if opf = 0x0cb#9 then whenZero "FqTOd" (rs1 = 0#5) (.fqtod rd rs2)
  else if opf = 0x001#9 then whenZero "FMOVs" (rs1 = 0#5) (.fmovs rd rs2)
  else if opf = 0x002#9 then whenZero "FMOVd" (rs1 = 0#5) (.fmovd rd rs2)
  else if opf = 0x003#9 then whenZero "FMOVq" (rs1 = 0#5) (.fmovq rd rs2)
  else if opf = 0x005#9 then whenZero "FNEGs" (rs1 = 0#5) (.fnegs rd rs2)
  else if opf = 0x006#9 then whenZero "FNEGd" (rs1 = 0#5) (.fnegd rd rs2)
  else if opf = 0x007#9 then whenZero "FNEGq" (rs1 = 0#5) (.fnegq rd rs2)
  else if opf = 0x009#9 then whenZero "FABSs" (rs1 = 0#5) (.fabss rd rs2)
  else if opf = 0x00a#9 then whenZero "FABSd" (rs1 = 0#5) (.fabsd rd rs2)
  else if opf = 0x00b#9 then whenZero "FABSq" (rs1 = 0#5) (.fabsq rd rs2)
  else .error .unassignedFPop

/-- FMOVcc by `opf_cc` and `opf_low` (rule R1023). -/
noncomputable def decodeFmovcc (rd rs1 : BitVec 5) (opfcc : BitVec 3) (low6 : BitVec 6) (rs2 : BitVec 5) : Decoded :=
  if rs1.extractLsb' 4 1 = 1#1 then .error (.reservedBits "FMOVcc")
  else if opfcc.extractLsb' 2 1 = 0#1 then
    (if low6 = 1#6 then .ok (.fmovsfcc rd (rs1.extractLsb' 0 4) (opfcc.extractLsb' 0 2) rs2) else if low6 = 2#6 then .ok (.fmovdfcc rd (rs1.extractLsb' 0 4) (opfcc.extractLsb' 0 2) rs2) else .ok (.fmovqfcc rd (rs1.extractLsb' 0 4) (opfcc.extractLsb' 0 2) rs2))
  else if opfcc = 4#3 then
    (if low6 = 1#6 then .ok (.fmovsicc rd (rs1.extractLsb' 0 4) rs2) else if low6 = 2#6 then .ok (.fmovdicc rd (rs1.extractLsb' 0 4) rs2) else .ok (.fmovqicc rd (rs1.extractLsb' 0 4) rs2))
  else if opfcc = 6#3 then
    (if low6 = 1#6 then .ok (.fmovsxcc rd (rs1.extractLsb' 0 4) rs2) else if low6 = 2#6 then .ok (.fmovdxcc rd (rs1.extractLsb' 0 4) rs2) else .ok (.fmovqxcc rd (rs1.extractLsb' 0 4) rs2))
  else .error (.illegalField "FMOVcc")

/-- FMOVR by `opf` (rule R1033): the reserved variations raise illegal_instruction. -/
noncomputable def decodeFmovr (rd rs1 : BitVec 5) (opf : BitVec 9) (rs2 : BitVec 5) : Decoded :=
  if opf.extractLsb' 8 1 = 1#1 then .error (.reservedBits "FMOVR")
  else if opf = 0x025#9 then .ok (.fmovrsz rd rs1 rs2)
  else if opf = 0x045#9 then .ok (.fmovrslez rd rs1 rs2)
  else if opf = 0x065#9 then .ok (.fmovrslz rd rs1 rs2)
  else if opf = 0x0a5#9 then .ok (.fmovrsnz rd rs1 rs2)
  else if opf = 0x0c5#9 then .ok (.fmovrsgz rd rs1 rs2)
  else if opf = 0x0e5#9 then .ok (.fmovrsgez rd rs1 rs2)
  else if opf = 0x026#9 then .ok (.fmovrdz rd rs1 rs2)
  else if opf = 0x046#9 then .ok (.fmovrdlez rd rs1 rs2)
  else if opf = 0x066#9 then .ok (.fmovrdlz rd rs1 rs2)
  else if opf = 0x0a6#9 then .ok (.fmovrdnz rd rs1 rs2)
  else if opf = 0x0c6#9 then .ok (.fmovrdgz rd rs1 rs2)
  else if opf = 0x0e6#9 then .ok (.fmovrdgez rd rs1 rs2)
  else if opf = 0x027#9 then .ok (.fmovrqz rd rs1 rs2)
  else if opf = 0x047#9 then .ok (.fmovrqlez rd rs1 rs2)
  else if opf = 0x067#9 then .ok (.fmovrqlz rd rs1 rs2)
  else if opf = 0x0a7#9 then .ok (.fmovrqnz rd rs1 rs2)
  else if opf = 0x0c7#9 then .ok (.fmovrqgz rd rs1 rs2)
  else if opf = 0x0e7#9 then .ok (.fmovrqgez rd rs1 rs2)
  else .error (.illegalField "FMOVR")

/-- FPop2 by `opf`, first match wins (rule R448). -/
noncomputable def decodeFPop2 (rd rs1 : BitVec 5) (opf : BitVec 9) (rs2 : BitVec 5) : Decoded :=
  if opf = 0x051#9 then whenZero "FCMPs" (rd.extractLsb' 2 3 = 0#3) (.fcmps (rd.extractLsb' 0 2) rs1 rs2)
  else if opf = 0x052#9 then whenZero "FCMPd" (rd.extractLsb' 2 3 = 0#3) (.fcmpd (rd.extractLsb' 0 2) rs1 rs2)
  else if opf = 0x053#9 then whenZero "FCMPq" (rd.extractLsb' 2 3 = 0#3) (.fcmpq (rd.extractLsb' 0 2) rs1 rs2)
  else if opf = 0x055#9 then whenZero "FCMPEs" (rd.extractLsb' 2 3 = 0#3) (.fcmpes (rd.extractLsb' 0 2) rs1 rs2)
  else if opf = 0x056#9 then whenZero "FCMPEd" (rd.extractLsb' 2 3 = 0#3) (.fcmped (rd.extractLsb' 0 2) rs1 rs2)
  else if opf = 0x057#9 then whenZero "FCMPEq" (rd.extractLsb' 2 3 = 0#3) (.fcmpeq (rd.extractLsb' 0 2) rs1 rs2)
  else if opf.extractLsb' 0 6 = 1#6 ∨ opf.extractLsb' 0 6 = 2#6 ∨ opf.extractLsb' 0 6 = 3#6 then
    decodeFmovcc rd rs1 (opf.extractLsb' 6 3) (opf.extractLsb' 0 6) rs2
  else if opf.extractLsb' 0 5 = 5#5 ∨ opf.extractLsb' 0 5 = 6#5 ∨ opf.extractLsb' 0 5 = 7#5 then decodeFmovr rd rs1 opf rs2
  else .error .unassignedFPop

/-- The `opf` values rule R449 assigns in the IMPDEP1 space. -/
def visAssigned (opf : BitVec 9) : Bool :=
  (opf = 0x080#9 || opf = 0x018#9 || opf = 0x01a#9 || opf = 0x048#9 || opf = 0x019#9 || opf = 0x04c#9 || opf = 0x000#9 || opf = 0x002#9
    || opf = 0x004#9 || opf = 0x006#9 || opf = 0x008#9 || opf = 0x00a#9 || opf = 0x001#9 || opf = 0x003#9 || opf = 0x005#9 || opf = 0x007#9
    || opf = 0x009#9 || opf = 0x00b#9 || opf = 0x010#9 || opf = 0x012#9 || opf = 0x014#9 || opf = 0x020#9 || opf = 0x022#9 || opf = 0x024#9
    || opf = 0x026#9 || opf = 0x028#9 || opf = 0x02a#9 || opf = 0x02c#9 || opf = 0x02e#9 || opf = 0x050#9 || opf = 0x051#9 || opf = 0x052#9
    || opf = 0x053#9 || opf = 0x054#9 || opf = 0x055#9 || opf = 0x056#9 || opf = 0x057#9 || opf = 0x060#9 || opf = 0x061#9 || opf = 0x07e#9
    || opf = 0x07f#9 || opf = 0x074#9 || opf = 0x075#9 || opf = 0x078#9 || opf = 0x079#9 || opf = 0x06a#9 || opf = 0x06b#9 || opf = 0x066#9
    || opf = 0x067#9 || opf = 0x07c#9 || opf = 0x07d#9 || opf = 0x062#9 || opf = 0x063#9 || opf = 0x070#9 || opf = 0x071#9 || opf = 0x06e#9
    || opf = 0x06f#9 || opf = 0x06c#9 || opf = 0x06d#9 || opf = 0x072#9 || opf = 0x073#9 || opf = 0x07a#9 || opf = 0x07b#9 || opf = 0x076#9
    || opf = 0x077#9 || opf = 0x068#9 || opf = 0x069#9 || opf = 0x064#9 || opf = 0x065#9 || opf = 0x081#9 || opf = 0x04d#9 || opf = 0x031#9
    || opf = 0x033#9 || opf = 0x035#9 || opf = 0x036#9 || opf = 0x037#9 || opf = 0x038#9 || opf = 0x039#9 || opf = 0x03b#9 || opf = 0x03a#9
    || opf = 0x03d#9 || opf = 0x04b#9 || opf = 0x03e#9 : Bool)

/-- IMPDEP1, the VIS instructions, by `opf` (rules R449, R951). -/
noncomputable def decodeVis (rd rs1 : BitVec 5) (opf : BitVec 9) (rs2 : BitVec 5) : Decoded :=
  if opf = 0x080#9 then .ok .shutdown
  else if opf = 0x018#9 then .ok (.alignaddress rd rs1 rs2)
  else if opf = 0x01a#9 then .ok (.alignaddress_little rd rs1 rs2)
  else if opf = 0x048#9 then .ok (.faligndata rd rs1 rs2)
  else if opf = 0x019#9 then .ok (.bmask rd rs1 rs2)
  else if opf = 0x04c#9 then .ok (.bshuffle rd rs1 rs2)
  else if opf = 0x000#9 then .ok (.edge8cc rd rs1 rs2)
  else if opf = 0x002#9 then .ok (.edge8lcc rd rs1 rs2)
  else if opf = 0x004#9 then .ok (.edge16cc rd rs1 rs2)
  else if opf = 0x006#9 then .ok (.edge16lcc rd rs1 rs2)
  else if opf = 0x008#9 then .ok (.edge32cc rd rs1 rs2)
  else if opf = 0x00a#9 then .ok (.edge32lcc rd rs1 rs2)
  else if opf = 0x001#9 then .ok (.edge8n rd rs1 rs2)
  else if opf = 0x003#9 then .ok (.edge8ln rd rs1 rs2)
  else if opf = 0x005#9 then .ok (.edge16n rd rs1 rs2)
  else if opf = 0x007#9 then .ok (.edge16ln rd rs1 rs2)
  else if opf = 0x009#9 then .ok (.edge32n rd rs1 rs2)
  else if opf = 0x00b#9 then .ok (.edge32ln rd rs1 rs2)
  else if opf = 0x010#9 then .ok (.array8 rd rs1 rs2)
  else if opf = 0x012#9 then .ok (.array16 rd rs1 rs2)
  else if opf = 0x014#9 then .ok (.array32 rd rs1 rs2)
  else if opf = 0x020#9 then .ok (.fcmple16 rd rs1 rs2)
  else if opf = 0x022#9 then .ok (.fcmpne16 rd rs1 rs2)
  else if opf = 0x024#9 then .ok (.fcmple32 rd rs1 rs2)
  else if opf = 0x026#9 then .ok (.fcmpne32 rd rs1 rs2)
  else if opf = 0x028#9 then .ok (.fcmpgt16 rd rs1 rs2)
  else if opf = 0x02a#9 then .ok (.fcmpeq16 rd rs1 rs2)
  else if opf = 0x02c#9 then .ok (.fcmpgt32 rd rs1 rs2)
  else if opf = 0x02e#9 then .ok (.fcmpeq32 rd rs1 rs2)
  else if opf = 0x050#9 then .ok (.fpadd16 rd rs1 rs2)
  else if opf = 0x051#9 then .ok (.fpadd16s rd rs1 rs2)
  else if opf = 0x052#9 then .ok (.fpadd32 rd rs1 rs2)
  else if opf = 0x053#9 then .ok (.fpadd32s rd rs1 rs2)
  else if opf = 0x054#9 then .ok (.fpsub16 rd rs1 rs2)
  else if opf = 0x055#9 then .ok (.fpsub16s rd rs1 rs2)
  else if opf = 0x056#9 then .ok (.fpsub32 rd rs1 rs2)
  else if opf = 0x057#9 then .ok (.fpsub32s rd rs1 rs2)
  else if opf = 0x060#9 then whenZero "FZERO" (rs1 = 0#5 && rs2 = 0#5) (.fzero rd)
  else if opf = 0x061#9 then whenZero "FZEROs" (rs1 = 0#5 && rs2 = 0#5) (.fzeros rd)
  else if opf = 0x07e#9 then whenZero "FONE" (rs1 = 0#5 && rs2 = 0#5) (.fone rd)
  else if opf = 0x07f#9 then whenZero "FONEs" (rs1 = 0#5 && rs2 = 0#5) (.fones rd)
  else if opf = 0x074#9 then whenZero "FSRC1" (rs2 = 0#5) (.fsrc1 rd rs1)
  else if opf = 0x075#9 then whenZero "FSRC1s" (rs2 = 0#5) (.fsrc1s rd rs1)
  else if opf = 0x078#9 then whenZero "FSRC2" (rs1 = 0#5) (.fsrc2 rd rs2)
  else if opf = 0x079#9 then whenZero "FSRC2s" (rs1 = 0#5) (.fsrc2s rd rs2)
  else if opf = 0x06a#9 then whenZero "FNOT1" (rs2 = 0#5) (.fnot1 rd rs1)
  else if opf = 0x06b#9 then whenZero "FNOT1s" (rs2 = 0#5) (.fnot1s rd rs1)
  else if opf = 0x066#9 then whenZero "FNOT2" (rs1 = 0#5) (.fnot2 rd rs2)
  else if opf = 0x067#9 then whenZero "FNOT2s" (rs1 = 0#5) (.fnot2s rd rs2)
  else if opf = 0x07c#9 then .ok (.for_ rd rs1 rs2)
  else if opf = 0x07d#9 then .ok (.fors rd rs1 rs2)
  else if opf = 0x062#9 then .ok (.fnor rd rs1 rs2)
  else if opf = 0x063#9 then .ok (.fnors rd rs1 rs2)
  else if opf = 0x070#9 then .ok (.fand rd rs1 rs2)
  else if opf = 0x071#9 then .ok (.fands rd rs1 rs2)
  else if opf = 0x06e#9 then .ok (.fnand rd rs1 rs2)
  else if opf = 0x06f#9 then .ok (.fnands rd rs1 rs2)
  else if opf = 0x06c#9 then .ok (.fxor rd rs1 rs2)
  else if opf = 0x06d#9 then .ok (.fxors rd rs1 rs2)
  else if opf = 0x072#9 then .ok (.fxnor rd rs1 rs2)
  else if opf = 0x073#9 then .ok (.fxnors rd rs1 rs2)
  else if opf = 0x07a#9 then .ok (.fornot1 rd rs1 rs2)
  else if opf = 0x07b#9 then .ok (.fornot1s rd rs1 rs2)
  else if opf = 0x076#9 then .ok (.fornot2 rd rs1 rs2)
  else if opf = 0x077#9 then .ok (.fornot2s rd rs1 rs2)
  else if opf = 0x068#9 then .ok (.fandnot1 rd rs1 rs2)
  else if opf = 0x069#9 then .ok (.fandnot1s rd rs1 rs2)
  else if opf = 0x064#9 then .ok (.fandnot2 rd rs1 rs2)
  else if opf = 0x065#9 then .ok (.fandnot2s rd rs1 rs2)
  else if opf = 0x081#9 then whenZero "SIAM" (rd = 0#5 && rs1 = 0#5 && rs2.extractLsb' 3 2 = 0#2) (.siam (rs2.extractLsb' 0 3))
  else if opf = 0x04d#9 then .ok (.fexpand rd rs2)
  else if opf = 0x031#9 then .ok (.fmul8x16 rd rs1 rs2)
  else if opf = 0x033#9 then .ok (.fmul8x16au rd rs1 rs2)
  else if opf = 0x035#9 then .ok (.fmul8x16al rd rs1 rs2)
  else if opf = 0x036#9 then .ok (.fmul8sux16 rd rs1 rs2)
  else if opf = 0x037#9 then .ok (.fmul8ulx16 rd rs1 rs2)
  else if opf = 0x038#9 then .ok (.fmuld8sux16 rd rs1 rs2)
  else if opf = 0x039#9 then .ok (.fmuld8ulx16 rd rs1 rs2)
  else if opf = 0x03b#9 then .ok (.fpack16 rd rs2)
  else if opf = 0x03a#9 then .ok (.fpack32 rd rs1 rs2)
  else if opf = 0x03d#9 then .ok (.fpackfix rd rs2)
  else if opf = 0x04b#9 then .ok (.fpmerge rd rs1 rs2)
  else if opf = 0x03e#9 then .ok (.pdist rd rs1 rs2)
  else .ok (.impdep1 rd rs1 opf rs2)

/-- `op = 2` by `op3` (rule R442). -/
noncomputable def decodeArith (rd : BitVec 5) (op3 : BitVec 6) (rs1 : BitVec 5) (low : BitVec 14) : Decoded :=
  if op3 = 0x00#6 then withSrc2 "ADD" low (.add rd rs1)
  else if op3 = 0x01#6 then withSrc2 "AND" low (.and rd rs1)
  else if op3 = 0x02#6 then withSrc2 "OR" low (.or rd rs1)
  else if op3 = 0x03#6 then withSrc2 "XOR" low (.xor rd rs1)
  else if op3 = 0x04#6 then withSrc2 "SUB" low (.sub rd rs1)
  else if op3 = 0x05#6 then withSrc2 "ANDN" low (.andn rd rs1)
  else if op3 = 0x06#6 then withSrc2 "ORN" low (.orn rd rs1)
  else if op3 = 0x07#6 then withSrc2 "XNOR" low (.xnor rd rs1)
  else if op3 = 0x08#6 then withSrc2 "ADDC" low (.addc rd rs1)
  else if op3 = 0x09#6 then withSrc2 "MULX" low (.mulx rd rs1)
  else if op3 = 0x0a#6 then withSrc2 "UMUL" low (.umul rd rs1)
  else if op3 = 0x0b#6 then withSrc2 "SMUL" low (.smul rd rs1)
  else if op3 = 0x0c#6 then withSrc2 "SUBC" low (.subc rd rs1)
  else if op3 = 0x0d#6 then withSrc2 "UDIVX" low (.udivx rd rs1)
  else if op3 = 0x0e#6 then withSrc2 "UDIV" low (.udiv rd rs1)
  else if op3 = 0x0f#6 then withSrc2 "SDIV" low (.sdiv rd rs1)
  else if op3 = 0x10#6 then withSrc2 "ADDcc" low (.addcc rd rs1)
  else if op3 = 0x11#6 then withSrc2 "ANDcc" low (.andcc rd rs1)
  else if op3 = 0x12#6 then withSrc2 "ORcc" low (.orcc rd rs1)
  else if op3 = 0x13#6 then withSrc2 "XORcc" low (.xorcc rd rs1)
  else if op3 = 0x14#6 then withSrc2 "SUBcc" low (.subcc rd rs1)
  else if op3 = 0x15#6 then withSrc2 "ANDNcc" low (.andncc rd rs1)
  else if op3 = 0x16#6 then withSrc2 "ORNcc" low (.orncc rd rs1)
  else if op3 = 0x17#6 then withSrc2 "XNORcc" low (.xnorcc rd rs1)
  else if op3 = 0x18#6 then withSrc2 "ADDCcc" low (.addccc rd rs1)
  else if op3 = 0x1a#6 then withSrc2 "UMULcc" low (.umulcc rd rs1)
  else if op3 = 0x1b#6 then withSrc2 "SMULcc" low (.smulcc rd rs1)
  else if op3 = 0x1c#6 then withSrc2 "SUBCcc" low (.subccc rd rs1)
  else if op3 = 0x1e#6 then withSrc2 "UDIVcc" low (.udivcc rd rs1)
  else if op3 = 0x1f#6 then withSrc2 "SDIVcc" low (.sdivcc rd rs1)
  else if op3 = 0x20#6 then withSrc2 "TADDcc" low (.taddcc rd rs1)
  else if op3 = 0x21#6 then withSrc2 "TSUBcc" low (.tsubcc rd rs1)
  else if op3 = 0x22#6 then withSrc2 "TADDccTV" low (.taddcctv rd rs1)
  else if op3 = 0x23#6 then withSrc2 "TSUBccTV" low (.tsubcctv rd rs1)
  else if op3 = 0x24#6 then withSrc2 "MULScc" low (.mulscc rd rs1)
  else if op3 = 0x25#6 then if low.extractLsb' 12 1 = 0#1 then orReject (.reservedBits "SLL") (decCount32 low) (.sll rd rs1) else orReject (.reservedBits "SLLX") (decCount64 low) (.sllx rd rs1)
  else if op3 = 0x26#6 then if low.extractLsb' 12 1 = 0#1 then orReject (.reservedBits "SRL") (decCount32 low) (.srl rd rs1) else orReject (.reservedBits "SRLX") (decCount64 low) (.srlx rd rs1)
  else if op3 = 0x27#6 then if low.extractLsb' 12 1 = 0#1 then orReject (.reservedBits "SRA") (decCount32 low) (.sra rd rs1) else orReject (.reservedBits "SRAX") (decCount64 low) (.srax rd rs1)
  else if op3 = 0x28#6 then decodeRdasr rd rs1 low
  else if op3 = 0x29#6 then whenZero "RDHPR" (low = 0#14) (.rdhpr rd rs1)
  else if op3 = 0x2a#6 then whenZero "RDPR" (low = 0#14) (.rdpr rd rs1)
  else if op3 = 0x2b#6 then whenZero "FLUSHW" (rd = 0#5 && rs1 = 0#5 && low.extractLsb' 0 13 = 0#13) .flushw
  else if op3 = 0x2c#6 then decodeMovcc rd (rs1.extractLsb' 4 1) (rs1.extractLsb' 0 4) low
  else if op3 = 0x2d#6 then withSrc2 "SDIVX" low (.sdivx rd rs1)
  else if op3 = 0x2e#6 then if rs1 = 0#5 then withSrc2 "POPC" low (.popc rd) else .error (.reservedBits "POPC")
  else if op3 = 0x2f#6 then decodeMovr rd rs1 low
  else if op3 = 0x30#6 then decodeWrasr rd rs1 low
  else if op3 = 0x31#6 then decodeWindow rd rs1 low
  else if op3 = 0x32#6 then withSrc2 "WRPR" low (.wrpr rd rs1)
  else if op3 = 0x33#6 then withSrc2 "WRHPR" low (.wrhpr rd rs1)
  else if op3 = 0x34#6 then decodeFPop1 rd rs1 (low.extractLsb' 5 9) (low.extractLsb' 0 5)
  else if op3 = 0x35#6 then decodeFPop2 rd rs1 (low.extractLsb' 5 9) (low.extractLsb' 0 5)
  else if op3 = 0x36#6 then decodeVis rd rs1 (low.extractLsb' 5 9) (low.extractLsb' 0 5)
  else if op3 = 0x37#6 then if low.extractLsb' 5 2 = 0#2 then .ok (.impdep2a rd (rs1 ++ low.extractLsb' 7 7) (low.extractLsb' 0 5)) else .ok (.impdep2b rd (rs1 ++ low.extractLsb' 7 7) (low.extractLsb' 5 2) (low.extractLsb' 0 5))
  else if op3 = 0x38#6 then withSrc2 "JMPL" low (.jmpl rd rs1)
  else if op3 = 0x39#6 then withSrc2 "RETURN" low (.return_ rs1)
  else if op3 = 0x3a#6 then decodeTcc (rd.extractLsb' 4 1) (rd.extractLsb' 0 4) rs1 low
  else if op3 = 0x3b#6 then if rd = 0#5 then withSrc2 "FLUSH" low (.flush rs1) else .error (.reservedBits "FLUSH")
  else if op3 = 0x3c#6 then withSrc2 "SAVE" low (.save rd rs1)
  else if op3 = 0x3d#6 then withSrc2 "RESTORE" low (.restore rd rs1)
  else if op3 = 0x3e#6 then if rd = 0#5 then whenZero "DONE" (rs1 = 0#5 && low = 0#14) .done else if rd = 1#5 then whenZero "RETRY" (rs1 = 0#5 && low = 0#14) .retry else .error .reservedOpcode
  else .error .reservedOpcode

/-! ### op = 3: memory access (rule R443) -/

/-- `op = 3` by `op3` (rule R443). With `i = 0` the immediate ASI selects among the instructions that share an opcode; with
`i = 1` the ASI register does so when the instruction executes (rules R751, R841, R851). -/
def decodeMem (rd : BitVec 5) (op3 : BitVec 6) (rs1 : BitVec 5) (low : BitVec 14) : Decoded :=
  if op3 = 0x00#6 then withSrc2 "LDUW" low (.lduw rd rs1)
  else if op3 = 0x01#6 then withSrc2 "LDUB" low (.ldub rd rs1)
  else if op3 = 0x02#6 then withSrc2 "LDUH" low (.lduh rd rs1)
  else if op3 = 0x03#6 then withSrc2 "LDTW" low (.ldtw rd rs1)
  else if op3 = 0x04#6 then withSrc2 "STW" low (.stw rd rs1)
  else if op3 = 0x05#6 then withSrc2 "STB" low (.stb rd rs1)
  else if op3 = 0x06#6 then withSrc2 "STH" low (.sth rd rs1)
  else if op3 = 0x07#6 then withSrc2 "STTW" low (.sttw rd rs1)
  else if op3 = 0x08#6 then withSrc2 "LDSW" low (.ldsw rd rs1)
  else if op3 = 0x09#6 then withSrc2 "LDSB" low (.ldsb rd rs1)
  else if op3 = 0x0a#6 then withSrc2 "LDSH" low (.ldsh rd rs1)
  else if op3 = 0x0b#6 then withSrc2 "LDX" low (.ldx rd rs1)
  else if op3 = 0x0d#6 then withSrc2 "LDSTUB" low (.ldstub rd rs1)
  else if op3 = 0x0e#6 then withSrc2 "STX" low (.stx rd rs1)
  else if op3 = 0x0f#6 then withSrc2 "SWAP" low (.swap rd rs1)
  else if op3 = 0x10#6 then .ok (.lduwa rd rs1 (decAsi low))
  else if op3 = 0x11#6 then .ok (.lduba rd rs1 (decAsi low))
  else if op3 = 0x12#6 then .ok (.lduha rd rs1 (decAsi low))
  else if op3 = 0x13#6 then (match decAsi low with
    | .imm simm13 => .ok (.ldtwa rd rs1 (.imm simm13))
    | .reg rs2 asi =>
      if asiIsLdtx asi then .ok (.ldtxa rd rs1 rs2 asi) else .ok (.ldtwa rd rs1 (.reg rs2 asi)))
  else if op3 = 0x14#6 then .ok (.stwa rd rs1 (decAsi low))
  else if op3 = 0x15#6 then .ok (.stba rd rs1 (decAsi low))
  else if op3 = 0x16#6 then .ok (.stha rd rs1 (decAsi low))
  else if op3 = 0x17#6 then .ok (.sttwa rd rs1 (decAsi low))
  else if op3 = 0x18#6 then .ok (.ldswa rd rs1 (decAsi low))
  else if op3 = 0x19#6 then .ok (.ldsba rd rs1 (decAsi low))
  else if op3 = 0x1a#6 then .ok (.ldsha rd rs1 (decAsi low))
  else if op3 = 0x1b#6 then .ok (.ldxa rd rs1 (decAsi low))
  else if op3 = 0x1d#6 then .ok (.ldstuba rd rs1 (decAsi low))
  else if op3 = 0x1e#6 then .ok (.stxa rd rs1 (decAsi low))
  else if op3 = 0x1f#6 then .ok (.swapa rd rs1 (decAsi low))
  else if op3 = 0x20#6 then withSrc2 "LDF" low (.ldf rd rs1)
  else if op3 = 0x21#6 then if rd = 0#5 then withSrc2 "LDFSR" low (.ldfsr rs1) else if rd = 1#5 then withSrc2 "LDXFSR" low (.ldxfsr rs1) else .error (.illegalField "LDXFSR")
  else if op3 = 0x22#6 then withSrc2 "LDQF" low (.ldqf rd rs1)
  else if op3 = 0x23#6 then withSrc2 "LDDF" low (.lddf rd rs1)
  else if op3 = 0x24#6 then withSrc2 "STF" low (.stf rd rs1)
  else if op3 = 0x25#6 then if rd = 0#5 then withSrc2 "STFSR" low (.stfsr rs1) else if rd = 1#5 then withSrc2 "STXFSR" low (.stxfsr rs1) else .error (.illegalField "STXFSR")
  else if op3 = 0x26#6 then withSrc2 "STQF" low (.stqf rd rs1)
  else if op3 = 0x27#6 then withSrc2 "STDF" low (.stdf rd rs1)
  else if op3 = 0x2d#6 then withSrc2 "PREFETCH" low (.prefetch rd rs1)
  else if op3 = 0x30#6 then .ok (.ldfa rd rs1 (decAsi low))
  else if op3 = 0x32#6 then .ok (.ldqfa rd rs1 (decAsi low))
  else if op3 = 0x33#6 then (match decAsi low with
    | .imm simm13 => .ok (.lddfa rd rs1 (.imm simm13))
    | .reg rs2 asi =>
      if asiIsBlock asi then .ok (.ldblockf rd rs1 rs2 asi) else if asiIsShort asi then .ok (.ldshortf rd rs1 rs2 asi) else .ok (.lddfa rd rs1 (.reg rs2 asi)))
  else if op3 = 0x34#6 then .ok (.stfa rd rs1 (decAsi low))
  else if op3 = 0x36#6 then .ok (.stqfa rd rs1 (decAsi low))
  else if op3 = 0x37#6 then (match decAsi low with
    | .imm simm13 => .ok (.stdfa rd rs1 (.imm simm13))
    | .reg rs2 asi =>
      if asiIsBlock asi then .ok (.stblockf rd rs1 rs2 asi) else if asiIsShort asi then .ok (.stshortf rd rs1 rs2 asi) else if asiIsPartial asi then .ok (.stpartialf rd rs1 rs2 asi) else .ok (.stdfa rd rs1 (.reg rs2 asi)))
  else if op3 = 0x3c#6 then orReject (.reservedBits "CASA") (decCas low) (.casa rd rs1 (low.extractLsb' 0 5))
  else if op3 = 0x3d#6 then .ok (.prefetcha rd rs1 (decAsi low))
  else if op3 = 0x3e#6 then orReject (.reservedBits "CASXA") (decCas low) (.casxa rd rs1 (low.extractLsb' 0 5))
  else .error .reservedOpcode

/-- The decoder: `op` is bits 31:30 (rule R440). -/
noncomputable def decode (w : BitVec 32) : Decoded :=
  if w.extractLsb' 30 2 = 0#2 then decodeFmt2 (w.extractLsb' 25 5) (w.extractLsb' 22 3) (w.extractLsb' 0 22)
  else if w.extractLsb' 30 2 = 1#2 then .ok (.call (w.extractLsb' 0 30))
  else if w.extractLsb' 30 2 = 2#2 then
    decodeArith (w.extractLsb' 25 5) (w.extractLsb' 19 6) (w.extractLsb' 14 5) (w.extractLsb' 0 14)
  else decodeMem (w.extractLsb' 25 5) (w.extractLsb' 19 6) (w.extractLsb' 14 5) (w.extractLsb' 0 14)

/-- Instructions are stored most significant byte first (rules R171, R400): the word at four successive bytes. -/
def wordOfBytes (b0 b1 b2 b3 : Byte) : Word := b0 ++ b1 ++ b2 ++ b3

/-- The decoder on bytes: the first four bytes are an instruction; fewer are none. -/
noncomputable def decodeBytes : List Byte → Option Decoded
  | b0 :: b1 :: b2 :: b3 :: _ => some (decode (wordOfBytes b0 b1 b2 b3))
  | _ => none

/-- The four bytes of an instruction word as the hardware stores them: the most significant at the lowest address. -/
def bytesOfWord (w : Word) : List Byte :=
  [w.extractLsb' 24 8, w.extractLsb' 16 8, w.extractLsb' 8 8, w.extractLsb' 0 8]

/-- The instruction the decoder reads from the word that spec/opcode_table.json numbers `w`: its bytes are laid out in
memory order and given to the decoder. Every instruction is one 32-bit word (rule R400), so `nbits` is 32. -/
noncomputable def decodeTableWord (_nbits w : Nat) : Option Instr :=
  match decodeBytes (bytesOfWord (BitVec.ofNat 32 w)) with
  | some (.ok i) => some i
  | _ => none

/-! ### The encoder -/

/-- A word of format 3 or 4 (rule R408): `op`, `rd`, `op3`, `rs1` and the low 14 bits. -/
def enc3 (op : BitVec 2) (rd : BitVec 5) (op3 : BitVec 6) (rs1 : BitVec 5) (low : BitVec 14) : BitVec 32 :=
  op ++ rd ++ op3 ++ rs1 ++ low

/-- A word of format 2 (rules R403 to R406): `op = 0`, bits 29:25, `op2` and the low 22 bits. -/
def enc2 (top : BitVec 5) (op2 : BitVec 3) (low : BitVec 22) : BitVec 32 := 0#2 ++ top ++ op2 ++ low

/-- Low 14 bits of FMT3_RR / FMT3_RI (rule R408). -/
def encSrc2 : RegOrImm13 → BitVec 14
  | .reg rs2 => 0#1 ++ 0#8 ++ rs2
  | .imm simm13 => 1#1 ++ simm13

/-- Low 14 bits of FMT3_ASI (rule R420). -/
def encAsi : AsiOperand → BitVec 14
  | .reg rs2 asi => 0#1 ++ asi ++ rs2
  | .imm simm13 => 1#1 ++ simm13

/-- Low 14 bits of CASA and CASXA (rule R420). -/
def encCas (sel : AsiSelect) (rs2 : BitVec 5) : BitVec 14 :=
  match sel with
  | .imm asi => 0#1 ++ asi ++ rs2
  | .asiReg => 1#1 ++ 0#8 ++ rs2

/-- Low 14 bits of a shift with `x = 0` (rule R409). -/
def encCount32 : Count32 → BitVec 14
  | .reg rs2 => 0#1 ++ 0#1 ++ 0#7 ++ rs2
  | .imm shcnt32 => 1#1 ++ 0#1 ++ 0#7 ++ shcnt32

/-- Low 14 bits of a shift with `x = 1` (rule R409). -/
def encCount64 : Count64 → BitVec 14
  | .reg rs2 => 0#1 ++ 1#1 ++ 0#7 ++ rs2
  | .imm shcnt64 => 1#1 ++ 1#1 ++ 0#6 ++ shcnt64

/-- `cc1 :: cc0` of icc and xcc (rule R462). -/
def encIcc : IccSelect → BitVec 2
  | .icc => 0#2
  | .xcc => 2#2

/-- Low 14 bits of MOVcc (rule R412). -/
def encMovcc (cc : BitVec 2) : RegOrImm11 → BitVec 14
  | .reg rs2 => 0#1 ++ cc ++ 0#6 ++ rs2
  | .imm simm11 => 1#1 ++ cc ++ simm11

/-- Low 14 bits of MOVr (rule R413). -/
def encMovr (rcond : BitVec 3) : RegOrImm10 → BitVec 14
  | .reg rs2 => 0#1 ++ rcond ++ 0#5 ++ rs2
  | .imm simm10 => 1#1 ++ rcond ++ simm10

/-- Low 22 bits of BPr: the displacement is split around `p` and `rs1` (rule R406). -/
def encD16 (p : BitVec 1) (rs1 : BitVec 5) (disp16 : BitVec 16) : BitVec 22 :=
  disp16.extractLsb' 14 2 ++ p ++ rs1 ++ disp16.extractLsb' 0 14

/-- Low 14 bits of Tcc (rule R414). -/
def encTcc (cc : BitVec 2) : TrapOperand → BitVec 14
  | .reg rs2 => 0#1 ++ cc ++ 0#6 ++ rs2
  | .imm number => 1#1 ++ cc ++ 0#3 ++ number

/-- A word of the IMPDEP2 spaces (rules R952, R953). -/
def encImpdep2 (rd : BitVec 5) (mid : BitVec 12) (op4 : BitVec 2) (rs2 : BitVec 5) : BitVec 32 :=
  enc3 2#2 rd 0x37#6 (mid.extractLsb' 7 5) (mid.extractLsb' 0 7 ++ op4 ++ rs2)

/-- The word of an instruction. -/
def encode : Instr → BitVec 32
  | .add rd rs1 op2 => enc3 0x2#2 rd 0x00#6 rs1 (encSrc2 op2)
  | .addcc rd rs1 op2 => enc3 0x2#2 rd 0x10#6 rs1 (encSrc2 op2)
  | .and rd rs1 op2 => enc3 0x2#2 rd 0x01#6 rs1 (encSrc2 op2)
  | .andcc rd rs1 op2 => enc3 0x2#2 rd 0x11#6 rs1 (encSrc2 op2)
  | .or rd rs1 op2 => enc3 0x2#2 rd 0x02#6 rs1 (encSrc2 op2)
  | .orcc rd rs1 op2 => enc3 0x2#2 rd 0x12#6 rs1 (encSrc2 op2)
  | .xor rd rs1 op2 => enc3 0x2#2 rd 0x03#6 rs1 (encSrc2 op2)
  | .xorcc rd rs1 op2 => enc3 0x2#2 rd 0x13#6 rs1 (encSrc2 op2)
  | .sub rd rs1 op2 => enc3 0x2#2 rd 0x04#6 rs1 (encSrc2 op2)
  | .subcc rd rs1 op2 => enc3 0x2#2 rd 0x14#6 rs1 (encSrc2 op2)
  | .andn rd rs1 op2 => enc3 0x2#2 rd 0x05#6 rs1 (encSrc2 op2)
  | .andncc rd rs1 op2 => enc3 0x2#2 rd 0x15#6 rs1 (encSrc2 op2)
  | .orn rd rs1 op2 => enc3 0x2#2 rd 0x06#6 rs1 (encSrc2 op2)
  | .orncc rd rs1 op2 => enc3 0x2#2 rd 0x16#6 rs1 (encSrc2 op2)
  | .xnor rd rs1 op2 => enc3 0x2#2 rd 0x07#6 rs1 (encSrc2 op2)
  | .xnorcc rd rs1 op2 => enc3 0x2#2 rd 0x17#6 rs1 (encSrc2 op2)
  | .addc rd rs1 op2 => enc3 0x2#2 rd 0x08#6 rs1 (encSrc2 op2)
  | .addccc rd rs1 op2 => enc3 0x2#2 rd 0x18#6 rs1 (encSrc2 op2)
  | .subc rd rs1 op2 => enc3 0x2#2 rd 0x0c#6 rs1 (encSrc2 op2)
  | .subccc rd rs1 op2 => enc3 0x2#2 rd 0x1c#6 rs1 (encSrc2 op2)
  | .mulx rd rs1 op2 => enc3 0x2#2 rd 0x09#6 rs1 (encSrc2 op2)
  | .sdivx rd rs1 op2 => enc3 0x2#2 rd 0x2d#6 rs1 (encSrc2 op2)
  | .udivx rd rs1 op2 => enc3 0x2#2 rd 0x0d#6 rs1 (encSrc2 op2)
  | .umul rd rs1 op2 => enc3 0x2#2 rd 0x0a#6 rs1 (encSrc2 op2)
  | .smul rd rs1 op2 => enc3 0x2#2 rd 0x0b#6 rs1 (encSrc2 op2)
  | .umulcc rd rs1 op2 => enc3 0x2#2 rd 0x1a#6 rs1 (encSrc2 op2)
  | .smulcc rd rs1 op2 => enc3 0x2#2 rd 0x1b#6 rs1 (encSrc2 op2)
  | .udiv rd rs1 op2 => enc3 0x2#2 rd 0x0e#6 rs1 (encSrc2 op2)
  | .sdiv rd rs1 op2 => enc3 0x2#2 rd 0x0f#6 rs1 (encSrc2 op2)
  | .udivcc rd rs1 op2 => enc3 0x2#2 rd 0x1e#6 rs1 (encSrc2 op2)
  | .sdivcc rd rs1 op2 => enc3 0x2#2 rd 0x1f#6 rs1 (encSrc2 op2)
  | .mulscc rd rs1 op2 => enc3 0x2#2 rd 0x24#6 rs1 (encSrc2 op2)
  | .taddcc rd rs1 op2 => enc3 0x2#2 rd 0x20#6 rs1 (encSrc2 op2)
  | .taddcctv rd rs1 op2 => enc3 0x2#2 rd 0x22#6 rs1 (encSrc2 op2)
  | .tsubcc rd rs1 op2 => enc3 0x2#2 rd 0x21#6 rs1 (encSrc2 op2)
  | .tsubcctv rd rs1 op2 => enc3 0x2#2 rd 0x23#6 rs1 (encSrc2 op2)
  | .sll rd rs1 count => enc3 0x2#2 rd 0x25#6 rs1 (encCount32 count)
  | .sllx rd rs1 count => enc3 0x2#2 rd 0x25#6 rs1 (encCount64 count)
  | .srl rd rs1 count => enc3 0x2#2 rd 0x26#6 rs1 (encCount32 count)
  | .srlx rd rs1 count => enc3 0x2#2 rd 0x26#6 rs1 (encCount64 count)
  | .sra rd rs1 count => enc3 0x2#2 rd 0x27#6 rs1 (encCount32 count)
  | .srax rd rs1 count => enc3 0x2#2 rd 0x27#6 rs1 (encCount64 count)
  | .sethi rd imm22 => enc2 rd 0x4#3 imm22
  | .nop => enc2 0x00#5 0x4#3 0x000000#22
  | .popc rd op2 => enc3 0x2#2 rd 0x2e#6 0x00#5 (encSrc2 op2)
  | .mova rd cc op2 => enc3 0x2#2 rd 0x2c#6 (1#1 ++ 0x8#4) (encMovcc (encIcc cc) op2)
  | .movn rd cc op2 => enc3 0x2#2 rd 0x2c#6 (1#1 ++ 0x0#4) (encMovcc (encIcc cc) op2)
  | .movne rd cc op2 => enc3 0x2#2 rd 0x2c#6 (1#1 ++ 0x9#4) (encMovcc (encIcc cc) op2)
  | .move rd cc op2 => enc3 0x2#2 rd 0x2c#6 (1#1 ++ 0x1#4) (encMovcc (encIcc cc) op2)
  | .movg rd cc op2 => enc3 0x2#2 rd 0x2c#6 (1#1 ++ 0xa#4) (encMovcc (encIcc cc) op2)
  | .movle rd cc op2 => enc3 0x2#2 rd 0x2c#6 (1#1 ++ 0x2#4) (encMovcc (encIcc cc) op2)
  | .movge rd cc op2 => enc3 0x2#2 rd 0x2c#6 (1#1 ++ 0xb#4) (encMovcc (encIcc cc) op2)
  | .movl rd cc op2 => enc3 0x2#2 rd 0x2c#6 (1#1 ++ 0x3#4) (encMovcc (encIcc cc) op2)
  | .movgu rd cc op2 => enc3 0x2#2 rd 0x2c#6 (1#1 ++ 0xc#4) (encMovcc (encIcc cc) op2)
  | .movleu rd cc op2 => enc3 0x2#2 rd 0x2c#6 (1#1 ++ 0x4#4) (encMovcc (encIcc cc) op2)
  | .movcc rd cc op2 => enc3 0x2#2 rd 0x2c#6 (1#1 ++ 0xd#4) (encMovcc (encIcc cc) op2)
  | .movcs rd cc op2 => enc3 0x2#2 rd 0x2c#6 (1#1 ++ 0x5#4) (encMovcc (encIcc cc) op2)
  | .movpos rd cc op2 => enc3 0x2#2 rd 0x2c#6 (1#1 ++ 0xe#4) (encMovcc (encIcc cc) op2)
  | .movneg rd cc op2 => enc3 0x2#2 rd 0x2c#6 (1#1 ++ 0x6#4) (encMovcc (encIcc cc) op2)
  | .movvc rd cc op2 => enc3 0x2#2 rd 0x2c#6 (1#1 ++ 0xf#4) (encMovcc (encIcc cc) op2)
  | .movvs rd cc op2 => enc3 0x2#2 rd 0x2c#6 (1#1 ++ 0x7#4) (encMovcc (encIcc cc) op2)
  | .movfa rd cc op2 => enc3 0x2#2 rd 0x2c#6 (0#1 ++ 0x8#4) (encMovcc cc op2)
  | .movfn rd cc op2 => enc3 0x2#2 rd 0x2c#6 (0#1 ++ 0x0#4) (encMovcc cc op2)
  | .movfu rd cc op2 => enc3 0x2#2 rd 0x2c#6 (0#1 ++ 0x7#4) (encMovcc cc op2)
  | .movfg rd cc op2 => enc3 0x2#2 rd 0x2c#6 (0#1 ++ 0x6#4) (encMovcc cc op2)
  | .movfug rd cc op2 => enc3 0x2#2 rd 0x2c#6 (0#1 ++ 0x5#4) (encMovcc cc op2)
  | .movfl rd cc op2 => enc3 0x2#2 rd 0x2c#6 (0#1 ++ 0x4#4) (encMovcc cc op2)
  | .movful rd cc op2 => enc3 0x2#2 rd 0x2c#6 (0#1 ++ 0x3#4) (encMovcc cc op2)
  | .movflg rd cc op2 => enc3 0x2#2 rd 0x2c#6 (0#1 ++ 0x2#4) (encMovcc cc op2)
  | .movfne rd cc op2 => enc3 0x2#2 rd 0x2c#6 (0#1 ++ 0x1#4) (encMovcc cc op2)
  | .movfe rd cc op2 => enc3 0x2#2 rd 0x2c#6 (0#1 ++ 0x9#4) (encMovcc cc op2)
  | .movfue rd cc op2 => enc3 0x2#2 rd 0x2c#6 (0#1 ++ 0xa#4) (encMovcc cc op2)
  | .movfge rd cc op2 => enc3 0x2#2 rd 0x2c#6 (0#1 ++ 0xb#4) (encMovcc cc op2)
  | .movfuge rd cc op2 => enc3 0x2#2 rd 0x2c#6 (0#1 ++ 0xc#4) (encMovcc cc op2)
  | .movfle rd cc op2 => enc3 0x2#2 rd 0x2c#6 (0#1 ++ 0xd#4) (encMovcc cc op2)
  | .movfule rd cc op2 => enc3 0x2#2 rd 0x2c#6 (0#1 ++ 0xe#4) (encMovcc cc op2)
  | .movfo rd cc op2 => enc3 0x2#2 rd 0x2c#6 (0#1 ++ 0xf#4) (encMovcc cc op2)
  | .movrz rd rs1 op2 => enc3 0x2#2 rd 0x2f#6 rs1 (encMovr 0x1#3 op2)
  | .movrlez rd rs1 op2 => enc3 0x2#2 rd 0x2f#6 rs1 (encMovr 0x2#3 op2)
  | .movrlz rd rs1 op2 => enc3 0x2#2 rd 0x2f#6 rs1 (encMovr 0x3#3 op2)
  | .movrnz rd rs1 op2 => enc3 0x2#2 rd 0x2f#6 rs1 (encMovr 0x5#3 op2)
  | .movrgz rd rs1 op2 => enc3 0x2#2 rd 0x2f#6 rs1 (encMovr 0x6#3 op2)
  | .movrgez rd rs1 op2 => enc3 0x2#2 rd 0x2f#6 rs1 (encMovr 0x7#3 op2)
  | .ba a disp22 => enc2 (a ++ 0x8#4) 0x2#3 disp22
  | .bn a disp22 => enc2 (a ++ 0x0#4) 0x2#3 disp22
  | .bne a disp22 => enc2 (a ++ 0x9#4) 0x2#3 disp22
  | .be a disp22 => enc2 (a ++ 0x1#4) 0x2#3 disp22
  | .bg a disp22 => enc2 (a ++ 0xa#4) 0x2#3 disp22
  | .ble a disp22 => enc2 (a ++ 0x2#4) 0x2#3 disp22
  | .bge a disp22 => enc2 (a ++ 0xb#4) 0x2#3 disp22
  | .bl a disp22 => enc2 (a ++ 0x3#4) 0x2#3 disp22
  | .bgu a disp22 => enc2 (a ++ 0xc#4) 0x2#3 disp22
  | .bleu a disp22 => enc2 (a ++ 0x4#4) 0x2#3 disp22
  | .bcc a disp22 => enc2 (a ++ 0xd#4) 0x2#3 disp22
  | .bcs a disp22 => enc2 (a ++ 0x5#4) 0x2#3 disp22
  | .bpos a disp22 => enc2 (a ++ 0xe#4) 0x2#3 disp22
  | .bneg a disp22 => enc2 (a ++ 0x6#4) 0x2#3 disp22
  | .bvc a disp22 => enc2 (a ++ 0xf#4) 0x2#3 disp22
  | .bvs a disp22 => enc2 (a ++ 0x7#4) 0x2#3 disp22
  | .bpa a cc p disp19 => enc2 (a ++ 0x8#4) 0x1#3 (encIcc cc ++ p ++ disp19)
  | .bpn a cc p disp19 => enc2 (a ++ 0x0#4) 0x1#3 (encIcc cc ++ p ++ disp19)
  | .bpne a cc p disp19 => enc2 (a ++ 0x9#4) 0x1#3 (encIcc cc ++ p ++ disp19)
  | .bpe a cc p disp19 => enc2 (a ++ 0x1#4) 0x1#3 (encIcc cc ++ p ++ disp19)
  | .bpg a cc p disp19 => enc2 (a ++ 0xa#4) 0x1#3 (encIcc cc ++ p ++ disp19)
  | .bple a cc p disp19 => enc2 (a ++ 0x2#4) 0x1#3 (encIcc cc ++ p ++ disp19)
  | .bpge a cc p disp19 => enc2 (a ++ 0xb#4) 0x1#3 (encIcc cc ++ p ++ disp19)
  | .bpl a cc p disp19 => enc2 (a ++ 0x3#4) 0x1#3 (encIcc cc ++ p ++ disp19)
  | .bpgu a cc p disp19 => enc2 (a ++ 0xc#4) 0x1#3 (encIcc cc ++ p ++ disp19)
  | .bpleu a cc p disp19 => enc2 (a ++ 0x4#4) 0x1#3 (encIcc cc ++ p ++ disp19)
  | .bpcc a cc p disp19 => enc2 (a ++ 0xd#4) 0x1#3 (encIcc cc ++ p ++ disp19)
  | .bpcs a cc p disp19 => enc2 (a ++ 0x5#4) 0x1#3 (encIcc cc ++ p ++ disp19)
  | .bppos a cc p disp19 => enc2 (a ++ 0xe#4) 0x1#3 (encIcc cc ++ p ++ disp19)
  | .bpneg a cc p disp19 => enc2 (a ++ 0x6#4) 0x1#3 (encIcc cc ++ p ++ disp19)
  | .bpvc a cc p disp19 => enc2 (a ++ 0xf#4) 0x1#3 (encIcc cc ++ p ++ disp19)
  | .bpvs a cc p disp19 => enc2 (a ++ 0x7#4) 0x1#3 (encIcc cc ++ p ++ disp19)
  | .brz a p rs1 disp16 => enc2 (a ++ 0#1 ++ 0x1#3) 0x3#3 (encD16 p rs1 disp16)
  | .brlez a p rs1 disp16 => enc2 (a ++ 0#1 ++ 0x2#3) 0x3#3 (encD16 p rs1 disp16)
  | .brlz a p rs1 disp16 => enc2 (a ++ 0#1 ++ 0x3#3) 0x3#3 (encD16 p rs1 disp16)
  | .brnz a p rs1 disp16 => enc2 (a ++ 0#1 ++ 0x5#3) 0x3#3 (encD16 p rs1 disp16)
  | .brgz a p rs1 disp16 => enc2 (a ++ 0#1 ++ 0x6#3) 0x3#3 (encD16 p rs1 disp16)
  | .brgez a p rs1 disp16 => enc2 (a ++ 0#1 ++ 0x7#3) 0x3#3 (encD16 p rs1 disp16)
  | .call disp30 => 1#2 ++ disp30
  | .fba a disp22 => enc2 (a ++ 0x8#4) 0x6#3 disp22
  | .fbn a disp22 => enc2 (a ++ 0x0#4) 0x6#3 disp22
  | .fbu a disp22 => enc2 (a ++ 0x7#4) 0x6#3 disp22
  | .fbg a disp22 => enc2 (a ++ 0x6#4) 0x6#3 disp22
  | .fbug a disp22 => enc2 (a ++ 0x5#4) 0x6#3 disp22
  | .fbl a disp22 => enc2 (a ++ 0x4#4) 0x6#3 disp22
  | .fbul a disp22 => enc2 (a ++ 0x3#4) 0x6#3 disp22
  | .fblg a disp22 => enc2 (a ++ 0x2#4) 0x6#3 disp22
  | .fbne a disp22 => enc2 (a ++ 0x1#4) 0x6#3 disp22
  | .fbe a disp22 => enc2 (a ++ 0x9#4) 0x6#3 disp22
  | .fbue a disp22 => enc2 (a ++ 0xa#4) 0x6#3 disp22
  | .fbge a disp22 => enc2 (a ++ 0xb#4) 0x6#3 disp22
  | .fbuge a disp22 => enc2 (a ++ 0xc#4) 0x6#3 disp22
  | .fble a disp22 => enc2 (a ++ 0xd#4) 0x6#3 disp22
  | .fbule a disp22 => enc2 (a ++ 0xe#4) 0x6#3 disp22
  | .fbo a disp22 => enc2 (a ++ 0xf#4) 0x6#3 disp22
  | .fbpa a cc p disp19 => enc2 (a ++ 0x8#4) 0x5#3 (cc ++ p ++ disp19)
  | .fbpn a cc p disp19 => enc2 (a ++ 0x0#4) 0x5#3 (cc ++ p ++ disp19)
  | .fbpu a cc p disp19 => enc2 (a ++ 0x7#4) 0x5#3 (cc ++ p ++ disp19)
  | .fbpg a cc p disp19 => enc2 (a ++ 0x6#4) 0x5#3 (cc ++ p ++ disp19)
  | .fbpug a cc p disp19 => enc2 (a ++ 0x5#4) 0x5#3 (cc ++ p ++ disp19)
  | .fbpl a cc p disp19 => enc2 (a ++ 0x4#4) 0x5#3 (cc ++ p ++ disp19)
  | .fbpul a cc p disp19 => enc2 (a ++ 0x3#4) 0x5#3 (cc ++ p ++ disp19)
  | .fbplg a cc p disp19 => enc2 (a ++ 0x2#4) 0x5#3 (cc ++ p ++ disp19)
  | .fbpne a cc p disp19 => enc2 (a ++ 0x1#4) 0x5#3 (cc ++ p ++ disp19)
  | .fbpe a cc p disp19 => enc2 (a ++ 0x9#4) 0x5#3 (cc ++ p ++ disp19)
  | .fbpue a cc p disp19 => enc2 (a ++ 0xa#4) 0x5#3 (cc ++ p ++ disp19)
  | .fbpge a cc p disp19 => enc2 (a ++ 0xb#4) 0x5#3 (cc ++ p ++ disp19)
  | .fbpuge a cc p disp19 => enc2 (a ++ 0xc#4) 0x5#3 (cc ++ p ++ disp19)
  | .fbple a cc p disp19 => enc2 (a ++ 0xd#4) 0x5#3 (cc ++ p ++ disp19)
  | .fbpule a cc p disp19 => enc2 (a ++ 0xe#4) 0x5#3 (cc ++ p ++ disp19)
  | .fbpo a cc p disp19 => enc2 (a ++ 0xf#4) 0x5#3 (cc ++ p ++ disp19)
  | .illtrap const22 => enc2 0x00#5 0x0#3 const22
  | .jmpl rd rs1 op2 => enc3 0x2#2 rd 0x38#6 rs1 (encSrc2 op2)
  | .return_ rs1 op2 => enc3 0x2#2 0x00#5 0x39#6 rs1 (encSrc2 op2)
  | .ta cc rs1 op2 => enc3 0x2#2 (0#1 ++ 0x8#4) 0x3a#6 rs1 (encTcc (encIcc cc) op2)
  | .tn cc rs1 op2 => enc3 0x2#2 (0#1 ++ 0x0#4) 0x3a#6 rs1 (encTcc (encIcc cc) op2)
  | .tne cc rs1 op2 => enc3 0x2#2 (0#1 ++ 0x9#4) 0x3a#6 rs1 (encTcc (encIcc cc) op2)
  | .te cc rs1 op2 => enc3 0x2#2 (0#1 ++ 0x1#4) 0x3a#6 rs1 (encTcc (encIcc cc) op2)
  | .tg cc rs1 op2 => enc3 0x2#2 (0#1 ++ 0xa#4) 0x3a#6 rs1 (encTcc (encIcc cc) op2)
  | .tle cc rs1 op2 => enc3 0x2#2 (0#1 ++ 0x2#4) 0x3a#6 rs1 (encTcc (encIcc cc) op2)
  | .tge cc rs1 op2 => enc3 0x2#2 (0#1 ++ 0xb#4) 0x3a#6 rs1 (encTcc (encIcc cc) op2)
  | .tl cc rs1 op2 => enc3 0x2#2 (0#1 ++ 0x3#4) 0x3a#6 rs1 (encTcc (encIcc cc) op2)
  | .tgu cc rs1 op2 => enc3 0x2#2 (0#1 ++ 0xc#4) 0x3a#6 rs1 (encTcc (encIcc cc) op2)
  | .tleu cc rs1 op2 => enc3 0x2#2 (0#1 ++ 0x4#4) 0x3a#6 rs1 (encTcc (encIcc cc) op2)
  | .tcc cc rs1 op2 => enc3 0x2#2 (0#1 ++ 0xd#4) 0x3a#6 rs1 (encTcc (encIcc cc) op2)
  | .tcs cc rs1 op2 => enc3 0x2#2 (0#1 ++ 0x5#4) 0x3a#6 rs1 (encTcc (encIcc cc) op2)
  | .tpos cc rs1 op2 => enc3 0x2#2 (0#1 ++ 0xe#4) 0x3a#6 rs1 (encTcc (encIcc cc) op2)
  | .tneg cc rs1 op2 => enc3 0x2#2 (0#1 ++ 0x6#4) 0x3a#6 rs1 (encTcc (encIcc cc) op2)
  | .tvc cc rs1 op2 => enc3 0x2#2 (0#1 ++ 0xf#4) 0x3a#6 rs1 (encTcc (encIcc cc) op2)
  | .tvs cc rs1 op2 => enc3 0x2#2 (0#1 ++ 0x7#4) 0x3a#6 rs1 (encTcc (encIcc cc) op2)
  | .done => enc3 0x2#2 0x00#5 0x3e#6 0x00#5 (0#14)
  | .retry => enc3 0x2#2 0x01#5 0x3e#6 0x00#5 (0#14)
  | .ldsb rd rs1 op2 => enc3 0x3#2 rd 0x09#6 rs1 (encSrc2 op2)
  | .ldsh rd rs1 op2 => enc3 0x3#2 rd 0x0a#6 rs1 (encSrc2 op2)
  | .ldsw rd rs1 op2 => enc3 0x3#2 rd 0x08#6 rs1 (encSrc2 op2)
  | .ldub rd rs1 op2 => enc3 0x3#2 rd 0x01#6 rs1 (encSrc2 op2)
  | .lduh rd rs1 op2 => enc3 0x3#2 rd 0x02#6 rs1 (encSrc2 op2)
  | .lduw rd rs1 op2 => enc3 0x3#2 rd 0x00#6 rs1 (encSrc2 op2)
  | .ldx rd rs1 op2 => enc3 0x3#2 rd 0x0b#6 rs1 (encSrc2 op2)
  | .ldsba rd rs1 ea => enc3 0x3#2 rd 0x19#6 rs1 (encAsi ea)
  | .ldsha rd rs1 ea => enc3 0x3#2 rd 0x1a#6 rs1 (encAsi ea)
  | .ldswa rd rs1 ea => enc3 0x3#2 rd 0x18#6 rs1 (encAsi ea)
  | .lduba rd rs1 ea => enc3 0x3#2 rd 0x11#6 rs1 (encAsi ea)
  | .lduha rd rs1 ea => enc3 0x3#2 rd 0x12#6 rs1 (encAsi ea)
  | .lduwa rd rs1 ea => enc3 0x3#2 rd 0x10#6 rs1 (encAsi ea)
  | .ldxa rd rs1 ea => enc3 0x3#2 rd 0x1b#6 rs1 (encAsi ea)
  | .ldtw rd rs1 op2 => enc3 0x3#2 rd 0x03#6 rs1 (encSrc2 op2)
  | .ldtwa rd rs1 ea => enc3 0x3#2 rd 0x13#6 rs1 (encAsi ea)
  | .ldtxa rd rs1 rs2 asi => enc3 0x3#2 rd 0x13#6 rs1 (encAsi (.reg rs2 asi))
  | .stb rd rs1 op2 => enc3 0x3#2 rd 0x05#6 rs1 (encSrc2 op2)
  | .sth rd rs1 op2 => enc3 0x3#2 rd 0x06#6 rs1 (encSrc2 op2)
  | .stw rd rs1 op2 => enc3 0x3#2 rd 0x04#6 rs1 (encSrc2 op2)
  | .stx rd rs1 op2 => enc3 0x3#2 rd 0x0e#6 rs1 (encSrc2 op2)
  | .stba rd rs1 ea => enc3 0x3#2 rd 0x15#6 rs1 (encAsi ea)
  | .stha rd rs1 ea => enc3 0x3#2 rd 0x16#6 rs1 (encAsi ea)
  | .stwa rd rs1 ea => enc3 0x3#2 rd 0x14#6 rs1 (encAsi ea)
  | .stxa rd rs1 ea => enc3 0x3#2 rd 0x1e#6 rs1 (encAsi ea)
  | .sttw rd rs1 op2 => enc3 0x3#2 rd 0x07#6 rs1 (encSrc2 op2)
  | .sttwa rd rs1 ea => enc3 0x3#2 rd 0x17#6 rs1 (encAsi ea)
  | .ldstub rd rs1 op2 => enc3 0x3#2 rd 0x0d#6 rs1 (encSrc2 op2)
  | .ldstuba rd rs1 ea => enc3 0x3#2 rd 0x1d#6 rs1 (encAsi ea)
  | .swap rd rs1 op2 => enc3 0x3#2 rd 0x0f#6 rs1 (encSrc2 op2)
  | .swapa rd rs1 ea => enc3 0x3#2 rd 0x1f#6 rs1 (encAsi ea)
  | .casa rd rs1 rs2 sel => enc3 0x3#2 rd 0x3c#6 rs1 (encCas sel rs2)
  | .casxa rd rs1 rs2 sel => enc3 0x3#2 rd 0x3e#6 rs1 (encCas sel rs2)
  | .prefetch fcn rs1 op2 => enc3 0x3#2 fcn 0x2d#6 rs1 (encSrc2 op2)
  | .prefetcha fcn rs1 ea => enc3 0x3#2 fcn 0x3d#6 rs1 (encAsi ea)
  | .membar cmask mmask => enc3 0x2#2 0x00#5 0x28#6 0x0f#5 (1#1 ++ 0#6 ++ cmask ++ mmask)
  | .stbar => enc3 0x2#2 0x00#5 0x28#6 0x0f#5 (0#14)
  | .flush rs1 op2 => enc3 0x2#2 0x00#5 0x3b#6 rs1 (encSrc2 op2)
  | .ldf rd rs1 op2 => enc3 0x3#2 rd 0x20#6 rs1 (encSrc2 op2)
  | .lddf rd rs1 op2 => enc3 0x3#2 rd 0x23#6 rs1 (encSrc2 op2)
  | .ldxfsr rs1 op2 => enc3 0x3#2 0x01#5 0x21#6 rs1 (encSrc2 op2)
  | .ldqf rd rs1 op2 => enc3 0x3#2 rd 0x22#6 rs1 (encSrc2 op2)
  | .ldfsr rs1 op2 => enc3 0x3#2 0x00#5 0x21#6 rs1 (encSrc2 op2)
  | .ldfa rd rs1 ea => enc3 0x3#2 rd 0x30#6 rs1 (encAsi ea)
  | .lddfa rd rs1 ea => enc3 0x3#2 rd 0x33#6 rs1 (encAsi ea)
  | .ldqfa rd rs1 ea => enc3 0x3#2 rd 0x32#6 rs1 (encAsi ea)
  | .ldblockf rd rs1 rs2 asi => enc3 0x3#2 rd 0x33#6 rs1 (encAsi (.reg rs2 asi))
  | .ldshortf rd rs1 rs2 asi => enc3 0x3#2 rd 0x33#6 rs1 (encAsi (.reg rs2 asi))
  | .stf rd rs1 op2 => enc3 0x3#2 rd 0x24#6 rs1 (encSrc2 op2)
  | .stdf rd rs1 op2 => enc3 0x3#2 rd 0x27#6 rs1 (encSrc2 op2)
  | .stxfsr rs1 op2 => enc3 0x3#2 0x01#5 0x25#6 rs1 (encSrc2 op2)
  | .stqf rd rs1 op2 => enc3 0x3#2 rd 0x26#6 rs1 (encSrc2 op2)
  | .stfsr rs1 op2 => enc3 0x3#2 0x00#5 0x25#6 rs1 (encSrc2 op2)
  | .stfa rd rs1 ea => enc3 0x3#2 rd 0x34#6 rs1 (encAsi ea)
  | .stdfa rd rs1 ea => enc3 0x3#2 rd 0x37#6 rs1 (encAsi ea)
  | .stblockf rd rs1 rs2 asi => enc3 0x3#2 rd 0x37#6 rs1 (encAsi (.reg rs2 asi))
  | .stshortf rd rs1 rs2 asi => enc3 0x3#2 rd 0x37#6 rs1 (encAsi (.reg rs2 asi))
  | .stpartialf rd rs1 rs2 asi => enc3 0x3#2 rd 0x37#6 rs1 (encAsi (.reg rs2 asi))
  | .stqfa rd rs1 ea => enc3 0x3#2 rd 0x36#6 rs1 (encAsi ea)
  | .save rd rs1 op2 => enc3 0x2#2 rd 0x3c#6 rs1 (encSrc2 op2)
  | .restore rd rs1 op2 => enc3 0x2#2 rd 0x3d#6 rs1 (encSrc2 op2)
  | .saved => enc3 0x2#2 0x00#5 0x31#6 0x00#5 (0#14)
  | .restored => enc3 0x2#2 0x01#5 0x31#6 0x00#5 (0#14)
  | .allclean => enc3 0x2#2 0x02#5 0x31#6 0x00#5 (0#14)
  | .otherw => enc3 0x2#2 0x03#5 0x31#6 0x00#5 (0#14)
  | .normalw => enc3 0x2#2 0x04#5 0x31#6 0x00#5 (0#14)
  | .invalw => enc3 0x2#2 0x05#5 0x31#6 0x00#5 (0#14)
  | .flushw => enc3 0x2#2 0x00#5 0x2b#6 0x00#5 (0#14)
  | .rdy rd => enc3 0x2#2 rd 0x28#6 0x00#5 (0#14)
  | .rdccr rd => enc3 0x2#2 rd 0x28#6 0x02#5 (0#14)
  | .rdasi rd => enc3 0x2#2 rd 0x28#6 0x03#5 (0#14)
  | .rdtick rd => enc3 0x2#2 rd 0x28#6 0x04#5 (0#14)
  | .rdpc rd => enc3 0x2#2 rd 0x28#6 0x05#5 (0#14)
  | .rdfprs rd => enc3 0x2#2 rd 0x28#6 0x06#5 (0#14)
  | .rdpcr rd => enc3 0x2#2 rd 0x28#6 0x10#5 (0#14)
  | .rdpic rd => enc3 0x2#2 rd 0x28#6 0x11#5 (0#14)
  | .rdgsr rd => enc3 0x2#2 rd 0x28#6 0x13#5 (0#14)
  | .rdsoftint rd => enc3 0x2#2 rd 0x28#6 0x16#5 (0#14)
  | .rdtick_cmpr rd => enc3 0x2#2 rd 0x28#6 0x17#5 (0#14)
  | .rdstick rd => enc3 0x2#2 rd 0x28#6 0x18#5 (0#14)
  | .rdstick_cmpr rd => enc3 0x2#2 rd 0x28#6 0x19#5 (0#14)
  | .wry rs1 op2 => enc3 0x2#2 0x00#5 0x30#6 rs1 (encSrc2 op2)
  | .wrccr rs1 op2 => enc3 0x2#2 0x02#5 0x30#6 rs1 (encSrc2 op2)
  | .wrasi rs1 op2 => enc3 0x2#2 0x03#5 0x30#6 rs1 (encSrc2 op2)
  | .wrfprs rs1 op2 => enc3 0x2#2 0x06#5 0x30#6 rs1 (encSrc2 op2)
  | .wrpcr rs1 op2 => enc3 0x2#2 0x10#5 0x30#6 rs1 (encSrc2 op2)
  | .wrpic rs1 op2 => enc3 0x2#2 0x11#5 0x30#6 rs1 (encSrc2 op2)
  | .wrgsr rs1 op2 => enc3 0x2#2 0x13#5 0x30#6 rs1 (encSrc2 op2)
  | .wrsoftint_set rs1 op2 => enc3 0x2#2 0x14#5 0x30#6 rs1 (encSrc2 op2)
  | .wrsoftint_clr rs1 op2 => enc3 0x2#2 0x15#5 0x30#6 rs1 (encSrc2 op2)
  | .wrsoftint rs1 op2 => enc3 0x2#2 0x16#5 0x30#6 rs1 (encSrc2 op2)
  | .wrtick_cmpr rs1 op2 => enc3 0x2#2 0x17#5 0x30#6 rs1 (encSrc2 op2)
  | .wrstick rs1 op2 => enc3 0x2#2 0x18#5 0x30#6 rs1 (encSrc2 op2)
  | .wrstick_cmpr rs1 op2 => enc3 0x2#2 0x19#5 0x30#6 rs1 (encSrc2 op2)
  | .sir simm13 => enc3 0x2#2 0x0f#5 0x30#6 0x00#5 (1#1 ++ simm13)
  | .rdpr rd rs1 => enc3 0x2#2 rd 0x2a#6 rs1 (0#14)
  | .wrpr rd rs1 op2 => enc3 0x2#2 rd 0x32#6 rs1 (encSrc2 op2)
  | .rdhpr rd rs1 => enc3 0x2#2 rd 0x29#6 rs1 (0#14)
  | .wrhpr rd rs1 op2 => enc3 0x2#2 rd 0x33#6 rs1 (encSrc2 op2)
  | .shutdown => enc3 0x2#2 0x00#5 0x36#6 0x00#5 (0x080#9 ++ 0#5)
  | .impdep1 rd rs1 opf rs2 => enc3 0x2#2 rd 0x36#6 rs1 (opf ++ rs2)
  | .impdep2a rd mid rs2 => encImpdep2 rd mid 0#2 rs2
  | .impdep2b rd mid op4 rs2 => encImpdep2 rd mid op4 rs2
  | .fadds rd rs1 rs2 => enc3 0x2#2 rd 0x34#6 rs1 (0x041#9 ++ rs2)
  | .faddd rd rs1 rs2 => enc3 0x2#2 rd 0x34#6 rs1 (0x042#9 ++ rs2)
  | .faddq rd rs1 rs2 => enc3 0x2#2 rd 0x34#6 rs1 (0x043#9 ++ rs2)
  | .fsubs rd rs1 rs2 => enc3 0x2#2 rd 0x34#6 rs1 (0x045#9 ++ rs2)
  | .fsubd rd rs1 rs2 => enc3 0x2#2 rd 0x34#6 rs1 (0x046#9 ++ rs2)
  | .fsubq rd rs1 rs2 => enc3 0x2#2 rd 0x34#6 rs1 (0x047#9 ++ rs2)
  | .fmuls rd rs1 rs2 => enc3 0x2#2 rd 0x34#6 rs1 (0x049#9 ++ rs2)
  | .fmuld rd rs1 rs2 => enc3 0x2#2 rd 0x34#6 rs1 (0x04a#9 ++ rs2)
  | .fmulq rd rs1 rs2 => enc3 0x2#2 rd 0x34#6 rs1 (0x04b#9 ++ rs2)
  | .fdivs rd rs1 rs2 => enc3 0x2#2 rd 0x34#6 rs1 (0x04d#9 ++ rs2)
  | .fdivd rd rs1 rs2 => enc3 0x2#2 rd 0x34#6 rs1 (0x04e#9 ++ rs2)
  | .fdivq rd rs1 rs2 => enc3 0x2#2 rd 0x34#6 rs1 (0x04f#9 ++ rs2)
  | .fsmuld rd rs1 rs2 => enc3 0x2#2 rd 0x34#6 rs1 (0x069#9 ++ rs2)
  | .fdmulq rd rs1 rs2 => enc3 0x2#2 rd 0x34#6 rs1 (0x06e#9 ++ rs2)
  | .fsqrts rd rs2 => enc3 0x2#2 rd 0x34#6 0x00#5 (0x029#9 ++ rs2)
  | .fsqrtd rd rs2 => enc3 0x2#2 rd 0x34#6 0x00#5 (0x02a#9 ++ rs2)
  | .fsqrtq rd rs2 => enc3 0x2#2 rd 0x34#6 0x00#5 (0x02b#9 ++ rs2)
  | .fcmps cc rs1 rs2 => enc3 0x2#2 (0#3 ++ cc) 0x35#6 rs1 (0x051#9 ++ rs2)
  | .fcmpd cc rs1 rs2 => enc3 0x2#2 (0#3 ++ cc) 0x35#6 rs1 (0x052#9 ++ rs2)
  | .fcmpq cc rs1 rs2 => enc3 0x2#2 (0#3 ++ cc) 0x35#6 rs1 (0x053#9 ++ rs2)
  | .fcmpes cc rs1 rs2 => enc3 0x2#2 (0#3 ++ cc) 0x35#6 rs1 (0x055#9 ++ rs2)
  | .fcmped cc rs1 rs2 => enc3 0x2#2 (0#3 ++ cc) 0x35#6 rs1 (0x056#9 ++ rs2)
  | .fcmpeq cc rs1 rs2 => enc3 0x2#2 (0#3 ++ cc) 0x35#6 rs1 (0x057#9 ++ rs2)
  | .fitos rd rs2 => enc3 0x2#2 rd 0x34#6 0x00#5 (0x0c4#9 ++ rs2)
  | .fitod rd rs2 => enc3 0x2#2 rd 0x34#6 0x00#5 (0x0c8#9 ++ rs2)
  | .fitoq rd rs2 => enc3 0x2#2 rd 0x34#6 0x00#5 (0x0cc#9 ++ rs2)
  | .fxtos rd rs2 => enc3 0x2#2 rd 0x34#6 0x00#5 (0x084#9 ++ rs2)
  | .fxtod rd rs2 => enc3 0x2#2 rd 0x34#6 0x00#5 (0x088#9 ++ rs2)
  | .fxtoq rd rs2 => enc3 0x2#2 rd 0x34#6 0x00#5 (0x08c#9 ++ rs2)
  | .fstox rd rs2 => enc3 0x2#2 rd 0x34#6 0x00#5 (0x081#9 ++ rs2)
  | .fdtox rd rs2 => enc3 0x2#2 rd 0x34#6 0x00#5 (0x082#9 ++ rs2)
  | .fqtox rd rs2 => enc3 0x2#2 rd 0x34#6 0x00#5 (0x083#9 ++ rs2)
  | .fstoi rd rs2 => enc3 0x2#2 rd 0x34#6 0x00#5 (0x0d1#9 ++ rs2)
  | .fdtoi rd rs2 => enc3 0x2#2 rd 0x34#6 0x00#5 (0x0d2#9 ++ rs2)
  | .fqtoi rd rs2 => enc3 0x2#2 rd 0x34#6 0x00#5 (0x0d3#9 ++ rs2)
  | .fstod rd rs2 => enc3 0x2#2 rd 0x34#6 0x00#5 (0x0c9#9 ++ rs2)
  | .fstoq rd rs2 => enc3 0x2#2 rd 0x34#6 0x00#5 (0x0cd#9 ++ rs2)
  | .fdtos rd rs2 => enc3 0x2#2 rd 0x34#6 0x00#5 (0x0c6#9 ++ rs2)
  | .fdtoq rd rs2 => enc3 0x2#2 rd 0x34#6 0x00#5 (0x0ce#9 ++ rs2)
  | .fqtos rd rs2 => enc3 0x2#2 rd 0x34#6 0x00#5 (0x0c7#9 ++ rs2)
  | .fqtod rd rs2 => enc3 0x2#2 rd 0x34#6 0x00#5 (0x0cb#9 ++ rs2)
  | .fmovs rd rs2 => enc3 0x2#2 rd 0x34#6 0x00#5 (0x001#9 ++ rs2)
  | .fmovd rd rs2 => enc3 0x2#2 rd 0x34#6 0x00#5 (0x002#9 ++ rs2)
  | .fmovq rd rs2 => enc3 0x2#2 rd 0x34#6 0x00#5 (0x003#9 ++ rs2)
  | .fnegs rd rs2 => enc3 0x2#2 rd 0x34#6 0x00#5 (0x005#9 ++ rs2)
  | .fnegd rd rs2 => enc3 0x2#2 rd 0x34#6 0x00#5 (0x006#9 ++ rs2)
  | .fnegq rd rs2 => enc3 0x2#2 rd 0x34#6 0x00#5 (0x007#9 ++ rs2)
  | .fabss rd rs2 => enc3 0x2#2 rd 0x34#6 0x00#5 (0x009#9 ++ rs2)
  | .fabsd rd rs2 => enc3 0x2#2 rd 0x34#6 0x00#5 (0x00a#9 ++ rs2)
  | .fabsq rd rs2 => enc3 0x2#2 rd 0x34#6 0x00#5 (0x00b#9 ++ rs2)
  | .fmovsicc rd cond rs2 => enc3 0x2#2 rd 0x35#6 (0#1 ++ cond) (0x4#3 ++ 0x01#6 ++ rs2)
  | .fmovdicc rd cond rs2 => enc3 0x2#2 rd 0x35#6 (0#1 ++ cond) (0x4#3 ++ 0x02#6 ++ rs2)
  | .fmovqicc rd cond rs2 => enc3 0x2#2 rd 0x35#6 (0#1 ++ cond) (0x4#3 ++ 0x03#6 ++ rs2)
  | .fmovsxcc rd cond rs2 => enc3 0x2#2 rd 0x35#6 (0#1 ++ cond) (0x6#3 ++ 0x01#6 ++ rs2)
  | .fmovdxcc rd cond rs2 => enc3 0x2#2 rd 0x35#6 (0#1 ++ cond) (0x6#3 ++ 0x02#6 ++ rs2)
  | .fmovqxcc rd cond rs2 => enc3 0x2#2 rd 0x35#6 (0#1 ++ cond) (0x6#3 ++ 0x03#6 ++ rs2)
  | .fmovsfcc rd cond cc rs2 => enc3 0x2#2 rd 0x35#6 (0#1 ++ cond) (0#1 ++ cc ++ 0x01#6 ++ rs2)
  | .fmovdfcc rd cond cc rs2 => enc3 0x2#2 rd 0x35#6 (0#1 ++ cond) (0#1 ++ cc ++ 0x02#6 ++ rs2)
  | .fmovqfcc rd cond cc rs2 => enc3 0x2#2 rd 0x35#6 (0#1 ++ cond) (0#1 ++ cc ++ 0x03#6 ++ rs2)
  | .fmovrsz rd rs1 rs2 => enc3 0x2#2 rd 0x35#6 rs1 (0x025#9 ++ rs2)
  | .fmovrslez rd rs1 rs2 => enc3 0x2#2 rd 0x35#6 rs1 (0x045#9 ++ rs2)
  | .fmovrslz rd rs1 rs2 => enc3 0x2#2 rd 0x35#6 rs1 (0x065#9 ++ rs2)
  | .fmovrsnz rd rs1 rs2 => enc3 0x2#2 rd 0x35#6 rs1 (0x0a5#9 ++ rs2)
  | .fmovrsgz rd rs1 rs2 => enc3 0x2#2 rd 0x35#6 rs1 (0x0c5#9 ++ rs2)
  | .fmovrsgez rd rs1 rs2 => enc3 0x2#2 rd 0x35#6 rs1 (0x0e5#9 ++ rs2)
  | .fmovrdz rd rs1 rs2 => enc3 0x2#2 rd 0x35#6 rs1 (0x026#9 ++ rs2)
  | .fmovrdlez rd rs1 rs2 => enc3 0x2#2 rd 0x35#6 rs1 (0x046#9 ++ rs2)
  | .fmovrdlz rd rs1 rs2 => enc3 0x2#2 rd 0x35#6 rs1 (0x066#9 ++ rs2)
  | .fmovrdnz rd rs1 rs2 => enc3 0x2#2 rd 0x35#6 rs1 (0x0a6#9 ++ rs2)
  | .fmovrdgz rd rs1 rs2 => enc3 0x2#2 rd 0x35#6 rs1 (0x0c6#9 ++ rs2)
  | .fmovrdgez rd rs1 rs2 => enc3 0x2#2 rd 0x35#6 rs1 (0x0e6#9 ++ rs2)
  | .fmovrqz rd rs1 rs2 => enc3 0x2#2 rd 0x35#6 rs1 (0x027#9 ++ rs2)
  | .fmovrqlez rd rs1 rs2 => enc3 0x2#2 rd 0x35#6 rs1 (0x047#9 ++ rs2)
  | .fmovrqlz rd rs1 rs2 => enc3 0x2#2 rd 0x35#6 rs1 (0x067#9 ++ rs2)
  | .fmovrqnz rd rs1 rs2 => enc3 0x2#2 rd 0x35#6 rs1 (0x0a7#9 ++ rs2)
  | .fmovrqgz rd rs1 rs2 => enc3 0x2#2 rd 0x35#6 rs1 (0x0c7#9 ++ rs2)
  | .fmovrqgez rd rs1 rs2 => enc3 0x2#2 rd 0x35#6 rs1 (0x0e7#9 ++ rs2)
  | .alignaddress rd rs1 rs2 => enc3 0x2#2 rd 0x36#6 rs1 (0x018#9 ++ rs2)
  | .alignaddress_little rd rs1 rs2 => enc3 0x2#2 rd 0x36#6 rs1 (0x01a#9 ++ rs2)
  | .faligndata rd rs1 rs2 => enc3 0x2#2 rd 0x36#6 rs1 (0x048#9 ++ rs2)
  | .bmask rd rs1 rs2 => enc3 0x2#2 rd 0x36#6 rs1 (0x019#9 ++ rs2)
  | .bshuffle rd rs1 rs2 => enc3 0x2#2 rd 0x36#6 rs1 (0x04c#9 ++ rs2)
  | .edge8cc rd rs1 rs2 => enc3 0x2#2 rd 0x36#6 rs1 (0x000#9 ++ rs2)
  | .edge8lcc rd rs1 rs2 => enc3 0x2#2 rd 0x36#6 rs1 (0x002#9 ++ rs2)
  | .edge16cc rd rs1 rs2 => enc3 0x2#2 rd 0x36#6 rs1 (0x004#9 ++ rs2)
  | .edge16lcc rd rs1 rs2 => enc3 0x2#2 rd 0x36#6 rs1 (0x006#9 ++ rs2)
  | .edge32cc rd rs1 rs2 => enc3 0x2#2 rd 0x36#6 rs1 (0x008#9 ++ rs2)
  | .edge32lcc rd rs1 rs2 => enc3 0x2#2 rd 0x36#6 rs1 (0x00a#9 ++ rs2)
  | .edge8n rd rs1 rs2 => enc3 0x2#2 rd 0x36#6 rs1 (0x001#9 ++ rs2)
  | .edge8ln rd rs1 rs2 => enc3 0x2#2 rd 0x36#6 rs1 (0x003#9 ++ rs2)
  | .edge16n rd rs1 rs2 => enc3 0x2#2 rd 0x36#6 rs1 (0x005#9 ++ rs2)
  | .edge16ln rd rs1 rs2 => enc3 0x2#2 rd 0x36#6 rs1 (0x007#9 ++ rs2)
  | .edge32n rd rs1 rs2 => enc3 0x2#2 rd 0x36#6 rs1 (0x009#9 ++ rs2)
  | .edge32ln rd rs1 rs2 => enc3 0x2#2 rd 0x36#6 rs1 (0x00b#9 ++ rs2)
  | .array8 rd rs1 rs2 => enc3 0x2#2 rd 0x36#6 rs1 (0x010#9 ++ rs2)
  | .array16 rd rs1 rs2 => enc3 0x2#2 rd 0x36#6 rs1 (0x012#9 ++ rs2)
  | .array32 rd rs1 rs2 => enc3 0x2#2 rd 0x36#6 rs1 (0x014#9 ++ rs2)
  | .fcmple16 rd rs1 rs2 => enc3 0x2#2 rd 0x36#6 rs1 (0x020#9 ++ rs2)
  | .fcmpne16 rd rs1 rs2 => enc3 0x2#2 rd 0x36#6 rs1 (0x022#9 ++ rs2)
  | .fcmple32 rd rs1 rs2 => enc3 0x2#2 rd 0x36#6 rs1 (0x024#9 ++ rs2)
  | .fcmpne32 rd rs1 rs2 => enc3 0x2#2 rd 0x36#6 rs1 (0x026#9 ++ rs2)
  | .fcmpgt16 rd rs1 rs2 => enc3 0x2#2 rd 0x36#6 rs1 (0x028#9 ++ rs2)
  | .fcmpeq16 rd rs1 rs2 => enc3 0x2#2 rd 0x36#6 rs1 (0x02a#9 ++ rs2)
  | .fcmpgt32 rd rs1 rs2 => enc3 0x2#2 rd 0x36#6 rs1 (0x02c#9 ++ rs2)
  | .fcmpeq32 rd rs1 rs2 => enc3 0x2#2 rd 0x36#6 rs1 (0x02e#9 ++ rs2)
  | .fpadd16 rd rs1 rs2 => enc3 0x2#2 rd 0x36#6 rs1 (0x050#9 ++ rs2)
  | .fpadd16s rd rs1 rs2 => enc3 0x2#2 rd 0x36#6 rs1 (0x051#9 ++ rs2)
  | .fpadd32 rd rs1 rs2 => enc3 0x2#2 rd 0x36#6 rs1 (0x052#9 ++ rs2)
  | .fpadd32s rd rs1 rs2 => enc3 0x2#2 rd 0x36#6 rs1 (0x053#9 ++ rs2)
  | .fpsub16 rd rs1 rs2 => enc3 0x2#2 rd 0x36#6 rs1 (0x054#9 ++ rs2)
  | .fpsub16s rd rs1 rs2 => enc3 0x2#2 rd 0x36#6 rs1 (0x055#9 ++ rs2)
  | .fpsub32 rd rs1 rs2 => enc3 0x2#2 rd 0x36#6 rs1 (0x056#9 ++ rs2)
  | .fpsub32s rd rs1 rs2 => enc3 0x2#2 rd 0x36#6 rs1 (0x057#9 ++ rs2)
  | .fzero rd => enc3 0x2#2 rd 0x36#6 0x00#5 (0x060#9 ++ 0x00#5)
  | .fzeros rd => enc3 0x2#2 rd 0x36#6 0x00#5 (0x061#9 ++ 0x00#5)
  | .fone rd => enc3 0x2#2 rd 0x36#6 0x00#5 (0x07e#9 ++ 0x00#5)
  | .fones rd => enc3 0x2#2 rd 0x36#6 0x00#5 (0x07f#9 ++ 0x00#5)
  | .fsrc1 rd rs1 => enc3 0x2#2 rd 0x36#6 rs1 (0x074#9 ++ 0x00#5)
  | .fsrc1s rd rs1 => enc3 0x2#2 rd 0x36#6 rs1 (0x075#9 ++ 0x00#5)
  | .fsrc2 rd rs2 => enc3 0x2#2 rd 0x36#6 0x00#5 (0x078#9 ++ rs2)
  | .fsrc2s rd rs2 => enc3 0x2#2 rd 0x36#6 0x00#5 (0x079#9 ++ rs2)
  | .fnot1 rd rs1 => enc3 0x2#2 rd 0x36#6 rs1 (0x06a#9 ++ 0x00#5)
  | .fnot1s rd rs1 => enc3 0x2#2 rd 0x36#6 rs1 (0x06b#9 ++ 0x00#5)
  | .fnot2 rd rs2 => enc3 0x2#2 rd 0x36#6 0x00#5 (0x066#9 ++ rs2)
  | .fnot2s rd rs2 => enc3 0x2#2 rd 0x36#6 0x00#5 (0x067#9 ++ rs2)
  | .for_ rd rs1 rs2 => enc3 0x2#2 rd 0x36#6 rs1 (0x07c#9 ++ rs2)
  | .fors rd rs1 rs2 => enc3 0x2#2 rd 0x36#6 rs1 (0x07d#9 ++ rs2)
  | .fnor rd rs1 rs2 => enc3 0x2#2 rd 0x36#6 rs1 (0x062#9 ++ rs2)
  | .fnors rd rs1 rs2 => enc3 0x2#2 rd 0x36#6 rs1 (0x063#9 ++ rs2)
  | .fand rd rs1 rs2 => enc3 0x2#2 rd 0x36#6 rs1 (0x070#9 ++ rs2)
  | .fands rd rs1 rs2 => enc3 0x2#2 rd 0x36#6 rs1 (0x071#9 ++ rs2)
  | .fnand rd rs1 rs2 => enc3 0x2#2 rd 0x36#6 rs1 (0x06e#9 ++ rs2)
  | .fnands rd rs1 rs2 => enc3 0x2#2 rd 0x36#6 rs1 (0x06f#9 ++ rs2)
  | .fxor rd rs1 rs2 => enc3 0x2#2 rd 0x36#6 rs1 (0x06c#9 ++ rs2)
  | .fxors rd rs1 rs2 => enc3 0x2#2 rd 0x36#6 rs1 (0x06d#9 ++ rs2)
  | .fxnor rd rs1 rs2 => enc3 0x2#2 rd 0x36#6 rs1 (0x072#9 ++ rs2)
  | .fxnors rd rs1 rs2 => enc3 0x2#2 rd 0x36#6 rs1 (0x073#9 ++ rs2)
  | .fornot1 rd rs1 rs2 => enc3 0x2#2 rd 0x36#6 rs1 (0x07a#9 ++ rs2)
  | .fornot1s rd rs1 rs2 => enc3 0x2#2 rd 0x36#6 rs1 (0x07b#9 ++ rs2)
  | .fornot2 rd rs1 rs2 => enc3 0x2#2 rd 0x36#6 rs1 (0x076#9 ++ rs2)
  | .fornot2s rd rs1 rs2 => enc3 0x2#2 rd 0x36#6 rs1 (0x077#9 ++ rs2)
  | .fandnot1 rd rs1 rs2 => enc3 0x2#2 rd 0x36#6 rs1 (0x068#9 ++ rs2)
  | .fandnot1s rd rs1 rs2 => enc3 0x2#2 rd 0x36#6 rs1 (0x069#9 ++ rs2)
  | .fandnot2 rd rs1 rs2 => enc3 0x2#2 rd 0x36#6 rs1 (0x064#9 ++ rs2)
  | .fandnot2s rd rs1 rs2 => enc3 0x2#2 rd 0x36#6 rs1 (0x065#9 ++ rs2)
  | .siam mode => enc3 0x2#2 0x00#5 0x36#6 0x00#5 (0x081#9 ++ 0#2 ++ mode)
  | .fexpand rd rs2 => enc3 0x2#2 rd 0x36#6 0x00#5 (0x04d#9 ++ rs2)
  | .fmul8x16 rd rs1 rs2 => enc3 0x2#2 rd 0x36#6 rs1 (0x031#9 ++ rs2)
  | .fmul8x16au rd rs1 rs2 => enc3 0x2#2 rd 0x36#6 rs1 (0x033#9 ++ rs2)
  | .fmul8x16al rd rs1 rs2 => enc3 0x2#2 rd 0x36#6 rs1 (0x035#9 ++ rs2)
  | .fmul8sux16 rd rs1 rs2 => enc3 0x2#2 rd 0x36#6 rs1 (0x036#9 ++ rs2)
  | .fmul8ulx16 rd rs1 rs2 => enc3 0x2#2 rd 0x36#6 rs1 (0x037#9 ++ rs2)
  | .fmuld8sux16 rd rs1 rs2 => enc3 0x2#2 rd 0x36#6 rs1 (0x038#9 ++ rs2)
  | .fmuld8ulx16 rd rs1 rs2 => enc3 0x2#2 rd 0x36#6 rs1 (0x039#9 ++ rs2)
  | .fpack16 rd rs2 => enc3 0x2#2 rd 0x36#6 0x00#5 (0x03b#9 ++ rs2)
  | .fpack32 rd rs1 rs2 => enc3 0x2#2 rd 0x36#6 rs1 (0x03a#9 ++ rs2)
  | .fpackfix rd rs2 => enc3 0x2#2 rd 0x36#6 0x00#5 (0x03d#9 ++ rs2)
  | .fpmerge rd rs1 rs2 => enc3 0x2#2 rd 0x36#6 rs1 (0x04b#9 ++ rs2)
  | .pdist rd rs1 rs2 => enc3 0x2#2 rd 0x36#6 rs1 (0x03e#9 ++ rs2)

end Sys2Proof
end

