-- ==== Sys2Proof/Machine/Tlb.lean ====
section
/-! DEFINITION. The abstract TLB (rules R1372 to R1374), and what rule R1382 says of every store to an MMU register: the constraints
that are all the model assumes of the platform's `MMUStxa` (rule R17). -/

namespace Sys2Proof
namespace Machine

/-! ### The TLB (rule R1374) -/

/-- Match(entry, kind, pid, ctx, addr); `ctx` is `none` for a real address. -/
def tlbMatches (partition : DWord) (ctx : Option (BitVec 16)) (a : DWord) (e : TlbEntry) : Bool :=
  e.partition == partition && decide (e.base.toNat ≤ a.toNat) && decide (a.toNat < e.base.toNat + e.size.bytes)
    && (match ctx with
      | none => e.real
      | some c => !e.real && e.context == c)

/-- The address with the offset within a page dropped. -/
def pageBase (size : PageSize) (a : DWord) : DWord := a &&& ~~~(BitVec.ofNat 64 (size.bytes - 1))

/-- Two entries would match one address. -/
def entriesConflict (d e : TlbEntry) : Bool :=
  d.real == e.real && d.partition == e.partition && (d.real || d.context == e.context)
    && decide (d.base.toNat < e.base.toNat + e.size.bytes) && decide (e.base.toNat < d.base.toNat + d.size.bytes)

/-- TTE field `sz`; `none` where reserved or not supported (rule R1373). -/
def pageSizeOf (sz : BitVec 4) : Option PageSize :=
  if sz = 0 then some .p8K else if sz = 1 then some .p64K else if sz = 3 then some .p4M
  else if sz = 5 then (if Config.page256M then some .p256M else none) else none

/-- The TLB entry of a tag and a TTE data word (rules R1372, R1373); `none` where `v = 0` or `sz` is reserved, which installs
nothing (rule R1382, decision D32). -/
def tteEntry (tag : TlbTag) (partition data : DWord) : Option TlbEntry :=
  if flagAt data 63 then
    (pageSizeOf (data.extractLsb' 0 4)).map fun size =>
      { real := tag.real
        partition := partition
        context := tag.context
        base := pageBase size tag.address
        size := size
        pa := pageBase size ((data.extractLsb' 13 43 ++ 0#13).setWidth 64)
        nfo := flagAt data 62
        ie := flagAt data 12
        e := flagAt data 11
        cp := flagAt data 10
        cv := flagAt data 9
        p := flagAt data 8
        ep := flagAt data 7
        w := flagAt data 6 }
  else none

/-- A TLB with room for one more entry: a full one loses the entry the environment chooses (rule R1374). -/
def tlbRoom (capacity : Option Nat) (tlb : List TlbEntry) : List TlbEntry :=
  match capacity with
  | none => tlb
  | some n => if tlb.length < n then tlb else tlb.eraseIdx (Config.tlbVictim tlb % tlb.length)

/-- Installing an entry: refused where it would make two entries match one address (rule R1374, decision D32). -/
def tlbInstall (capacity : Option Nat) (tlb : List TlbEntry) (e : Option TlbEntry) : List TlbEntry :=
  match e with
  | none => tlb
  | some e => if tlb.any (entriesConflict e) then tlb else e :: tlbRoom capacity tlb

/-! ### What a store to an MMU register may do (rule R1382) -/

/-- A page size that a TTE can give (rule R1373). -/
def pageSizeLegal : PageSize → Bool
  | .p256M => Config.page256M
  | _ => true

/-- The TLB `new` may follow `old`: it holds entries of `old`, and entries installed now, each of a legal page size and none of which
makes two entries match one address (rules R1374, R1382); a TLB of bounded size does not outgrow it. -/
def TlbLawful (capacity : Option Nat) (old new : List TlbEntry) : Prop :=
  (∃ installed kept : List TlbEntry, new = installed ++ kept ∧ kept.Sublist old
    ∧ (∀ e ∈ installed, pageSizeLegal e.size = true ∧ e.base.toNat % e.size.bytes = 0)
    ∧ installed.Pairwise (fun d e => entriesConflict d e = false)
    ∧ ∀ d ∈ installed, ∀ e ∈ kept, entriesConflict d e = false)
  ∧ ∀ n, capacity = some n → new.length ≤ max n old.length

/-- The TLB `new` follows `old` by a data-in store of `v`: the one entry built from the tag access register and the TTE word is
installed, or refused where it has a reserved page size or v = 0 or would make two entries match (rule R1382, decision D32). No source
of the entry's partition is named: it may be any. -/
def DataIn (capacity : Option Nat) (old new : List TlbEntry) (tag : TlbTag) (v : DWord) : Prop :=
  ∃ partition : DWord,
    match tteEntry tag partition v with
    | none => new.Sublist old
    | some e => if old.any (entriesConflict e) then new.Sublist old else new = e :: tlbRoom capacity old

/-- The constraints every `MMUStxa` keeps (rule R1382, decision D32): what it installs in a TLB is lawful, a data-in store installs one
entry, a demap only removes entries. It changes nothing outside MMUState by its type. Of all else in MMUState nothing is said. -/
def MmuStxaLawful (m : Mmu) (asi : Byte) (va v : DWord) (n : Mmu) : Prop :=
  TlbLawful Config.itlbEntries m.itlb n.itlb ∧ TlbLawful Config.dtlbEntries m.dtlb n.dtlb
  ∧ (asi = 0x54 → va = 0 →
      DataIn Config.itlbEntries m.itlb n.itlb (Config.tagAccessDecode m.itagAccess) v
      ∧ (n.dtlb.Sublist m.dtlb ∨ DataIn Config.dtlbEntries m.dtlb n.dtlb (Config.tagAccessDecode m.itagAccess) v))
  ∧ (asi = 0x5C → va = 0 →
      DataIn Config.dtlbEntries m.dtlb n.dtlb (Config.tagAccessDecode m.dtagAccess) v
      ∧ (n.itlb.Sublist m.itlb ∨ DataIn Config.itlbEntries m.itlb n.itlb (Config.tagAccessDecode m.dtagAccess) v))
  ∧ (asi = 0x57 ∨ asi = 0x5F → n.itlb.Sublist m.itlb ∧ n.dtlb.Sublist m.dtlb)

end Machine

/-- `MMUStxa(MMUState, asi, va, value)` (rules R17, R1376, R1382): the MMU after an STXA to one of its registers, `none` for
data_access_exception. Consulted for every row of rule R1382 that may be written and that the rule does not fix; nothing is assumed of
it but the constraints of that rule. -/
opaque Config.mmuStxa : (m : Machine.Mmu) → (asi : Byte) → (va value : DWord) →
  Option { n : Machine.Mmu // Machine.MmuStxaLawful m asi va value n }

end Sys2Proof
end

