-- ==== Sys2Proof/Machine/Mmu.lean ====
section
/-! DEFINITION. Address space identifiers and the MMU: the ASI classes and contexts of spec/21_asi.md, translation and its
checks (rules R1374 to R1384), the fault registers, and the registers reached through ASIs. -/

namespace Sys2Proof.Machine

/-! ### Address space identifiers -/

/-- The classes of rule R343; `unassigned` is every ASI this spec does not implement (rule R348). -/
inductive AsiClass where
  | all | noatomic | nofault | ldtx | block | partialStore | short | register | unassigned
deriving DecidableEq, Repr

/-- The as-if-user ASIs (rules R349, R1378). -/
def asiIsAsIfUser (asi : Byte) : Bool :=
  asi == 0x10 || asi == 0x11 || asi == 0x16 || asi == 0x17 || asi == 0x18 || asi == 0x19 || asi == 0x1E || asi == 0x1F
    || asi == 0x22 || asi == 0x23 || asi == 0x2A || asi == 0x2B

/-- The as-if-privileged ASIs (rule R352). -/
def asiIsAsIfPriv (asi : Byte) : Bool :=
  asi == 0x30 || asi == 0x31 || asi == 0x36 || asi == 0x38 || asi == 0x39 || asi == 0x3E

/-- The no-fault ASIs (rule R288). -/
def asiIsNoFault (asi : Byte) : Bool := asi == 0x82 || asi == 0x83 || asi == 0x8A || asi == 0x8B

/-- ASI_REAL_IO and its little-endian form (rule R346). -/
def asiIsRealIo (asi : Byte) : Bool := asi == 0x15 || asi == 0x1D

/-- The nontranslating ASIs (rule R343, class `register`). -/
def asiIsRegister (asi : Byte) : Bool :=
  asi == 0x20 || asi == 0x21 || asi == 0x25 || asi == 0x41 || asi == 0x4F || asi == 0x50 || asi == 0x52 || asi == 0x54
    || asi == 0x55 || asi == 0x56 || asi == 0x57 || asi == 0x58 || asi == 0x5C || asi == 0x5D || asi == 0x5E || asi == 0x5F
    || asi == 0x63

/-- The ASIs every alternate-space instruction may use (rule R343, class `all`). -/
def asiIsGeneral (asi : Byte) : Bool :=
  asi == 0x04 || asi == 0x0C || asi == 0x10 || asi == 0x11 || asi == 0x18 || asi == 0x19 || asi == 0x14 || asi == 0x1C
    || asi == 0x80 || asi == 0x81 || asi == 0x88 || asi == 0x89 || asiIsAsIfPriv asi

/-- The class of an ASI (rules R343, R348). -/
def asiClass (asi : Byte) : AsiClass :=
  if asiIsGeneral asi then .all
  else if asiIsRealIo asi then .noatomic
  else if asiIsNoFault asi then .nofault
  else if asiIsLdtx asi then .ldtx
  else if asiIsBlock asi then .block
  else if asiIsPartial asi then .partialStore
  else if asiIsShort asi then .short
  else if asiIsRegister asi then .register
  else .unassigned

/-- A load other than LDXA, LDTXA, LDDFA's special forms may use the class (rule R343). -/
def admitsLoad : AsiClass → Bool
  | .all | .noatomic | .nofault => true
  | _ => false

/-- A store may use the class (rule R343). -/
def admitsStore : AsiClass → Bool
  | .all | .noatomic => true
  | _ => false

/-- An atomic load-store may use the class (rule R343). -/
def admitsAtomic : AsiClass → Bool
  | .all => true
  | _ => false

/-- The special-instruction classes: with the wrong instruction, data_access_exception is raised and the alignment check is
skipped (rules R343, R734). -/
def isSpecialClass : AsiClass → Bool
  | .ldtx | .block | .partialStore | .short => true
  | _ => false

/-- AsiPriv (rule R340): the current mode may use the ASI. -/
def asiPermitted (s : State) (asi : Byte) : Bool :=
  isHyper s || decide (0x80 ≤ asi.toNat) || (isPriv s && decide (asi.toNat < 0x30))

/-- Which address space a translating or bypass ASI names (rule R344). -/
inductive Space where
  | primary | secondary | nucleus | real
deriving DecidableEq, Repr

/-- Context(asi) (rule R344); ASI 0x24 and 0x2C are LDTXA's aliases of the nucleus ASIs (rule R351). -/
def asiSpace (asi : Byte) : Space :=
  if asi = 0x14 || asi = 0x15 || asi = 0x1C || asi = 0x1D || asi = 0x26 || asi = 0x2E then .real
  else if asi = 0x04 || asi = 0x0C || asi = 0x27 || asi = 0x2F || asi = 0x24 || asi = 0x2C || asi = 0x36 || asi = 0x3E then
    .nucleus
  else if asi = 0x11 || asi = 0x19 || asi = 0x17 || asi = 0x1F || asi = 0x23 || asi = 0x2B || asi = 0x31 || asi = 0x39
      || asi = 0x81 || asi = 0x83 || asi = 0x89 || asi = 0x8B || asi = 0xC1 || asi = 0xC3 || asi = 0xC5 || asi = 0xC9
      || asi = 0xCB || asi = 0xCD || asi = 0xD1 || asi = 0xD3 || asi = 0xD9 || asi = 0xDB || asi = 0xE3 || asi = 0xEB
      || asi = 0xF1 || asi = 0xF9 then .secondary
  else .primary

/-- The ASI of an implicit data access (rules R341, R731). In hyperprivileged mode there is none and the access is
physical; the ASI answered here has the byte order PSTATE.cle gives such an access (rule R344). -/
def implicitAsi (s : State) : Byte :=
  if s.tl = 0 then (if s.pstate.cle then 0x88 else 0x80) else (if s.pstate.cle then 0x0C else 0x04)

/-- ByteOrder(asi, ie) (rule R344): `true` is little-endian. -/
def littleEndian (s : State) (asi : Byte) (ie : Bool) : Bool :=
  if isHyper s && (asi == 0x10 || asi == 0x11 || asi == 0x16 || asi == 0x17) then false
  else if isHyper s && (asi == 0x18 || asi == 0x19 || asi == 0x1E || asi == 0x1F) then true
  else flagAt asi 3 != ie

/-! ### Fault registers (rule R1383) -/

/-- DSFAR <- the address, as every trap marked in the D-SFAR column and a misaligned load or store does. -/
def noteDsfar (s : State) (a : DWord) : State := { s with mmu := { s.mmu with dsfar := a } }

/-- DSFAR and the D/UMMU Tag Access register, as a miss or a protection violation leaves them. -/
def noteDtag (s : State) (tag : TlbTag) : State :=
  { s with mmu := { s.mmu with dsfar := tag.address, dtagAccess := Config.tagAccessEncode tag } }

/-- The IMMU Tag Access register, as an instruction miss or instruction_access_exception leaves it. -/
def noteItag (s : State) (tag : TlbTag) : State :=
  { s with mmu := { s.mmu with itagAccess := Config.tagAccessEncode tag } }

/-- DSFSR's fault type (rule R1383): 0x10 for the no-fault-only violation, else a platform-defined code that is not 0. -/
def faultType (c : DaeCause) : Byte :=
  match c with
  | .noFaultOnly => 0x10
  | c => BitVec.ofNat 8 ((Config.dsfsrCode c).val + 1)

/-- DSFAR, DSFSR.ft and the D/UMMU Tag Access register after a data_access_exception; its context is undefined, a free
value (rules R1378, R1383). -/
def noteDae (s : State) (real : Bool) (a : DWord) (c : DaeCause) : State :=
  drawn
    { noteDtag s ⟨real, (freeValue s).extractLsb' 0 16, a⟩ with
      mmu :=
        { (noteDtag s ⟨real, (freeValue s).extractLsb' 0 16, a⟩).mmu with
          dsfsr := Config.dsfsrWithFt (faultType c) s.mmu.dsfsr } }

/-- Raise data_access_exception for the cause given (rule R1253). -/
def raiseDae {α : Type} (s : State) (real : Bool) (a : DWord) (c : DaeCause) : Effect α :=
  .error ⟨.dataAccessException, noteDae s real a c⟩

/-! ### Translation (rules R1376 to R1380) -/

/-- IEn: translation of instruction addresses is on. -/
def itranslationOn (s : State) : Bool := s.mmu.immuEnable && !s.hpstate.red

/-- DEn: translation of data addresses is on. -/
def dtranslationOn (s : State) : Bool := s.mmu.dmmuEnable && !s.hpstate.red

/-- The context ID of an address space; `none` for a real address (rule R1375: the nucleus context is 0). -/
def contextOf (s : State) : Space → Option (BitVec 16)
  | .primary => some s.mmu.primaryContext
  | .secondary => some s.mmu.secondaryContext
  | .nucleus => some 0
  | .real => none

/-- A data access with this ASI is physical (rule R1377, case H). -/
def isPhysical (s : State) (asi : Byte) : Bool :=
  isHyper s && asiSpace asi != .real && !asiIsAsIfUser asi && !asiIsAsIfPriv asi

/-- The space in which a data address is looked up: real where the ASI is a bypass ASI or translation is off (rule R1377,
case R), else the ASI's own (case V). -/
def lookupSpace (s : State) (asi : Byte) : Space := if dtranslationOn s then asiSpace asi else .real

/-- The access is made with nonprivileged rights (rule R1378). -/
def asNonprivileged (s : State) (asi : Byte) : Bool := isUser s || asiIsAsIfUser asi

/-- What an address translates to: the physical address, and the byte order the access uses. -/
structure Target where
  pa : DWord
  little : Bool
deriving DecidableEq, Repr

/-- The page attributes of an access, after REAL_IO's override (rules R346, R1377). -/
def sideEffect (asi : Byte) (e : TlbEntry) : Bool := e.e || asiIsRealIo asi

/-- See `sideEffect`. -/
def cacheable (asi : Byte) (e : TlbEntry) : Bool := e.cp && !asiIsRealIo asi

/-- The cause of the data_access_exception that a page's attributes give an access, if any (rule R1378 step 2).
`needsCache` marks LDTXA, which like an atomic may not access a noncacheable page. -/
def pageViolation (s : State) (acc : Access) (needsCache : Bool) (asi : Byte) (e : TlbEntry) : Option DaeCause :=
  if e.p && asNonprivileged s asi then some .privilegeViolation
  else if e.nfo && !asiIsNoFault asi then some .noFaultOnly
  else if sideEffect asi e && asiIsNoFault asi then some .sideEffect
  else if !cacheable asi e && (needsCache || acc == .atomic) then some .noncacheable
  else none

/-- The access writes. -/
def writes (acc : Access) : Bool := acc == .store || acc == .atomic

/-- An access to a physical address where nothing is takes data_access_error (rules R266, R1252). -/
def reached (s : State) (t : Target) : Effect Target :=
  match (Config.physAttr (physAddress s.paWidth t.pa)).kind with
  | .unmapped => raise s .dataAccessError
  | _ => .ok t

/-- The checks after a TLB hit, and the address (rule R1378 steps 2, 4, 5). -/
def throughEntry (s : State) (acc : Access) (needsCache : Bool) (asi : Byte) (a : DWord) (e : TlbEntry) : Effect Target :=
  match pageViolation s acc needsCache asi e with
  | some c => raiseDae s e.real a c
  | none =>
    if writes acc && !e.w then .error ⟨.fastDataAccessProtection, noteDtag s ⟨e.real, e.context, a⟩⟩
    else if !s.hpstate.red && Config.paWatch s.mmu.watch (physAddress s.paWidth (e.pa + (a - e.base))) acc then
      .error ⟨.paWatchpoint, noteDsfar s a⟩
    else reached s ⟨e.pa + (a - e.base), littleEndian s asi e.ie⟩

/-- What a hardware tablewalk finds for a virtual address (rule R1381). -/
def walk (s : State) (fetch : Bool) (ctx : BitVec 16) (a : DWord) : Walk :=
  Config.tablewalk s.mmu s.memory fetch ctx a

/-- MissException of a data access (rule R1380): to software, or after a hardware tablewalk that found no usable entry. -/
def missData (s : State) (acc : Access) (needsCache : Bool) (asi : Byte) (ctx : BitVec 16) (a : DWord) : Effect Target :=
  if Config.hwtw then
    match walk s false ctx a with
    | .found e => throughEntry s acc needsCache asi a e
    | .notFound => raise s .dataAccessMmuMiss
    | .invalid => raise s .dataInvalidTsbEntry
  else .error ⟨.fastDataAccessMmuMiss, noteDtag s ⟨false, ctx, a⟩⟩

/-- A VA watchpoint covers the access: a virtual address (rule R1377, case V) outside hyperprivileged mode and RED_state (rules R1378
step 1, R1384). -/
def vaWatched (s : State) (acc : Access) (asi : Byte) (a : DWord) : Bool :=
  !isPhysical s asi && lookupSpace s asi != .real && !isHyper s && !s.hpstate.red && Config.vaWatch s.mmu.watch a acc

/-- Translate for a data access (rules R1377, R1378, R1380), `a` already masked by PSTATE.am. -/
def translate (s : State) (acc : Access) (needsCache : Bool) (asi : Byte) (a : DWord) : Effect Target :=
  if isPhysical s asi then
    if !s.hpstate.red && Config.paWatch s.mmu.watch (physAddress s.paWidth a) acc then .error ⟨.paWatchpoint, noteDsfar s a⟩
    else reached s ⟨a, littleEndian s asi false⟩
  else if vaWatched s acc asi a then .error ⟨.vaWatchpoint, noteDsfar s a⟩
  else
    match contextOf s (lookupSpace s asi) with
    | none =>
      match s.mmu.dtlb.find? (tlbMatches s.mmu.partitionId none a) with
      | none => raise s .dataRealTranslationMiss
      | some e => throughEntry s acc needsCache asi a e
    | some ctx =>
      match s.mmu.dtlb.find? (tlbMatches s.mmu.partitionId (some ctx) a) with
      | none => missData s acc needsCache asi ctx a
      | some e => throughEntry s acc needsCache asi a e

/-- The MMU after the hardware tablewalk of a data access to `a`, where the access makes one and it finds an entry: that entry
is installed (rules R1374, R1380). A watched access traps before it looks the address up (rule R1378). -/
def walkFill (s : State) (acc : Access) (asi : Byte) (a : DWord) : State :=
  if isPhysical s asi || vaWatched s acc asi a then s
  else
    match contextOf s (lookupSpace s asi) with
    | none => s
    | some ctx =>
      match s.mmu.dtlb.find? (tlbMatches s.mmu.partitionId (some ctx) a), walk s false ctx a with
      | none, .found e => { s with mmu := { s.mmu with dtlb := tlbInstall Config.dtlbEntries s.mmu.dtlb (some e) } }
      | _, _ => s

/-- The state in which a data access to `a` (not yet masked) is translated: after the hardware tablewalk, if there is one. -/
def walked (s : State) (acc : Access) (asi : Byte) (a : DWord) : State :=
  if Config.hwtw then walkFill s acc asi (maskAm s a) else s

/-- The space of an instruction address: nucleus at TL > 0, else primary; real where translation is off (rules R341, R1377). -/
def fetchSpace (s : State) : Space :=
  if itranslationOn s then (if s.tl = 0 then .primary else .nucleus) else .real

/-- A fetch from a physical address where nothing is takes instruction_access_error (rules R266, R1267). -/
def reachedFetch (s : State) (pa : DWord) : Effect DWord :=
  match (Config.physAttr (physAddress s.paWidth pa)).kind with
  | .unmapped => raise s .instructionAccessError
  | _ => .ok pa

/-- The checks after an instruction TLB hit (rule R1379). -/
def throughFetchEntry (s : State) (a : DWord) (e : TlbEntry) : Effect DWord :=
  if (e.p && isUser s) || !e.ep || e.nfo then
    .error ⟨.instructionAccessException, noteItag s ⟨e.real, e.context, a⟩⟩
  else reachedFetch s (e.pa + (a - e.base))

/-- MissException of a fetch (rule R1380). -/
def missFetch (s : State) (ctx : BitVec 16) (a : DWord) : Effect DWord :=
  if Config.hwtw then
    match walk s true ctx a with
    | .found e => throughFetchEntry s a e
    | .notFound => raise s .instructionAccessMmuMiss
    | .invalid => raise s .instructionInvalidTsbEntry
  else .error ⟨.fastInstructionAccessMmuMiss, noteItag s ⟨false, ctx, a⟩⟩

/-- Translate for an instruction fetch (rules R271, R1377, R1379, R1380). -/
def translateFetch (s : State) (a : DWord) : Effect DWord :=
  if isHyper s then reachedFetch s a
  else
    match contextOf s (fetchSpace s) with
    | none =>
      match s.mmu.itlb.find? (tlbMatches s.mmu.partitionId none a) with
      | none => raise s .instructionRealTranslationMiss
      | some e => throughFetchEntry s a e
    | some ctx =>
      match s.mmu.itlb.find? (tlbMatches s.mmu.partitionId (some ctx) a) with
      | none => missFetch s ctx a
      | some e => throughFetchEntry s a e

/-- The state in which the instruction at `a` is fetched: after the hardware tablewalk of the fetch, where there is one and it
finds an entry (rules R1374, R1380). -/
def walkedFetch (s : State) (a : DWord) : State :=
  if Config.hwtw && !isHyper s then
    match contextOf s (fetchSpace s) with
    | none => s
    | some ctx =>
      match s.mmu.itlb.find? (tlbMatches s.mmu.partitionId (some ctx) a), walk s true ctx a with
      | none, .found e => { s with mmu := { s.mmu with itlb := tlbInstall Config.itlbEntries s.mmu.itlb (some e) } }
      | _, _ => s
  else s

/-! ### MMU registers (rules R1375, R1382, rows of R342) -/

/-- An address of the TLB data access registers. -/
def isDataAccessVa (va : DWord) : Bool := decide (va.toNat ≤ 0x3F8) || (decide (0x800 ≤ va.toNat) && decide (va.toNat ≤ 0x7FFF8))

/-- The three address bits that number the registers of a group that starts at `first` (8 bytes apart). -/
def groupIndex (va first : DWord) : BitVec 3 := (va - first).extractLsb' 3 3

/-- The address lies in a group of registers 8 bytes apart. -/
def inGroup (va first last : DWord) : Bool :=
  decide (first.toNat ≤ va.toNat) && decide (va.toNat ≤ last.toNat) && (va.extractLsb' 0 3 == 0)

/-- The MMU registers of ASIs 0x50 to 0x5F that rule R1382 does not fix and that are both read and written (the RW rows of R342). -/
def mmuReadWrite (asi : Byte) (va : DWord) : Bool :=
  if asi = 0x50 then va == 0x18 || va == 0x30
  else if asi = 0x52 then inGroup va 0x108 0x120 || inGroup va 0x208 0x220
  else if asi = 0x54 then inGroup va 0x10 0x98
  else if asi = 0x55 || asi = 0x5D then isDataAccessVa va
  else if asi = 0x58 then va == 0x18 || va == 0x30 || va == 0x38 || va == 0x40
  else false

/-- The MMU registers rule R1382 does not fix that are only read (the R rows of R342): the tag targets and the TLB tag reads. -/
def mmuReadOnly (asi : Byte) (va : DWord) : Bool :=
  if asi = 0x50 || asi = 0x58 then va == 0 else if asi = 0x56 || asi = 0x5E then decide (va.toNat ≤ 0xFFFF8) else false

/-- The MMU registers that are only written (the W rows of R342): TLB data in and demap. -/
def mmuWriteOnly (asi : Byte) (va : DWord) : Bool :=
  if asi = 0x54 || asi = 0x57 || asi = 0x5C || asi = 0x5F then va == 0 else false

/-- LDXA of an MMU register (rules R1375, R1382, R1383): the value read, `none` for data_access_exception. The contexts, the
partition ID and DSFAR read as they are; every other register answers what the platform's `MMULdxa` does (rule R17). -/
def mmuRead (m : Mmu) (asi : Byte) (va : DWord) : Option DWord :=
  if asi = 0x21 then
    (if va = 0x8 then some (m.primaryContext.setWidth 64) else if va = 0x10 then some (m.secondaryContext.setWidth 64)
     else none)
  else if asi = 0x58 && va = 0x20 then some m.dsfar
  else if asi = 0x58 && va = 0x80 then some m.partitionId
  else if mmuReadWrite asi va || mmuReadOnly asi va then Config.mmuLdxa m asi va
  else none

/-- STXA to an MMU register (rules R1375, R1376, R1382): the MMU after the store, `none` for data_access_exception. The contexts and
the partition ID hold what is stored in them; a store to any other register does what the platform's `MMUStxa` does (rule R17), which
may be anything that keeps the constraints of rule R1382 (`MmuStxaLawful`). -/
def mmuWrite (m : Mmu) (asi : Byte) (va v : DWord) : Option Mmu :=
  if asi = 0x21 then
    (if va = 0x8 then some { m with primaryContext := v.extractLsb' 0 16 }
     else if va = 0x10 then some { m with secondaryContext := v.extractLsb' 0 16 } else none)
  else if asi = 0x58 && va = 0x80 then some { m with partitionId := v &&& Config.partitionIdMask }
  else if mmuReadWrite asi va || mmuWriteOnly asi va then
    (Config.mmuStxa m asi va v).map Subtype.val
  else none

/-! ### CMT registers (rules R1402 to R1415) -/

/-- LDXA of ASI 0x41 or 0x63. -/
def cmtRead (h : Chip) (c : Cmt) (asi : Byte) (va : DWord) : Option DWord :=
  if asi = 0x41 then
    (if va = 0 then some h.available else if va = 0x10 then some c.enableStatus
     else if va = 0x20 then some c.enable else if va = 0x30 then some c.xirSteering else if va = 0x50 then some c.running
     else if va = 0x58 then some c.runningStatus else none)
  else if va = 0 then some (c.intrId.setWidth 64)
  else if va = 0x10 then some (strandIdBits h)
  else none

/-- STRAND_RUNNING_STATUS after STRAND_RUNNING became `new`: a strand unparked runs at once; a strand parked stops at once where
`SKID_MAX` is 0, else when `parkComplete` happens (rule R1409). -/
def statusAfter (c : Cmt) (new : DWord) : DWord := if Config.skidMax = 0 then new else c.runningStatus ||| new

/-- A store to STRAND_RUNNING (rules R1408, R1409, IMPL. DEP. #429-S10): dropped where it would park every strand. -/
def setRunning (c : Cmt) (new : DWord) : Cmt :=
  if new &&& c.enableStatus = 0 then c
  else { c with running := new &&& c.enableStatus, runningStatus := statusAfter c (new &&& c.enableStatus) }

/-- ParkComplete of the model's own strand: a strand that STRAND_RUNNING has parked stops (rule R1409). -/
def parkOwn (h : Chip) (c : Cmt) : Cmt :=
  if namesOwn h c.running then c else { c with runningStatus := c.runningStatus &&& ~~~ownMask h }

/-- ParkComplete, as an event of the environment (rule R1409) and as FLUSH forces it (rule R1408). -/
def parkComplete (s : State) : State := { s with cmt := parkOwn s.chip s.cmt }

/-- STRAND_ENABLE after a store (rule R1406, IMPL. DEP. #323-U4). -/
def enableAfter (h : Chip) (v : DWord) : DWord :=
  if v &&& h.available = 0 then (if Config.enableZeroGuard then enableZeroValue h else 0) else v &&& h.available

/-- The writable registers of ASI 0x41 that the single-strand subset makes read-only: writes to them are ignored (rule R1414). -/
def cmtWriteIgnored (va : DWord) : Bool :=
  Config.cmtSingleStrandSubset && (va == 0x20 || va == 0x30 || va == 0x50 || va == 0x60 || va == 0x68)

/-- STXA to ASI 0x41 or 0x63. -/
def cmtWrite (h : Chip) (c : Cmt) (asi : Byte) (va v : DWord) : Option Cmt :=
  if asi = 0x41 then
    (if cmtWriteIgnored va then some c
     else if va = 0x20 then some { c with enable := enableAfter h v }
     else if va = 0x30 then
      some { c with xirSteering := (c.xirSteering &&& ~~~Config.xirSteeringWritable)
        ||| (v &&& Config.xirSteeringWritable &&& h.available) }
     else if va = 0x50 then some (setRunning c v)
     else if va = 0x60 then some (setRunning c (c.running ||| v))
     else if va = 0x68 then some (setRunning c (c.running &&& ~~~v))
     else none)
  else if va = 0 then
    some { c with intrId := (c.intrId &&& ~~~Config.intrIdWritableMask)
      ||| (v.extractLsb' 0 16 &&& Config.intrIdWritableMask) }
  else none

/-! ### Register ASIs (rule R345) -/

/-- A register the parameters keep from privileged mode: scratchpads 4 to 7 where they trap (rule R356). -/
def scratchpadDenied (s : State) (va : DWord) : Bool := isPriv s && !Config.scratchpad47Priv && decide (0x20 ≤ va.toNat)

/-- HYP_SCRATCHPAD[k], which may be SCRATCHPAD[k] itself (rule R357). -/
def readHypScratchpad (s : State) (k : BitVec 3) : DWord :=
  if Config.hypScratchpadAlias k then bankRead s.scratchpad k else bankRead s.hypScratchpad k

/-- HYP_SCRATCHPAD[k] <- v (rule R357). -/
def writeHypScratchpad (s : State) (k : BitVec 3) (v : DWord) : State :=
  if Config.hypScratchpadAlias k then { s with scratchpad := bankWrite s.scratchpad k v }
  else { s with hypScratchpad := bankWrite s.hypScratchpad k v }

/-- RegisterAccess, load: `none` for data_access_exception. -/
def readAsiRegister (s : State) (asi : Byte) (va : DWord) : Option DWord :=
  if asi = 0x20 then
    (if inGroup va 0 0x38 && !scratchpadDenied s va then some (bankRead s.scratchpad (groupIndex va 0)) else none)
  else if asi = 0x4F then (if inGroup va 0 0x38 then some (readHypScratchpad s (groupIndex va 0)) else none)
  else if asi = 0x25 then (if inGroup va 0x3C0 0x3F8 then some (bankRead s.queues (groupIndex va 0x3C0)) else none)
  else if asi = 0x41 || asi = 0x63 then cmtRead s.chip s.cmt asi va
  else mmuRead s.mmu asi va

/-- QUEUE_REG_MASK (rule R1355). -/
def queueRegMask : DWord := Config.queueRegMaskHigh ++ 0#6

/-- A privileged-mode store to this address of ASI 0x25 is refused: it is a tail register (rule R1354). -/
def queueDenied (s : State) (va : DWord) : Bool := isPriv s && flagAt va 3 && !Config.queueTailPrivWritable

/-- RegisterAccess, store: `none` for data_access_exception. -/
def writeAsiRegister (s : State) (asi : Byte) (va v : DWord) : Option State :=
  if asi = 0x20 then
    (if inGroup va 0 0x38 && !scratchpadDenied s va then
      some { s with scratchpad := bankWrite s.scratchpad (groupIndex va 0) v } else none)
  else if asi = 0x4F then
    (if inGroup va 0 0x38 then some (writeHypScratchpad s (groupIndex va 0) v) else none)
  else if asi = 0x25 then
    (if inGroup va 0x3C0 0x3F8 && !queueDenied s va then
      some { s with queues := bankWrite s.queues (groupIndex va 0x3C0) (v &&& queueRegMask) } else none)
  else if asi = 0x41 || asi = 0x63 then (cmtWrite s.chip s.cmt asi va v).map fun c => { s with cmt := c }
  else (mmuWrite s.mmu asi va v).map fun m => { s with mmu := m }

end Sys2Proof.Machine
end

