-- ==== Sys2Proof/Machine/Access.lean ====
section
/-! DEFINITION. The steps shared by every load and store: the alignment, privilege and ASI checks in the order of rule R734,
and one access of at most eight bytes (rules R270, R735). -/

namespace Sys2Proof.Machine

/-! ### Checks -/

/-- `a` is a multiple of `n`. -/
def alignedTo (a : DWord) (n : Nat) : Bool := a.toNat % n == 0

/-- The alignment check of rule R734, step 2. -/
def requireAligned (s : State) (a : DWord) (n : Nat) : Effect Unit :=
  if alignedTo a n then .ok () else .error ⟨.memAddressNotAligned, noteDsfar s (maskAm s a)⟩

/-- The two alignment checks of a doubleword floating-point transfer: a word-aligned address that is not doubleword-aligned
raises the exception given (rules R836, R846). -/
def requireDouble (s : State) (a : DWord) (e : Trap) : Effect Unit :=
  if !alignedTo a 4 then .error ⟨.memAddressNotAligned, noteDsfar s (maskAm s a)⟩
  else if !alignedTo a 8 then .error ⟨e, noteDsfar s (maskAm s a)⟩
  else .ok ()

/-- AsiPriv (rules R340, R732). -/
def requirePermitted (s : State) (asi : Byte) (a : DWord) : Effect Unit :=
  if asiPermitted s asi then .ok () else .error ⟨.privilegedAction, noteDsfar s (maskAm s a)⟩

/-- The ASI is not valid for the instruction (rules R343, R1253). -/
def invalidAsi {α : Type} (s : State) (a : DWord) : Effect α := raiseDae s false (maskAm s a) .invalidAsi

/-- The class is one of addresses to translate, so that a VA watchpoint can cover them (rules R343, R1377). -/
def asiTranslates : AsiClass → Bool
  | .register | .unassigned => false
  | _ => true

/-- The exception of an access whose ASI is not valid for the instruction: a VA watchpoint on it comes first (rules R270, R734 steps
4 and 5). -/
def refuseAsi {α : Type} (s : State) (acc : Access) (asi : Byte) (a : DWord) : Effect α :=
  if asiTranslates (asiClass asi) && vaWatched s acc asi (maskAm s a) then .error ⟨.vaWatchpoint, noteDsfar s (maskAm s a)⟩
  else invalidAsi s a

/-- The checks of an alternate-space access to an address that translates: where the ASI belongs to another special
instruction the alignment check is skipped, `align` else; then AsiPriv; then the class (rules R343, R734). -/
def requireAsi (s : State) (acc : Access) (asi : Byte) (a : DWord) (align : Effect Unit) (admits : AsiClass → Bool) : Effect Unit := do
  (if isSpecialClass (asiClass asi) then pure () else align : Effect Unit)
  requirePermitted s asi a
  (if admits (asiClass asi) then pure () else refuseAsi s acc asi a : Effect Unit)

/-! ### One access -/

/-- Load(asi, EA, n), zero-extended (rules R735, R1377), in a state that `walked` has made. -/
def loadAt (s : State) (asi : Byte) (a : DWord) (n : Nat) : Effect DWord := do
  let t ← translate s .load false asi (maskAm s a)
  return readPhys s t.pa n t.little

/-- One of the two halves of LDTXA: as `loadAt`, on cacheable pages only (rule R752). -/
def loadTwinAt (s : State) (asi : Byte) (a : DWord) : Effect DWord := do
  let t ← translate s .load true asi (maskAm s a)
  return readPhys s t.pa 8 t.little

/-- Store(asi, EA, n, v) (rules R735, R1377). -/
def storeAt (s : State) (asi : Byte) (a : DWord) (n : Nat) (v : DWord) : Effect State := do
  let s := walked s .store asi a
  let t ← translate s .store false asi (maskAm s a)
  return writePhys s t.pa n t.little v

/-- The read and the write of an atomic load-store: the old value, and the state with the value that `new` makes of it
stored, or memory unchanged where it makes none (rules R765, R770). -/
def atomicAt (s : State) (asi : Byte) (a : DWord) (n : Nat) (new : DWord → Option DWord) : Effect (DWord × State) := do
  let s := walked s .atomic asi a
  let t ← translate s .atomic false asi (maskAm s a)
  let old := readPhys s t.pa n t.little
  match new old with
  | none => return (old, s)
  | some v => return (old, writePhys s t.pa n t.little v)

/-- The two words of a twin-word load at `a` and `a + 4` (rule R750). -/
def loadPair (s : State) (asi : Byte) (a : DWord) : Effect (DWord × DWord) := do
  let w0 ← loadAt s asi a 4
  let w1 ← loadAt s asi (a + 4) 4
  return (w0, w1)

/-- The two words of a twin-word store at `a` and `a + 4` (rule R760). -/
def storePair (s : State) (asi : Byte) (a v0 v1 : DWord) : Effect State := do
  let s ← storeAt s asi a 4 v0
  storeAt s asi (a + 4) 4 v1

/-- R[rd] and R[rd + 1] of a twin instruction, `rd` even. -/
def setPair (s : State) (rd : BitVec 5) (v : DWord × DWord) : State := setR (setR s rd v.1) (rd + 1) v.2

/-! ### Whole instructions -/

/-- A load from the implicit address space into R[rd] (rules R740 to R746). -/
def loadR (s : State) (rd rs1 : BitVec 5) (op2 : RegOrImm13) (n : Nat) (ext : DWord → DWord) : Run :=
  complete do
    requireAligned s (effectiveAddress s rs1 op2) n
    let s := walked s .load (implicitAsi s) (effectiveAddress s rs1 op2)
    let v ← loadAt s (implicitAsi s) (effectiveAddress s rs1 op2) n
    return advance (setR s rd (ext v))

/-- A load from an alternate space into R[rd], the register ASIs apart (rule R747). -/
def loadAlternateR (s : State) (rd rs1 : BitVec 5) (ea : AsiOperand) (n : Nat) (ext : DWord → DWord) : Run :=
  complete do
    requireAsi s .load (asiNumber s ea) (asiAddress s rs1 ea) (requireAligned s (asiAddress s rs1 ea) n) admitsLoad
    let s := walked s .load (asiNumber s ea) (asiAddress s rs1 ea)
    let v ← loadAt s (asiNumber s ea) (asiAddress s rs1 ea) n
    return advance (setR s rd (ext v))

/-- A store from R[rd] to the implicit address space (rules R755 to R758). -/
def storeR (s : State) (rd rs1 : BitVec 5) (op2 : RegOrImm13) (n : Nat) : Run :=
  complete do
    requireAligned s (effectiveAddress s rs1 op2) n
    let s ← storeAt s (implicitAsi s) (effectiveAddress s rs1 op2) n (getR s rd)
    return advance s

/-- A store from R[rd] to an alternate space, the register ASIs apart (rule R759). -/
def storeAlternateR (s : State) (rd rs1 : BitVec 5) (ea : AsiOperand) (n : Nat) : Run :=
  complete do
    requireAsi s .store (asiNumber s ea) (asiAddress s rs1 ea) (requireAligned s (asiAddress s rs1 ea) n) admitsStore
    let s ← storeAt s (asiNumber s ea) (asiAddress s rs1 ea) n (getR s rd)
    return advance s

/-- An atomic load-store in the implicit address space; R[rd] receives the old value (rules R766, R768). -/
def atomicR (s : State) (rd rs1 : BitVec 5) (op2 : RegOrImm13) (n : Nat) (new : DWord → Option DWord) : Run :=
  complete do
    requireAligned s (effectiveAddress s rs1 op2) n
    let r ← atomicAt s (implicitAsi s) (effectiveAddress s rs1 op2) n new
    return advance (setR r.2 rd r.1)

/-- An atomic load-store in an alternate space (rules R767, R769, R770, R771). -/
def atomicAlternateR (s : State) (rd : BitVec 5) (asi : Byte) (a : DWord) (n : Nat) (new : DWord → Option DWord) : Run :=
  complete do
    requireAsi s .atomic asi a (requireAligned s a n) admitsAtomic
    let r ← atomicAt s asi a n new
    return advance (setR r.2 rd r.1)

/-- The eight-byte load of LDXA and LDDFA: from a register where the ASI is nontranslating, else from memory; the value, and the
state the access leaves (rules R345, R747, R841). -/
def loadAlternate8 (s : State) (asi : Byte) (a : DWord) (align : Effect Unit) : Effect (DWord × State) :=
  if asiClass asi = .register then do
    align
    requirePermitted s asi a
    match readAsiRegister s asi (maskAm s a) with
    | none => invalidAsi s a
    | some v => return (v, s)
  else do
    requireAsi s .load asi a align admitsLoad
    let s := walked s .load asi a
    let v ← loadAt s asi a 8
    return (v, s)

/-- The eight-byte store of STXA and STDFA (rules R345, R759, R851). -/
def storeAlternate8 (s : State) (asi : Byte) (a v : DWord) (align : Effect Unit) : Effect State :=
  if asiClass asi = .register then do
    align
    requirePermitted s asi a
    match writeAsiRegister s asi (maskAm s a) v with
    | none => invalidAsi s a
    | some t => return t
  else do
    requireAsi s .store asi a align admitsStore
    storeAt s asi a 8 v

/-! ### Floating-point transfers (rules R830, R831) -/

/-- The FPU-enable check of a load into floating-point registers: fp_disabled leaves the dirty bit that `mark` sets
(rules R68, R830, decision D12). -/
def requireFpuMarking (s : State) (mark : State → State) : Effect Unit :=
  if fpuEnabled s then .ok () else .error ⟨.fpDisabled, mark s⟩

/-- The FPU-enable check (rules R66, R830). -/
def requireFpu (s : State) : Effect Unit := if fpuEnabled s then .ok () else raise s .fpDisabled

/-- The eight doublewords of a block load in ascending order into the double registers `2 * (d + k)` (rule R843). -/
def blockLoad (src : State) (asi : Byte) (a : DWord) (d : BitVec 5) : Nat → Nat → State → Effect State
  | 0, _, s => .ok s
  | n + 1, k, s => do
    let v ← loadAt src asi (a + BitVec.ofNat 64 (8 * k)) 8
    blockLoad src asi a d n (k + 1) (setFDn s (d + BitVec.ofNat 5 k) v)

/-- The eight doublewords of a block store in ascending order (rule R852). -/
def blockStore (asi : Byte) (a : DWord) (d : BitVec 5) : Nat → Nat → State → Effect State
  | 0, _, s => .ok s
  | n + 1, k, s => do
    let s ← storeAt s asi (a + BitVec.ofNat 64 (8 * k)) 8 (getFDn s (d + BitVec.ofNat 5 k))
    blockStore asi a d n (k + 1) s

/-- LDBLOCKF (rule R843): the field must name a multiple of 16. -/
def runBlockLoad (s : State) (asi : Byte) (a : DWord) (field : BitVec 5) : Effect State :=
  if field.extractLsb' 1 3 ≠ 0 then raise s .illegalInstruction
  else do
    requireFpuMarking s (markFD · field)
    requireAligned s a 64
    requirePermitted s asi a
    let s := walked s .load asi a
    blockLoad s asi a (doubleNumber field) 8 0 s

/-- STBLOCKF (rule R852). -/
def runBlockStore (s : State) (asi : Byte) (a : DWord) (field : BitVec 5) : Effect State :=
  if field.extractLsb' 1 3 ≠ 0 then raise s .illegalInstruction
  else do
    requireFpu s
    requireAligned s a 64
    requirePermitted s asi a
    blockStore asi a (doubleNumber field) 8 0 s

/-- The 16-bit short floating-point ASIs (rules R844, R853). -/
def asiIsShort16 (asi : Byte) : Bool := asi == 0xD2 || asi == 0xD3 || asi == 0xDA || asi == 0xDB

/-- The alignment check and the exception of the short loads and stores, which hardware does not implement
(rules R844, R853, decision D10). -/
def shortTransfer (s : State) (acc : Access) (asi : Byte) (a : DWord) : Effect State := do
  (if asiIsShort16 asi then requireAligned s a 2 else pure () : Effect Unit)
  refuseAsi s acc asi a

end Sys2Proof.Machine
end

