-- ==== Sys2Proof/Machine/FpLoadStore.lean ====
section
/-! DEFINITION. The meanings of spec/43_fp_vis_load_store.md: floating-point loads and stores, and the block, short and partial transfers. -/

namespace Sys2Proof.Machine

/-! ### Shared operations -/

/-- LDDF_mem_address_not_aligned's check (rule R836). -/
def requireLddf (s : State) (a : DWord) : Effect Unit := requireDouble s a .lddfMemAddressNotAligned

/-- STDF_mem_address_not_aligned's check (rule R846). -/
def requireStdf (s : State) (a : DWord) : Effect Unit := requireDouble s a .stdfMemAddressNotAligned

/-- FSR.ftt <- 0, as STXFSR and STFSR leave it (rules R847, R849). -/
def clearFtt (s : State) : State := { s with fsr := { s.fsr with ftt := 0 } }

/-- LDDFA with an ASI that selects no block or short load (rule R841). -/
def loadDoubleAlternate (s : State) (rd : BitVec 5) (asi : Byte) (a : DWord) : Effect State := do
  requireFpuMarking s (markFD · rd)
  let r ← loadAlternate8 s asi a (requireLddf s a)
  return setFD r.2 rd r.1

/-- LDSHORTF's checks and the exception that stands for it (rule R844, decision D10); fp_disabled leaves the dirty bit of
F_D[rd] set (rule R68). -/
def shortLoad (s : State) (rd : BitVec 5) (asi : Byte) (a : DWord) : Effect State := do
  requireFpuMarking s (markFD · rd)
  shortTransfer s .load asi a

/-- LDDFA: the ASI selects the block load, the short load or the ordinary load (rule R841). -/
def loadDoubleFrom (s : State) (rd : BitVec 5) (asi : Byte) (a : DWord) : Effect State :=
  if asiIsBlock asi then runBlockLoad s asi a rd
  else if asiIsShort asi then shortLoad s rd asi a
  else loadDoubleAlternate s rd asi a

/-- STDFA with an ASI that selects no block, short or partial store (rule R851). -/
def storeDoubleAlternate (s : State) (rd : BitVec 5) (asi : Byte) (a : DWord) : Effect State := do
  requireFpu s
  storeAlternate8 s asi a (getFD s rd) (requireStdf s a)

/-- STPARTIALF's checks and the exception that stands for it (rule R854, decision D10); its address is R[rs1] alone. -/
def partialStore (s : State) (asi : Byte) (a : DWord) : Effect State := do
  requireFpu s
  requireStdf s a
  refuseAsi s .store asi a

/-- STDFA: the ASI selects the partial, block, short or ordinary store (rules R851, R854). -/
def storeDoubleTo (s : State) (rd rs1 : BitVec 5) (ea : AsiOperand) : Effect State :=
  if asiIsPartial (asiNumber s ea) then
    (match ea with
      | .reg _ _ => partialStore s (asiNumber s ea) (getR s rs1)
      | .imm _ => raise s .illegalInstruction)
  else if asiIsBlock (asiNumber s ea) then runBlockStore s (asiNumber s ea) (asiAddress s rs1 ea) rd
  else if asiIsShort (asiNumber s ea) then do
    requireFpu s
    shortTransfer s .store (asiNumber s ea) (asiAddress s rs1 ea)
  else storeDoubleAlternate s rd (asiNumber s ea) (asiAddress s rs1 ea)

/-- LDF (rule R835). -/
def execLdf (rd : BitVec 5) (rs1 : BitVec 5) (op2 : RegOrImm13) (s : State) : Run :=
  complete do
    requireFpuMarking s markFS
    requireAligned s (effectiveAddress s rs1 op2) 4
    let s := walked s .load (implicitAsi s) (effectiveAddress s rs1 op2)
    let v ← loadAt s (implicitAsi s) (effectiveAddress s rs1 op2) 4
    return advance (setFS s rd (v.extractLsb' 0 32))

/-- LDDF (rule R836). -/
def execLddf (rd : BitVec 5) (rs1 : BitVec 5) (op2 : RegOrImm13) (s : State) : Run :=
  complete do
    requireFpuMarking s (markFD · rd)
    requireLddf s (effectiveAddress s rs1 op2)
    let s := walked s .load (implicitAsi s) (effectiveAddress s rs1 op2)
    let v ← loadAt s (implicitAsi s) (effectiveAddress s rs1 op2) 8
    return advance (setFD s rd v)

/-- LDQF (rule R838). Not executed by hardware (rule R833). -/
def execLdqf (_rd : BitVec 5) (_rs1 : BitVec 5) (_op2 : RegOrImm13) (s : State) : Run := trapTo s .illegalInstruction

/-- LDXFSR (rule R837). -/
def execLdxfsr (rs1 : BitVec 5) (op2 : RegOrImm13) (s : State) : Run :=
  complete do
    requireFpu s
    requireAligned s (effectiveAddress s rs1 op2) 8
    let s := walked s .load (implicitAsi s) (effectiveAddress s rs1 op2)
    let v ← loadAt s (implicitAsi s) (effectiveAddress s rs1 op2) 8
    return advance { s with fsr := fsrLoad s.fsr v }

/-- LDFSR (rule R839). -/
def execLdfsr (rs1 : BitVec 5) (op2 : RegOrImm13) (s : State) : Run :=
  complete do
    requireFpu s
    requireAligned s (effectiveAddress s rs1 op2) 4
    let s := walked s .load (implicitAsi s) (effectiveAddress s rs1 op2)
    let v ← loadAt s (implicitAsi s) (effectiveAddress s rs1 op2) 4
    return advance { s with fsr := fsrLoadLow s.fsr (v.extractLsb' 0 32) }

/-- LDFA (rule R840). -/
def execLdfa (rd : BitVec 5) (rs1 : BitVec 5) (ea : AsiOperand) (s : State) : Run :=
  complete do
    requireFpuMarking s markFS
    requireAsi s .load (asiNumber s ea) (asiAddress s rs1 ea) (requireAligned s (asiAddress s rs1 ea) 4) admitsLoad
    let s := walked s .load (asiNumber s ea) (asiAddress s rs1 ea)
    let v ← loadAt s (asiNumber s ea) (asiAddress s rs1 ea) 4
    return advance (setFS s rd (v.extractLsb' 0 32))

/-- LDDFA (rule R841). -/
def execLddfa (rd : BitVec 5) (rs1 : BitVec 5) (ea : AsiOperand) (s : State) : Run :=
  complete do
    let s ← loadDoubleFrom s rd (asiNumber s ea) (asiAddress s rs1 ea)
    return advance s

/-- LDQFA (rule R842). Not executed by hardware (rule R833). -/
def execLdqfa (_rd : BitVec 5) (_rs1 : BitVec 5) (_ea : AsiOperand) (s : State) : Run := trapTo s .illegalInstruction

/-- LDBLOCKF (rule R843). -/
def execLdblockf (rd : BitVec 5) (rs1 : BitVec 5) (rs2 : BitVec 5) (asi : BitVec 8) (s : State) : Run :=
  complete do
    let s ← runBlockLoad s asi (getR s rs1 + getR s rs2) rd
    return advance s

/-- LDSHORTF (rule R844). Not executed by hardware beyond its checks. -/
def execLdshortf (rd : BitVec 5) (rs1 : BitVec 5) (rs2 : BitVec 5) (asi : BitVec 8) (s : State) : Run :=
  complete (shortLoad s rd asi (getR s rs1 + getR s rs2))

/-- STF (rule R845). -/
def execStf (rd : BitVec 5) (rs1 : BitVec 5) (op2 : RegOrImm13) (s : State) : Run :=
  complete do
    requireFpu s
    requireAligned s (effectiveAddress s rs1 op2) 4
    let s ← storeAt s (implicitAsi s) (effectiveAddress s rs1 op2) 4 ((getFS s rd).setWidth 64)
    return advance s

/-- STDF (rule R846). -/
def execStdf (rd : BitVec 5) (rs1 : BitVec 5) (op2 : RegOrImm13) (s : State) : Run :=
  complete do
    requireFpu s
    requireStdf s (effectiveAddress s rs1 op2)
    let s ← storeAt s (implicitAsi s) (effectiveAddress s rs1 op2) 8 (getFD s rd)
    return advance s

/-- STQF (rule R848). Not executed by hardware (rule R833). -/
def execStqf (_rd : BitVec 5) (_rs1 : BitVec 5) (_op2 : RegOrImm13) (s : State) : Run := trapTo s .illegalInstruction

/-- STXFSR (rule R847). -/
def execStxfsr (rs1 : BitVec 5) (op2 : RegOrImm13) (s : State) : Run :=
  complete do
    requireFpu s
    requireAligned s (effectiveAddress s rs1 op2) 8
    let s ← storeAt s (implicitAsi s) (effectiveAddress s rs1 op2) 8 (fsrBits s.fsr)
    return advance (clearFtt s)

/-- STFSR (rule R849). -/
def execStfsr (rs1 : BitVec 5) (op2 : RegOrImm13) (s : State) : Run :=
  complete do
    requireFpu s
    requireAligned s (effectiveAddress s rs1 op2) 4
    let s ← storeAt s (implicitAsi s) (effectiveAddress s rs1 op2) 4 ((fsrLowBits s.fsr).setWidth 64)
    return advance (clearFtt s)

/-- STFA (rule R850). -/
def execStfa (rd : BitVec 5) (rs1 : BitVec 5) (ea : AsiOperand) (s : State) : Run :=
  complete do
    requireFpu s
    requireAsi s .store (asiNumber s ea) (asiAddress s rs1 ea) (requireAligned s (asiAddress s rs1 ea) 4) admitsStore
    let s ← storeAt s (asiNumber s ea) (asiAddress s rs1 ea) 4 ((getFS s rd).setWidth 64)
    return advance s

/-- STDFA (rule R851). -/
def execStdfa (rd : BitVec 5) (rs1 : BitVec 5) (ea : AsiOperand) (s : State) : Run :=
  complete do
    let s ← storeDoubleTo s rd rs1 ea
    return advance s

/-- STQFA (rule R855). Not executed by hardware (rule R833). -/
def execStqfa (_rd : BitVec 5) (_rs1 : BitVec 5) (_ea : AsiOperand) (s : State) : Run := trapTo s .illegalInstruction

/-- STBLOCKF (rule R852). -/
def execStblockf (rd : BitVec 5) (rs1 : BitVec 5) (rs2 : BitVec 5) (asi : BitVec 8) (s : State) : Run :=
  complete do
    let s ← runBlockStore s asi (getR s rs1 + getR s rs2) rd
    return advance s

/-- STSHORTF (rule R853). Not executed by hardware. -/
def execStshortf (_rd : BitVec 5) (rs1 : BitVec 5) (rs2 : BitVec 5) (asi : BitVec 8) (s : State) : Run :=
  complete do
    requireFpu s
    shortTransfer s .store asi (getR s rs1 + getR s rs2)

/-- STPARTIALF (rule R854). Not executed by hardware. -/
def execStpartialf (_rd : BitVec 5) (rs1 : BitVec 5) (_rs2 : BitVec 5) (asi : BitVec 8) (s : State) : Run :=
  complete (partialStore s asi (getR s rs1))

end Sys2Proof.Machine
end

