-- ==== Sys2Proof/Machine/Integer.lean ====
section
/-! DEFINITION. The meanings of spec/40_integer.md: arithmetic, logic, shifts, multiply and divide, tagged arithmetic, SETHI, NOP,
POPC and the conditional moves. -/

namespace Sys2Proof.Machine

/-! ### Shared operations -/

/-- R[rd] <- v and nothing else. -/
def writeR (s : State) (rd : BitVec 5) (v : DWord) : Run := .next (advance (setR s rd v))

/-- R[rd] <- v; CCR <- c. -/
def writeRC (s : State) (rd : BitVec 5) (v : DWord) (c : Ccr) : Run := .next (advance (setCcr (setR s rd v) c))

/-- R[rd] <- v; Y <- the upper word of v (rules R503, R504). -/
def writeRY (s : State) (rd : BitVec 5) (v : DWord) : State := setY (setR s rd v) (v.extractLsb' 32 32)

/-- CCR.icc.c as a 64-bit addend (rules R476, R492). -/
def carryIn (s : State) : DWord := (bit s.ccr.icc.c).setWidth 64

/-- The 64-bit product of the low words as unsigned integers (rule R503). -/
def umulProduct (a b : DWord) : DWord := (lo32 a).setWidth 64 * (lo32 b).setWidth 64

/-- The 64-bit product of the low words as signed integers (rule R504). -/
def smulProduct (a b : DWord) : DWord := (lo32 a).signExtend 64 * (lo32 b).signExtend 64

/-- The result of UDIV and whether the quotient overflowed (rule R507). -/
def udivResult (y : Word) (a b : DWord) : DWord × Bool :=
  let q := (y ++ lo32 a).toNat / (lo32 b).toNat
  if 2 ^ 32 ≤ q then (0xFFFFFFFF, true) else (BitVec.ofNat 64 q, false)

/-- The result of SDIV and whether the quotient overflowed (rule R508). -/
def sdivResult (y : Word) (a b : DWord) : DWord × Bool :=
  let q := Int.tdiv (y ++ lo32 a).toInt (lo32 b).toInt
  if 2 ^ 31 ≤ q then (0x7FFFFFFF, true)
  else if q ≤ -(2 ^ 31) - 1 then (0xFFFFFFFF80000000, true) else (BitVec.ofInt 64 q, false)

/-- After a 64-bit by 32-bit divide Y is undefined: it takes a free value (rules R507, R1462 U11). -/
def writeRFreeY (s : State) (rd : BitVec 5) (v : DWord) : State := drawn (setY (setR s rd v) (lo32 (freeValue s)))

/-- MULScc's 32-bit shifted multiplicand term `s` (rule R511). -/
def mulStepA (s : State) (a : DWord) : Word := bit (s.ccr.icc.n != s.ccr.icc.v) ++ a.extractLsb' 1 31

/-- MULScc's addend (rule R511). -/
def mulStepB (s : State) (b : DWord) : Word := if flagAt s.y 0 then lo32 b else 0

/-- R[rd] <- v where the condition holds. -/
def moveIf (s : State) (rd : BitVec 5) (t : Bool) (v : DWord) : Run := .next (advance (if t then setR s rd v else s))

/-- MOVcc on a floating-point condition code (rule R519): fp_disabled where the FPU is off. -/
def moveIfFcc (s : State) (rd : BitVec 5) (cond : BitVec 4) (cc : BitVec 2) (v : DWord) : Run :=
  if fpuEnabled s then moveIf s rd (fcond cond (fsrFcc s.fsr cc)) v else trapTo s .fpDisabled

/-! ### Arithmetic and logic -/

/-- ADD (rule R474). -/
def execAdd (rd : BitVec 5) (rs1 : BitVec 5) (op2 : RegOrImm13) (s : State) : Run :=
  writeR s rd (getR s rs1 + src2 s op2)

/-- ADDcc (rule R475). -/
def execAddcc (rd : BitVec 5) (rs1 : BitVec 5) (op2 : RegOrImm13) (s : State) : Run :=
  writeRC s rd (getR s rs1 + src2 s op2) (addCcr (getR s rs1) (src2 s op2) false)

/-- AND (rule R478). -/
def execAnd (rd : BitVec 5) (rs1 : BitVec 5) (op2 : RegOrImm13) (s : State) : Run :=
  writeR s rd (getR s rs1 &&& src2 s op2)

/-- ANDcc (rule R479). -/
def execAndcc (rd : BitVec 5) (rs1 : BitVec 5) (op2 : RegOrImm13) (s : State) : Run :=
  writeRC s rd (getR s rs1 &&& src2 s op2) (logicCcr (getR s rs1 &&& src2 s op2))

/-- OR (rule R482). -/
def execOr (rd : BitVec 5) (rs1 : BitVec 5) (op2 : RegOrImm13) (s : State) : Run :=
  writeR s rd (getR s rs1 ||| src2 s op2)

/-- ORcc (rule R483). -/
def execOrcc (rd : BitVec 5) (rs1 : BitVec 5) (op2 : RegOrImm13) (s : State) : Run :=
  writeRC s rd (getR s rs1 ||| src2 s op2) (logicCcr (getR s rs1 ||| src2 s op2))

/-- XOR (rule R486). -/
def execXor (rd : BitVec 5) (rs1 : BitVec 5) (op2 : RegOrImm13) (s : State) : Run :=
  writeR s rd (getR s rs1 ^^^ src2 s op2)

/-- XORcc (rule R487). -/
def execXorcc (rd : BitVec 5) (rs1 : BitVec 5) (op2 : RegOrImm13) (s : State) : Run :=
  writeRC s rd (getR s rs1 ^^^ src2 s op2) (logicCcr (getR s rs1 ^^^ src2 s op2))

/-- ANDN (rule R480). -/
def execAndn (rd : BitVec 5) (rs1 : BitVec 5) (op2 : RegOrImm13) (s : State) : Run :=
  writeR s rd (getR s rs1 &&& ~~~(src2 s op2))

/-- ANDNcc (rule R481). -/
def execAndncc (rd : BitVec 5) (rs1 : BitVec 5) (op2 : RegOrImm13) (s : State) : Run :=
  writeRC s rd (getR s rs1 &&& ~~~(src2 s op2)) (logicCcr (getR s rs1 &&& ~~~(src2 s op2)))

/-- ORN (rule R484). -/
def execOrn (rd : BitVec 5) (rs1 : BitVec 5) (op2 : RegOrImm13) (s : State) : Run :=
  writeR s rd (getR s rs1 ||| ~~~(src2 s op2))

/-- ORNcc (rule R485). -/
def execOrncc (rd : BitVec 5) (rs1 : BitVec 5) (op2 : RegOrImm13) (s : State) : Run :=
  writeRC s rd (getR s rs1 ||| ~~~(src2 s op2)) (logicCcr (getR s rs1 ||| ~~~(src2 s op2)))

/-- XNOR (rule R488). -/
def execXnor (rd : BitVec 5) (rs1 : BitVec 5) (op2 : RegOrImm13) (s : State) : Run :=
  writeR s rd (~~~(getR s rs1 ^^^ src2 s op2))

/-- XNORcc (rule R489). -/
def execXnorcc (rd : BitVec 5) (rs1 : BitVec 5) (op2 : RegOrImm13) (s : State) : Run :=
  writeRC s rd (~~~(getR s rs1 ^^^ src2 s op2)) (logicCcr (~~~(getR s rs1 ^^^ src2 s op2)))

/-- SUB (rule R490). -/
def execSub (rd : BitVec 5) (rs1 : BitVec 5) (op2 : RegOrImm13) (s : State) : Run :=
  writeR s rd (getR s rs1 - src2 s op2)

/-- SUBcc (rule R491). -/
def execSubcc (rd : BitVec 5) (rs1 : BitVec 5) (op2 : RegOrImm13) (s : State) : Run :=
  writeRC s rd (getR s rs1 - src2 s op2) (subCcr (getR s rs1) (src2 s op2) false)

/-- ADDC (rule R476). -/
def execAddc (rd : BitVec 5) (rs1 : BitVec 5) (op2 : RegOrImm13) (s : State) : Run :=
  writeR s rd (getR s rs1 + src2 s op2 + carryIn s)

/-- ADDCcc (rule R477). -/
def execAddccc (rd : BitVec 5) (rs1 : BitVec 5) (op2 : RegOrImm13) (s : State) : Run :=
  writeRC s rd (getR s rs1 + src2 s op2 + carryIn s) (addCcr (getR s rs1) (src2 s op2) s.ccr.icc.c)

/-- SUBC (rule R492). -/
def execSubc (rd : BitVec 5) (rs1 : BitVec 5) (op2 : RegOrImm13) (s : State) : Run :=
  writeR s rd (getR s rs1 - src2 s op2 - carryIn s)

/-- SUBCcc (rule R493). -/
def execSubccc (rd : BitVec 5) (rs1 : BitVec 5) (op2 : RegOrImm13) (s : State) : Run :=
  writeRC s rd (getR s rs1 - src2 s op2 - carryIn s) (subCcr (getR s rs1) (src2 s op2) s.ccr.icc.c)

/-- MULX (rule R500). -/
def execMulx (rd : BitVec 5) (rs1 : BitVec 5) (op2 : RegOrImm13) (s : State) : Run :=
  writeR s rd (getR s rs1 * src2 s op2)

/-- SDIVX (rule R501). -/
def execSdivx (rd : BitVec 5) (rs1 : BitVec 5) (op2 : RegOrImm13) (s : State) : Run :=
  if src2 s op2 = 0 then trapTo s .divisionByZero
  else writeR s rd (BitVec.ofInt 64 (Int.tdiv (getR s rs1).toInt (src2 s op2).toInt))

/-- UDIVX (rule R502). -/
def execUdivx (rd : BitVec 5) (rs1 : BitVec 5) (op2 : RegOrImm13) (s : State) : Run :=
  if src2 s op2 = 0 then trapTo s .divisionByZero else writeR s rd (getR s rs1 / src2 s op2)

/-- UMUL (rule R503). -/
def execUmul (rd : BitVec 5) (rs1 : BitVec 5) (op2 : RegOrImm13) (s : State) : Run :=
  .next (advance (writeRY s rd (umulProduct (getR s rs1) (src2 s op2))))

/-- UMULcc (rule R505). -/
def execUmulcc (rd : BitVec 5) (rs1 : BitVec 5) (op2 : RegOrImm13) (s : State) : Run :=
  .next (advance (setCcr (writeRY s rd (umulProduct (getR s rs1) (src2 s op2))) (logicCcr (umulProduct (getR s rs1) (src2 s op2)))))

/-- SMUL (rule R504). -/
def execSmul (rd : BitVec 5) (rs1 : BitVec 5) (op2 : RegOrImm13) (s : State) : Run :=
  .next (advance (writeRY s rd (smulProduct (getR s rs1) (src2 s op2))))

/-- SMULcc (rule R506). -/
def execSmulcc (rd : BitVec 5) (rs1 : BitVec 5) (op2 : RegOrImm13) (s : State) : Run :=
  .next (advance (setCcr (writeRY s rd (smulProduct (getR s rs1) (src2 s op2))) (logicCcr (smulProduct (getR s rs1) (src2 s op2)))))

/-- UDIV (rule R507). -/
def execUdiv (rd : BitVec 5) (rs1 : BitVec 5) (op2 : RegOrImm13) (s : State) : Run :=
  if lo32 (src2 s op2) = 0 then trapTo s .divisionByZero
  else .next (advance (writeRFreeY s rd (udivResult s.y (getR s rs1) (src2 s op2)).1))

/-- UDIVcc (rule R509). -/
def execUdivcc (rd : BitVec 5) (rs1 : BitVec 5) (op2 : RegOrImm13) (s : State) : Run :=
  if lo32 (src2 s op2) = 0 then trapTo s .divisionByZero
  else .next (advance (setCcr (writeRFreeY s rd (udivResult s.y (getR s rs1) (src2 s op2)).1)
    (divCcr (udivResult s.y (getR s rs1) (src2 s op2)).1 (udivResult s.y (getR s rs1) (src2 s op2)).2)))

/-- SDIV (rule R508). -/
def execSdiv (rd : BitVec 5) (rs1 : BitVec 5) (op2 : RegOrImm13) (s : State) : Run :=
  if lo32 (src2 s op2) = 0 then trapTo s .divisionByZero
  else .next (advance (writeRFreeY s rd (sdivResult s.y (getR s rs1) (src2 s op2)).1))

/-- SDIVcc (rule R510). -/
def execSdivcc (rd : BitVec 5) (rs1 : BitVec 5) (op2 : RegOrImm13) (s : State) : Run :=
  if lo32 (src2 s op2) = 0 then trapTo s .divisionByZero
  else .next (advance (setCcr (writeRFreeY s rd (sdivResult s.y (getR s rs1) (src2 s op2)).1)
    (divCcr (sdivResult s.y (getR s rs1) (src2 s op2)).1 (sdivResult s.y (getR s rs1) (src2 s op2)).2)))

/-- MULScc (rule R511). The upper word of R[rd] and xcc are undefined: free values. -/
def execMulscc (rd : BitVec 5) (rs1 : BitVec 5) (op2 : RegOrImm13) (s : State) : Run :=
  let a := getR s rs1
  let x := mulStepA s a
  let m := mulStepB s (src2 s op2)
  let free := freeValue s
  .next (advance (drawn (setCcr (setY (setR s rd (free.extractLsb' 0 32 ++ (x + m))) (a.extractLsb' 0 1 ++ s.y.extractLsb' 1 31))
    { xcc := ccOfBits (free.extractLsb' 32 4), icc := addCC x m false })))

/-- TADDcc (rule R512). -/
def execTaddcc (rd : BitVec 5) (rs1 : BitVec 5) (op2 : RegOrImm13) (s : State) : Run :=
  writeRC s rd (getR s rs1 + src2 s op2) (withTagOverflow (addCcr (getR s rs1) (src2 s op2) false) (tagOverflowAdd (getR s rs1) (src2 s op2)))

/-- TADDccTV (rule R513). -/
def execTaddcctv (rd : BitVec 5) (rs1 : BitVec 5) (op2 : RegOrImm13) (s : State) : Run :=
  if tagOverflowAdd (getR s rs1) (src2 s op2) then trapTo s .tagOverflow
  else writeRC s rd (getR s rs1 + src2 s op2) (withTagOverflow (addCcr (getR s rs1) (src2 s op2) false) false)

/-- TSUBcc (rule R514). -/
def execTsubcc (rd : BitVec 5) (rs1 : BitVec 5) (op2 : RegOrImm13) (s : State) : Run :=
  writeRC s rd (getR s rs1 - src2 s op2) (withTagOverflow (subCcr (getR s rs1) (src2 s op2) false) (tagOverflowSub (getR s rs1) (src2 s op2)))

/-- TSUBccTV (rule R515). -/
def execTsubcctv (rd : BitVec 5) (rs1 : BitVec 5) (op2 : RegOrImm13) (s : State) : Run :=
  if tagOverflowSub (getR s rs1) (src2 s op2) then trapTo s .tagOverflow
  else writeRC s rd (getR s rs1 - src2 s op2) (withTagOverflow (subCcr (getR s rs1) (src2 s op2) false) false)

/-! ### Shifts -/

/-- SLL (rule R494). -/
def execSll (rd : BitVec 5) (rs1 : BitVec 5) (count : Count32) (s : State) : Run :=
  writeR s rd (getR s rs1 <<< count32 s count)

/-- SLLX (rule R497). -/
def execSllx (rd : BitVec 5) (rs1 : BitVec 5) (count : Count64) (s : State) : Run :=
  writeR s rd (getR s rs1 <<< count64 s count)

/-- SRL (rule R495). -/
def execSrl (rd : BitVec 5) (rs1 : BitVec 5) (count : Count32) (s : State) : Run :=
  writeR s rd ((lo32 (getR s rs1) >>> count32 s count).setWidth 64)

/-- SRLX (rule R498). -/
def execSrlx (rd : BitVec 5) (rs1 : BitVec 5) (count : Count64) (s : State) : Run :=
  writeR s rd (getR s rs1 >>> count64 s count)

/-- SRA (rule R496). -/
def execSra (rd : BitVec 5) (rs1 : BitVec 5) (count : Count32) (s : State) : Run :=
  writeR s rd (((lo32 (getR s rs1)).sshiftRight (count32 s count)).signExtend 64)

/-- SRAX (rule R499). -/
def execSrax (rd : BitVec 5) (rs1 : BitVec 5) (count : Count64) (s : State) : Run :=
  writeR s rd ((getR s rs1).sshiftRight (count64 s count))

/-! ### SETHI, NOP, POPC -/

/-- SETHI (rule R516). -/
def execSethi (rd : BitVec 5) (imm22 : BitVec 22) (s : State) : Run := writeR s rd ((imm22 ++ 0#10).setWidth 64)

/-- NOP (rule R517). -/
def execNop (s : State) : Run := .next (advance s)

/-- POPC (rule R518). Not implemented in hardware: emulated after illegal_instruction. -/
def execPopc (_rd : BitVec 5) (_op2 : RegOrImm13) (s : State) : Run := trapTo s .illegalInstruction

/-! ### Conditional moves -/

/-- MOVA (rule R520). -/
def execMova (rd : BitVec 5) (cc : IccSelect) (op2 : RegOrImm11) (s : State) : Run :=
  moveIf s rd (icond 8 (selectCC s cc)) (src11 s op2)

/-- MOVN (rule R521). -/
def execMovn (rd : BitVec 5) (cc : IccSelect) (op2 : RegOrImm11) (s : State) : Run :=
  moveIf s rd (icond 0 (selectCC s cc)) (src11 s op2)

/-- MOVNE (rule R522). -/
def execMovne (rd : BitVec 5) (cc : IccSelect) (op2 : RegOrImm11) (s : State) : Run :=
  moveIf s rd (icond 9 (selectCC s cc)) (src11 s op2)

/-- MOVE (rule R523). -/
def execMove (rd : BitVec 5) (cc : IccSelect) (op2 : RegOrImm11) (s : State) : Run :=
  moveIf s rd (icond 1 (selectCC s cc)) (src11 s op2)

/-- MOVG (rule R524). -/
def execMovg (rd : BitVec 5) (cc : IccSelect) (op2 : RegOrImm11) (s : State) : Run :=
  moveIf s rd (icond 10 (selectCC s cc)) (src11 s op2)

/-- MOVLE (rule R525). -/
def execMovle (rd : BitVec 5) (cc : IccSelect) (op2 : RegOrImm11) (s : State) : Run :=
  moveIf s rd (icond 2 (selectCC s cc)) (src11 s op2)

/-- MOVGE (rule R526). -/
def execMovge (rd : BitVec 5) (cc : IccSelect) (op2 : RegOrImm11) (s : State) : Run :=
  moveIf s rd (icond 11 (selectCC s cc)) (src11 s op2)

/-- MOVL (rule R527). -/
def execMovl (rd : BitVec 5) (cc : IccSelect) (op2 : RegOrImm11) (s : State) : Run :=
  moveIf s rd (icond 3 (selectCC s cc)) (src11 s op2)

/-- MOVGU (rule R528). -/
def execMovgu (rd : BitVec 5) (cc : IccSelect) (op2 : RegOrImm11) (s : State) : Run :=
  moveIf s rd (icond 12 (selectCC s cc)) (src11 s op2)

/-- MOVLEU (rule R529). -/
def execMovleu (rd : BitVec 5) (cc : IccSelect) (op2 : RegOrImm11) (s : State) : Run :=
  moveIf s rd (icond 4 (selectCC s cc)) (src11 s op2)

/-- MOVCC (rule R530). -/
def execMovcc (rd : BitVec 5) (cc : IccSelect) (op2 : RegOrImm11) (s : State) : Run :=
  moveIf s rd (icond 13 (selectCC s cc)) (src11 s op2)

/-- MOVCS (rule R531). -/
def execMovcs (rd : BitVec 5) (cc : IccSelect) (op2 : RegOrImm11) (s : State) : Run :=
  moveIf s rd (icond 5 (selectCC s cc)) (src11 s op2)

/-- MOVPOS (rule R532). -/
def execMovpos (rd : BitVec 5) (cc : IccSelect) (op2 : RegOrImm11) (s : State) : Run :=
  moveIf s rd (icond 14 (selectCC s cc)) (src11 s op2)

/-- MOVNEG (rule R533). -/
def execMovneg (rd : BitVec 5) (cc : IccSelect) (op2 : RegOrImm11) (s : State) : Run :=
  moveIf s rd (icond 6 (selectCC s cc)) (src11 s op2)

/-- MOVVC (rule R534). -/
def execMovvc (rd : BitVec 5) (cc : IccSelect) (op2 : RegOrImm11) (s : State) : Run :=
  moveIf s rd (icond 15 (selectCC s cc)) (src11 s op2)

/-- MOVVS (rule R535). -/
def execMovvs (rd : BitVec 5) (cc : IccSelect) (op2 : RegOrImm11) (s : State) : Run :=
  moveIf s rd (icond 7 (selectCC s cc)) (src11 s op2)

/-- MOVFA (rule R536). -/
def execMovfa (rd : BitVec 5) (cc : BitVec 2) (op2 : RegOrImm11) (s : State) : Run :=
  moveIfFcc s rd 8 cc (src11 s op2)

/-- MOVFN (rule R537). -/
def execMovfn (rd : BitVec 5) (cc : BitVec 2) (op2 : RegOrImm11) (s : State) : Run :=
  moveIfFcc s rd 0 cc (src11 s op2)

/-- MOVFU (rule R538). -/
def execMovfu (rd : BitVec 5) (cc : BitVec 2) (op2 : RegOrImm11) (s : State) : Run :=
  moveIfFcc s rd 7 cc (src11 s op2)

/-- MOVFG (rule R539). -/
def execMovfg (rd : BitVec 5) (cc : BitVec 2) (op2 : RegOrImm11) (s : State) : Run :=
  moveIfFcc s rd 6 cc (src11 s op2)

/-- MOVFUG (rule R540). -/
def execMovfug (rd : BitVec 5) (cc : BitVec 2) (op2 : RegOrImm11) (s : State) : Run :=
  moveIfFcc s rd 5 cc (src11 s op2)

/-- MOVFL (rule R541). -/
def execMovfl (rd : BitVec 5) (cc : BitVec 2) (op2 : RegOrImm11) (s : State) : Run :=
  moveIfFcc s rd 4 cc (src11 s op2)

/-- MOVFUL (rule R542). -/
def execMovful (rd : BitVec 5) (cc : BitVec 2) (op2 : RegOrImm11) (s : State) : Run :=
  moveIfFcc s rd 3 cc (src11 s op2)

/-- MOVFLG (rule R543). -/
def execMovflg (rd : BitVec 5) (cc : BitVec 2) (op2 : RegOrImm11) (s : State) : Run :=
  moveIfFcc s rd 2 cc (src11 s op2)

/-- MOVFNE (rule R544). -/
def execMovfne (rd : BitVec 5) (cc : BitVec 2) (op2 : RegOrImm11) (s : State) : Run :=
  moveIfFcc s rd 1 cc (src11 s op2)

/-- MOVFE (rule R545). -/
def execMovfe (rd : BitVec 5) (cc : BitVec 2) (op2 : RegOrImm11) (s : State) : Run :=
  moveIfFcc s rd 9 cc (src11 s op2)

/-- MOVFUE (rule R546). -/
def execMovfue (rd : BitVec 5) (cc : BitVec 2) (op2 : RegOrImm11) (s : State) : Run :=
  moveIfFcc s rd 10 cc (src11 s op2)

/-- MOVFGE (rule R547). -/
def execMovfge (rd : BitVec 5) (cc : BitVec 2) (op2 : RegOrImm11) (s : State) : Run :=
  moveIfFcc s rd 11 cc (src11 s op2)

/-- MOVFUGE (rule R548). -/
def execMovfuge (rd : BitVec 5) (cc : BitVec 2) (op2 : RegOrImm11) (s : State) : Run :=
  moveIfFcc s rd 12 cc (src11 s op2)

/-- MOVFLE (rule R549). -/
def execMovfle (rd : BitVec 5) (cc : BitVec 2) (op2 : RegOrImm11) (s : State) : Run :=
  moveIfFcc s rd 13 cc (src11 s op2)

/-- MOVFULE (rule R550). -/
def execMovfule (rd : BitVec 5) (cc : BitVec 2) (op2 : RegOrImm11) (s : State) : Run :=
  moveIfFcc s rd 14 cc (src11 s op2)

/-- MOVFO (rule R551). -/
def execMovfo (rd : BitVec 5) (cc : BitVec 2) (op2 : RegOrImm11) (s : State) : Run :=
  moveIfFcc s rd 15 cc (src11 s op2)

/-- MOVRZ (rule R553). -/
def execMovrz (rd : BitVec 5) (rs1 : BitVec 5) (op2 : RegOrImm10) (s : State) : Run :=
  moveIf s rd (rtest 1 (getR s rs1)) (src10 s op2)

/-- MOVRLEZ (rule R554). -/
def execMovrlez (rd : BitVec 5) (rs1 : BitVec 5) (op2 : RegOrImm10) (s : State) : Run :=
  moveIf s rd (rtest 2 (getR s rs1)) (src10 s op2)

/-- MOVRLZ (rule R555). -/
def execMovrlz (rd : BitVec 5) (rs1 : BitVec 5) (op2 : RegOrImm10) (s : State) : Run :=
  moveIf s rd (rtest 3 (getR s rs1)) (src10 s op2)

/-- MOVRNZ (rule R556). -/
def execMovrnz (rd : BitVec 5) (rs1 : BitVec 5) (op2 : RegOrImm10) (s : State) : Run :=
  moveIf s rd (rtest 5 (getR s rs1)) (src10 s op2)

/-- MOVRGZ (rule R557). -/
def execMovrgz (rd : BitVec 5) (rs1 : BitVec 5) (op2 : RegOrImm10) (s : State) : Run :=
  moveIf s rd (rtest 6 (getR s rs1)) (src10 s op2)

/-- MOVRGEZ (rule R558). -/
def execMovrgez (rd : BitVec 5) (rs1 : BitVec 5) (op2 : RegOrImm10) (s : State) : Run :=
  moveIf s rd (rtest 7 (getR s rs1)) (src10 s op2)

end Sys2Proof.Machine
end

