-- ==== Sys2Proof/Machine/LoadStore.lean ====
section
/-! DEFINITION. The meanings of spec/42_load_store.md: integer loads, stores and atomics, prefetch, barriers and FLUSH. -/

namespace Sys2Proof.Machine

/-! ### Shared operations -/

/-- The ASI an LDTXA really uses: 0x24 and 0x2C are the old numbers of 0x27 and 0x2F (rules R351, R752). -/
def twinAsi (asi : Byte) : Byte := if asi = 0x24 then 0x27 else if asi = 0x2C then 0x2F else asi

/-- The low word of a value, zero-extended. -/
def word64 (v : DWord) : DWord := (v.extractLsb' 0 32).setWidth 64

/-- A reserved `prefetch_fcn` (rule R775). -/
def prefetchReserved (fcn : BitVec 5) : Bool := decide (5 ≤ fcn.toNat) && decide (fcn.toNat ≤ 15)

/-- PREFETCH and PREFETCHA: illegal_instruction for a reserved function, else no architectural effect (rule R775,
decision D7). -/
def prefetchHint (s : State) (fcn : BitVec 5) : Run :=
  if prefetchReserved fcn then trapTo s .illegalInstruction else .next (advance s)

/-- A twin instruction whose `rd` is odd. -/
def oddRd (rd : BitVec 5) : Bool := flagAt rd 0

/-- CASA's and CASXA's store: the swap value where the old value equals the comparison value (rule R770). -/
def swapIfEqual (expected new old : DWord) : Option DWord := if old = expected then some new else none

/-! ### Loads -/

/-- LDSB (rule R740). -/
def execLdsb (rd : BitVec 5) (rs1 : BitVec 5) (op2 : RegOrImm13) (s : State) : Run :=
  loadR s rd rs1 op2 1 (fun v => (v.extractLsb' 0 8).signExtend 64)

/-- LDSH (rule R741). -/
def execLdsh (rd : BitVec 5) (rs1 : BitVec 5) (op2 : RegOrImm13) (s : State) : Run :=
  loadR s rd rs1 op2 2 (fun v => (v.extractLsb' 0 16).signExtend 64)

/-- LDSW (rule R742). -/
def execLdsw (rd : BitVec 5) (rs1 : BitVec 5) (op2 : RegOrImm13) (s : State) : Run :=
  loadR s rd rs1 op2 4 (fun v => (v.extractLsb' 0 32).signExtend 64)

/-- LDUB (rule R743). -/
def execLdub (rd : BitVec 5) (rs1 : BitVec 5) (op2 : RegOrImm13) (s : State) : Run := loadR s rd rs1 op2 1 id

/-- LDUH (rule R744). -/
def execLduh (rd : BitVec 5) (rs1 : BitVec 5) (op2 : RegOrImm13) (s : State) : Run := loadR s rd rs1 op2 2 id

/-- LDUW (rule R745). -/
def execLduw (rd : BitVec 5) (rs1 : BitVec 5) (op2 : RegOrImm13) (s : State) : Run := loadR s rd rs1 op2 4 id

/-- LDX (rule R746). -/
def execLdx (rd : BitVec 5) (rs1 : BitVec 5) (op2 : RegOrImm13) (s : State) : Run := loadR s rd rs1 op2 8 id

/-- LDSBA (rule R747). -/
def execLdsba (rd : BitVec 5) (rs1 : BitVec 5) (ea : AsiOperand) (s : State) : Run :=
  loadAlternateR s rd rs1 ea 1 (fun v => (v.extractLsb' 0 8).signExtend 64)

/-- LDSHA (rule R747). -/
def execLdsha (rd : BitVec 5) (rs1 : BitVec 5) (ea : AsiOperand) (s : State) : Run :=
  loadAlternateR s rd rs1 ea 2 (fun v => (v.extractLsb' 0 16).signExtend 64)

/-- LDSWA (rule R747). -/
def execLdswa (rd : BitVec 5) (rs1 : BitVec 5) (ea : AsiOperand) (s : State) : Run :=
  loadAlternateR s rd rs1 ea 4 (fun v => (v.extractLsb' 0 32).signExtend 64)

/-- LDUBA (rule R747). -/
def execLduba (rd : BitVec 5) (rs1 : BitVec 5) (ea : AsiOperand) (s : State) : Run := loadAlternateR s rd rs1 ea 1 id

/-- LDUHA (rule R747). -/
def execLduha (rd : BitVec 5) (rs1 : BitVec 5) (ea : AsiOperand) (s : State) : Run := loadAlternateR s rd rs1 ea 2 id

/-- LDUWA (rule R747). -/
def execLduwa (rd : BitVec 5) (rs1 : BitVec 5) (ea : AsiOperand) (s : State) : Run := loadAlternateR s rd rs1 ea 4 id

/-- LDXA (rule R747). -/
def execLdxa (rd : BitVec 5) (rs1 : BitVec 5) (ea : AsiOperand) (s : State) : Run :=
  complete do
    let r ← loadAlternate8 s (asiNumber s ea) (asiAddress s rs1 ea) (requireAligned s (asiAddress s rs1 ea) 8)
    return advance (setR r.2 rd r.1)

/-- LDTW (rule R750). -/
def execLdtw (rd : BitVec 5) (rs1 : BitVec 5) (op2 : RegOrImm13) (s : State) : Run :=
  if oddRd rd then trapTo s .illegalInstruction
  else complete do
    requireAligned s (effectiveAddress s rs1 op2) 8
    let s := walked s .load (implicitAsi s) (effectiveAddress s rs1 op2)
    let v ← loadPair s (implicitAsi s) (effectiveAddress s rs1 op2)
    return advance (setPair s rd v)

/-- LDTWA (rule R751). An LDTX ASI in the ASI register raises data_access_exception
(decision D5). -/
def execLdtwa (rd : BitVec 5) (rs1 : BitVec 5) (ea : AsiOperand) (s : State) : Run :=
  if oddRd rd then trapTo s .illegalInstruction
  else complete do
    requireAsi s .load (asiNumber s ea) (asiAddress s rs1 ea) (requireAligned s (asiAddress s rs1 ea) 8) admitsLoad
    let s := walked s .load (asiNumber s ea) (asiAddress s rs1 ea)
    let v ← loadPair s (asiNumber s ea) (asiAddress s rs1 ea)
    return advance (setPair s rd v)

/-- LDTXA (rule R752). -/
def execLdtxa (rd : BitVec 5) (rs1 : BitVec 5) (rs2 : BitVec 5) (asi : BitVec 8) (s : State) : Run :=
  if oddRd rd then trapTo s .illegalInstruction
  else complete do
    requireAligned s (getR s rs1 + getR s rs2) 16
    requirePermitted s (twinAsi asi) (getR s rs1 + getR s rs2)
    let s := walked s .load (twinAsi asi) (getR s rs1 + getR s rs2)
    let d0 ← loadTwinAt s (twinAsi asi) (getR s rs1 + getR s rs2)
    let d1 ← loadTwinAt s (twinAsi asi) (getR s rs1 + getR s rs2 + 8)
    return advance (setPair s rd (d0, d1))

/-! ### Stores -/

/-- STB (rule R755). -/
def execStb (rd : BitVec 5) (rs1 : BitVec 5) (op2 : RegOrImm13) (s : State) : Run := storeR s rd rs1 op2 1

/-- STH (rule R756). -/
def execSth (rd : BitVec 5) (rs1 : BitVec 5) (op2 : RegOrImm13) (s : State) : Run := storeR s rd rs1 op2 2

/-- STW (rule R757). -/
def execStw (rd : BitVec 5) (rs1 : BitVec 5) (op2 : RegOrImm13) (s : State) : Run := storeR s rd rs1 op2 4

/-- STX (rule R758). -/
def execStx (rd : BitVec 5) (rs1 : BitVec 5) (op2 : RegOrImm13) (s : State) : Run := storeR s rd rs1 op2 8

/-- STBA (rule R759). -/
def execStba (rd : BitVec 5) (rs1 : BitVec 5) (ea : AsiOperand) (s : State) : Run := storeAlternateR s rd rs1 ea 1

/-- STHA (rule R759). -/
def execStha (rd : BitVec 5) (rs1 : BitVec 5) (ea : AsiOperand) (s : State) : Run := storeAlternateR s rd rs1 ea 2

/-- STWA (rule R759). -/
def execStwa (rd : BitVec 5) (rs1 : BitVec 5) (ea : AsiOperand) (s : State) : Run := storeAlternateR s rd rs1 ea 4

/-- STXA (rule R759). -/
def execStxa (rd : BitVec 5) (rs1 : BitVec 5) (ea : AsiOperand) (s : State) : Run :=
  complete do
    let s ← storeAlternate8 s (asiNumber s ea) (asiAddress s rs1 ea) (getR s rd)
      (requireAligned s (asiAddress s rs1 ea) 8)
    return advance s

/-- STTW (rule R760). -/
def execSttw (rd : BitVec 5) (rs1 : BitVec 5) (op2 : RegOrImm13) (s : State) : Run :=
  if oddRd rd then trapTo s .illegalInstruction
  else complete do
    requireAligned s (effectiveAddress s rs1 op2) 8
    let s ← storePair s (implicitAsi s) (effectiveAddress s rs1 op2) (getR s rd) (getR s (rd + 1))
    return advance s

/-- STTWA (rule R761). -/
def execSttwa (rd : BitVec 5) (rs1 : BitVec 5) (ea : AsiOperand) (s : State) : Run :=
  if oddRd rd then trapTo s .illegalInstruction
  else complete do
    requireAsi s .store (asiNumber s ea) (asiAddress s rs1 ea) (requireAligned s (asiAddress s rs1 ea) 8) admitsStore
    let s ← storePair s (asiNumber s ea) (asiAddress s rs1 ea) (getR s rd) (getR s (rd + 1))
    return advance s

/-! ### Atomic load-stores -/

/-- LDSTUB (rule R766). -/
def execLdstub (rd : BitVec 5) (rs1 : BitVec 5) (op2 : RegOrImm13) (s : State) : Run :=
  atomicR s rd rs1 op2 1 fun _ => some 0xFF

/-- LDSTUBA (rule R767). -/
def execLdstuba (rd : BitVec 5) (rs1 : BitVec 5) (ea : AsiOperand) (s : State) : Run :=
  atomicAlternateR s rd (asiNumber s ea) (asiAddress s rs1 ea) 1 fun _ => some 0xFF

/-- SWAP (rule R768). -/
def execSwap (rd : BitVec 5) (rs1 : BitVec 5) (op2 : RegOrImm13) (s : State) : Run :=
  atomicR s rd rs1 op2 4 fun _ => some (getR s rd)

/-- SWAPA (rule R769). -/
def execSwapa (rd : BitVec 5) (rs1 : BitVec 5) (ea : AsiOperand) (s : State) : Run :=
  atomicAlternateR s rd (asiNumber s ea) (asiAddress s rs1 ea) 4 fun _ => some (getR s rd)

/-- CASA (rule R770). -/
def execCasa (rd : BitVec 5) (rs1 : BitVec 5) (rs2 : BitVec 5) (sel : AsiSelect) (s : State) : Run :=
  atomicAlternateR s rd (casAsi s sel) (getR s rs1) 4 (swapIfEqual (word64 (getR s rs2)) (getR s rd))

/-- CASXA (rule R771). -/
def execCasxa (rd : BitVec 5) (rs1 : BitVec 5) (rs2 : BitVec 5) (sel : AsiSelect) (s : State) : Run :=
  atomicAlternateR s rd (casAsi s sel) (getR s rs1) 8 (swapIfEqual (getR s rs2) (getR s rd))

/-! ### Prefetch, barriers, FLUSH -/

/-- PREFETCH (rule R775). -/
def execPrefetch (fcn : BitVec 5) (_rs1 : BitVec 5) (_op2 : RegOrImm13) (s : State) : Run := prefetchHint s fcn

/-- PREFETCHA (rule R775). -/
def execPrefetcha (fcn : BitVec 5) (_rs1 : BitVec 5) (_ea : AsiOperand) (s : State) : Run := prefetchHint s fcn

/-- MEMBAR (rule R780). One strand whose accesses complete in program order: no constraint is left to enforce
(rule R786). -/
def execMembar (_cmask : BitVec 3) (_mmask : BitVec 4) (s : State) : Run := .next (advance s)

/-- STBAR (rule R782). -/
def execStbar (s : State) : Run := .next (advance s)

/-- FLUSH (rule R785). Fetch reads the memory that stores write, so nothing is left to do (decision D8), but in a strand that has
parked itself and still runs: FLUSH completes the parking before the next instruction (rule R1408). -/
def execFlush (_rs1 : BitVec 5) (_op2 : RegOrImm13) (s : State) : Run := .next (advance (parkComplete s))

end Sys2Proof.Machine
end

