-- ==== Sys2Proof/Machine/StateRegs.lean ====
section
/-! DEFINITION. The meanings of spec/44_window_and_state_regs.md: register windows, and reading and writing the ancillary,
privileged and hyperprivileged registers. -/

namespace Sys2Proof.Machine

/-! ### Shared operations -/

/-- SAVE's window movement where no exception is raised (rule R881). -/
def nextWindow (s : State) : State :=
  { s with win :=
      { s.win with cwp := s.win.cwp + 1, cansave := s.win.cansave - 1, canrestore := s.win.canrestore + 1 } }

/-- RESTORE's window movement where no exception is raised (rule R882). -/
def lastWindow (s : State) : State :=
  { s with win :=
      { s.win with cwp := s.win.cwp - 1, cansave := s.win.cansave + 1, canrestore := s.win.canrestore - 1 } }

/-- R[rd] <- v, as an RDasr, RDPR or RDHPR does. -/
def readInto (s : State) (rd : BitVec 5) (v : DWord) : Run := .next (advance (setR s rd v))

/-- RDasr of a privileged register. -/
def readPrivileged (s : State) (rd : BitVec 5) (v : DWord) : Run :=
  if isUser s then trapTo s .privilegedOpcode else readInto s rd v

/-- The value a WRasr, WRPR or WRHPR writes: an exclusive or (rule R912). -/
def written (s : State) (rs1 : BitVec 5) (op2 : RegOrImm13) : DWord := getR s rs1 ^^^ src2 s op2

/-- WRasr of a privileged register, with the state after the write. -/
def writePrivileged (s t : State) : Run :=
  if isUser s then trapTo s .privilegedOpcode else .next (advance t)

/-- A privileged register number that RDPR and WRPR reserve (rules R930, R931). -/
def prReserved (n : BitVec 5) : Bool := n == 15 || decide (17 ≤ n.toNat)

/-- ReadPR (rule R930). -/
def readPr (s : State) (n : BitVec 5) : DWord :=
  if n = 0 then addressOfHigh62 (frameAt s s.tl).tpc
  else if n = 1 then addressOfHigh62 (frameAt s s.tl).tnpc
  else if n = 2 then tstateBits (frameAt s s.tl).tstate
  else if n = 3 then (frameAt s s.tl).tt.setWidth 64
  else if n = 4 then counterBits s.tick
  else if n = 5 then s.tba ++ 0#15
  else if n = 6 then (pstateBits s.pstate).setWidth 64
  else if n = 7 then s.tl.setWidth 64
  else if n = 8 then s.pil.setWidth 64
  else if n = 9 then s.win.cwp.setWidth 64
  else if n = 10 then s.win.cansave.setWidth 64
  else if n = 11 then s.win.canrestore.setWidth 64
  else if n = 12 then s.win.cleanwin.setWidth 64
  else if n = 13 then s.win.otherwin.setWidth 64
  else if n = 14 then (wstateBits s.win).setWidth 64
  else s.gl.setWidth 64

/-- TL as a WRPR stores it (rule R936). -/
def writtenTl (s : State) (v : DWord) : BitVec 3 :=
  if isHyper s then (if v.extractLsb' 0 3 = 7 then 6 else v.extractLsb' 0 3)
  else if 2 < (v.extractLsb' 0 3).toNat then 2 else v.extractLsb' 0 3

/-- GL as a WRPR stores it (rule R937). -/
def writtenGl (s : State) (v : DWord) : BitVec 2 :=
  if isHyper s then (if 3 < (v.extractLsb' 0 3).toNat then 3 else v.extractLsb' 0 2)
  else if 2 < (v.extractLsb' 0 3).toNat then 2 else v.extractLsb' 0 2

/-- The current trap-stack entry replaced by what `f` makes of it. -/
def updateFrame (s : State) (f : TrapFrame → TrapFrame) : State := setFrame s s.tl (f (frameAt s s.tl))

/-- WritePR (rules R932 to R938). A write of TPC or TNPC makes the frame name another place to return to, which stands in no delay
slot (DESIGN CHOICE, assumption log entry 15). -/
def writePr (s : State) (n : BitVec 5) (v : DWord) : State :=
  if n = 0 then updateFrame s fun f => { f with tpc := high62 v, delaySlot := false }
  else if n = 1 then updateFrame s fun f => { f with tnpc := high62 v, delaySlot := false }
  else if n = 2 then updateFrame s fun f => { f with tstate := tstateOfBits v }
  else if n = 3 then updateFrame s fun f => { f with tt := v.extractLsb' 0 9 }
  else if n = 4 then { s with tick := counterOfBits v }
  else if n = 5 then { s with tba := v.extractLsb' 15 49 }
  else if n = 6 then { s with pstate := pstateOfBits (v.extractLsb' 0 13) }
  else if n = 7 then { s with tl := writtenTl s v }
  else if n = 8 then { s with pil := v.extractLsb' 0 4 }
  else if n = 9 then { s with win := { s.win with cwp := v.extractLsb' 0 3 } }
  else if n = 10 then { s with win := { s.win with cansave := v.extractLsb' 0 3 } }
  else if n = 11 then { s with win := { s.win with canrestore := v.extractLsb' 0 3 } }
  else if n = 12 then { s with win := { s.win with cleanwin := v.extractLsb' 0 3 } }
  else if n = 13 then { s with win := { s.win with otherwin := v.extractLsb' 0 3 } }
  else if n = 14 then { s with win := { s.win with wother := v.extractLsb' 3 3, wnormal := v.extractLsb' 0 3 } }
  else { s with gl := writtenGl s v }

/-- A hyperprivileged register number that RDHPR reserves (rule R940). -/
def hprReserved (n : BitVec 5) : Bool := n == 2 || n == 4 || (decide (7 ≤ n.toNat) && decide (n.toNat ≤ 30))

/-- ReadHPR (rule R940). -/
def readHpr (s : State) (n : BitVec 5) : DWord :=
  if n = 0 then (hpstateBits s.hpstate).setWidth 64
  else if n = 1 then (hpstateBits (frameAt s s.tl).htstate).setWidth 64
  else if n = 3 then (bit s.hsp).setWidth 64
  else if n = 5 then s.htba ++ 0#14
  else if n = 6 then hver
  else compareBits s.hstickCmpr

/-- WriteHPR (rule R941). -/
def writeHpr (s : State) (n : BitVec 5) (v : DWord) : State :=
  if n = 0 then { s with hpstate := hpstateOfBits (v.extractLsb' 0 11) }
  else if n = 1 then updateFrame s fun f => { f with htstate := hpstateOfBits (v.extractLsb' 0 11) }
  else if n = 3 then { s with hsp := flagAt v 0 }
  else if n = 5 then { s with htba := v.extractLsb' 14 50 }
  else { s with hstickCmpr := compareOfBits v }

/-- The flag of undefined case U4 after a WRHPR of HPSTATE: set where the instruction stands in a delay slot and leaves
hyperprivileged mode or writes 0 to HPSTATE.red (rules R943, R1462). -/
def noteWrhpr (s : State) (n : BitVec 5) (v : DWord) : UndefinedCases :=
  { s.undefinedCases with
    wrhprInDelaySlot := s.undefinedCases.wrhprInDelaySlot
      || (s.delaySlot && n == 0 && !((hpstateOfBits (v.extractLsb' 0 11)).hpriv && (hpstateOfBits (v.extractLsb' 0 11)).red)) }

/-- SAVED's register-window state (rule R883, decision D15). -/
def savedWindow (w : WindowRegs) : WindowRegs :=
  if w.otherwin = 0 then { w with cansave := w.cansave + 1, canrestore := w.canrestore - 1 }
  else { w with cansave := w.cansave + 1, otherwin := w.otherwin - 1 }

/-- RESTORED's register-window state (rule R884, decision D15). -/
def restoredWindow (w : WindowRegs) : WindowRegs :=
  let clean := if w.cleanwin.toNat < 7 then w.cleanwin + 1 else w.cleanwin
  if w.otherwin = 0 then
    { w with canrestore := w.canrestore + 1, cleanwin := clean, cansave := w.cansave - 1 }
  else { w with canrestore := w.canrestore + 1, cleanwin := clean, otherwin := w.otherwin - 1 }

/-! ### Register windows -/

/-- SAVE (rule R881). -/
def execSave (rd : BitVec 5) (rs1 : BitVec 5) (op2 : RegOrImm13) (s : State) : Run :=
  if s.win.cansave = 0 then trapTo s (spillTrap s)
  else if s.win.cleanwin - s.win.canrestore = 0 then trapTo s .cleanWindow
  else .next (advance (setR (nextWindow s) rd (getR s rs1 + src2 s op2)))

/-- RESTORE (rule R882). -/
def execRestore (rd : BitVec 5) (rs1 : BitVec 5) (op2 : RegOrImm13) (s : State) : Run :=
  if s.win.canrestore = 0 then trapTo s (fillTrap s)
  else .next (advance (setR (lastWindow s) rd (getR s rs1 + src2 s op2)))

/-- SAVED (rule R883). -/
def execSaved (s : State) : Run :=
  if isUser s then trapTo s .privilegedOpcode else .next (advance { s with win := savedWindow s.win })

/-- RESTORED (rule R884). -/
def execRestored (s : State) : Run :=
  if isUser s then trapTo s .privilegedOpcode else .next (advance { s with win := restoredWindow s.win })

/-- FLUSHW (rule R885). -/
def execFlushw (s : State) : Run := if s.win.cansave = 6 then .next (advance s) else trapTo s (spillTrap s)

/-- ALLCLEAN (rule R886). Not implemented in hardware. -/
def execAllclean (s : State) : Run := trapTo s .illegalInstruction

/-- INVALW (rule R887). Not implemented in hardware. -/
def execInvalw (s : State) : Run := trapTo s .illegalInstruction

/-- NORMALW (rule R888). Not implemented in hardware. -/
def execNormalw (s : State) : Run := trapTo s .illegalInstruction

/-- OTHERW (rule R889). Not implemented in hardware. -/
def execOtherw (s : State) : Run := trapTo s .illegalInstruction

/-! ### Reading ancillary state registers -/

/-- RDY (rule R896). -/
def execRdy (rd : BitVec 5) (s : State) : Run := readInto s rd (s.y.setWidth 64)

/-- RDCCR (rule R897). -/
def execRdccr (rd : BitVec 5) (s : State) : Run := readInto s rd ((ccrBits s.ccr).setWidth 64)

/-- RDASI (rule R898). -/
def execRdasi (rd : BitVec 5) (s : State) : Run := readInto s rd (s.asi.setWidth 64)

/-- RDTICK (rule R899). -/
def execRdtick (rd : BitVec 5) (s : State) : Run :=
  if isUser s && s.tick.npt then trapTo s .privilegedAction else readInto s rd (counterBits s.tick)

/-- RDPC (rule R900). -/
def execRdpc (rd : BitVec 5) (s : State) : Run := readInto s rd (maskAm s s.pc)

/-- RDFPRS (rule R901). -/
def execRdfprs (rd : BitVec 5) (s : State) : Run := readInto s rd ((fprsBits s.fprs).setWidth 64)

/-- RDPCR (rule R902). -/
def execRdpcr (rd : BitVec 5) (s : State) : Run := readPrivileged s rd (pcrBits s.pcr)

/-- RDPIC (rule R903). -/
def execRdpic (rd : BitVec 5) (s : State) : Run :=
  if isUser s && s.pcr.priv then trapTo s .privilegedAction else readInto s rd s.pic

/-- RDGSR (rule R904). -/
def execRdgsr (rd : BitVec 5) (s : State) : Run :=
  if fpuEnabled s then readInto s rd (gsrBits s.gsr) else trapTo s .fpDisabled

/-- RDSOFTINT (rule R905). -/
def execRdsoftint (rd : BitVec 5) (s : State) : Run := readPrivileged s rd (s.softint.setWidth 64)

/-- RDTICK_CMPR (rule R906). -/
def execRdtick_cmpr (rd : BitVec 5) (s : State) : Run := readPrivileged s rd (compareBits s.tickCmpr)

/-- RDSTICK (rule R907). -/
def execRdstick (rd : BitVec 5) (s : State) : Run :=
  if isUser s && s.stick.npt then trapTo s .privilegedAction else readInto s rd (counterBits s.stick)

/-- RDSTICK_CMPR (rule R908). -/
def execRdstick_cmpr (rd : BitVec 5) (s : State) : Run := readPrivileged s rd (compareBits s.stickCmpr)

/-! ### Writing ancillary state registers -/

/-- WRY (rule R913). -/
def execWry (rs1 : BitVec 5) (op2 : RegOrImm13) (s : State) : Run :=
  .next (advance { s with y := (written s rs1 op2).extractLsb' 0 32 })

/-- WRCCR (rule R914). -/
def execWrccr (rs1 : BitVec 5) (op2 : RegOrImm13) (s : State) : Run :=
  .next (advance { s with ccr := ccrOfBits ((written s rs1 op2).extractLsb' 0 8) })

/-- WRASI (rule R915). -/
def execWrasi (rs1 : BitVec 5) (op2 : RegOrImm13) (s : State) : Run :=
  .next (advance { s with asi := (written s rs1 op2).extractLsb' 0 8 })

/-- WRFPRS (rule R916). -/
def execWrfprs (rs1 : BitVec 5) (op2 : RegOrImm13) (s : State) : Run :=
  .next (advance { s with fprs := fprsOfBits ((written s rs1 op2).extractLsb' 0 3) })

/-- WRPCR (rule R917). -/
def execWrpcr (rs1 : BitVec 5) (op2 : RegOrImm13) (s : State) : Run :=
  writePrivileged s { s with pcr := pcrOfBits (written s rs1 op2) }

/-- WRPIC (rule R918). -/
def execWrpic (rs1 : BitVec 5) (op2 : RegOrImm13) (s : State) : Run :=
  if isUser s && s.pcr.priv then trapTo s .privilegedAction
  else .next (advance { s with pic := written s rs1 op2 })

/-- WRGSR (rule R919). -/
def execWrgsr (rs1 : BitVec 5) (op2 : RegOrImm13) (s : State) : Run :=
  if fpuEnabled s then .next (advance { s with gsr := gsrOfBits (written s rs1 op2) })
  else trapTo s .fpDisabled

/-- WRSOFTINT_SET (rule R920). -/
def execWrsoftint_set (rs1 : BitVec 5) (op2 : RegOrImm13) (s : State) : Run :=
  writePrivileged s { s with softint := s.softint ||| (written s rs1 op2).extractLsb' 0 17 }

/-- WRSOFTINT_CLR (rule R921). -/
def execWrsoftint_clr (rs1 : BitVec 5) (op2 : RegOrImm13) (s : State) : Run :=
  writePrivileged s { s with softint := s.softint &&& ~~~((written s rs1 op2).extractLsb' 0 17) }

/-- WRSOFTINT (rule R922). -/
def execWrsoftint (rs1 : BitVec 5) (op2 : RegOrImm13) (s : State) : Run :=
  writePrivileged s { s with softint := (written s rs1 op2).extractLsb' 0 17 }

/-- WRTICK_CMPR (rule R923). -/
def execWrtick_cmpr (rs1 : BitVec 5) (op2 : RegOrImm13) (s : State) : Run :=
  writePrivileged s { s with tickCmpr := compareOfBits (written s rs1 op2) }

/-- WRSTICK (rule R924). -/
def execWrstick (rs1 : BitVec 5) (op2 : RegOrImm13) (s : State) : Run :=
  if isHyper s then .next (advance { s with stick := counterOfBits (written s rs1 op2), stickWritten := true })
  else trapTo s .illegalInstruction

/-- WRSTICK_CMPR (rule R925). -/
def execWrstick_cmpr (rs1 : BitVec 5) (op2 : RegOrImm13) (s : State) : Run :=
  writePrivileged s { s with stickCmpr := compareOfBits (written s rs1 op2) }

/-- SIR (rule R927). -/
def execSir (_simm13 : BitVec 13) (s : State) : Run :=
  if isHyper s then trapTo s .softwareInitiatedReset else trapTo s .illegalInstruction

/-! ### Privileged and hyperprivileged registers -/

/-- RDPR (rule R930). -/
def execRdpr (rd : BitVec 5) (rs1 : BitVec 5) (s : State) : Run :=
  if prReserved rs1 then trapTo s .illegalInstruction
  else if isUser s then trapTo s .privilegedOpcode
  else if rs1.toNat ≤ 3 ∧ s.tl = 0 then trapTo s .illegalInstruction
  else readInto s rd (readPr s rs1)

/-- WRPR (rule R931). -/
def execWrpr (rd : BitVec 5) (rs1 : BitVec 5) (op2 : RegOrImm13) (s : State) : Run :=
  if prReserved rd then trapTo s .illegalInstruction
  else if isUser s then trapTo s .privilegedOpcode
  else if rd = 4 ∧ !isHyper s then trapTo s .illegalInstruction
  else if rd.toNat ≤ 3 ∧ s.tl = 0 then trapTo s .illegalInstruction
  else .next (advance (writePr s rd (written s rs1 op2)))

/-- RDHPR (rule R940). -/
def execRdhpr (rd : BitVec 5) (rs1 : BitVec 5) (s : State) : Run :=
  if hprReserved rs1 || !isHyper s then trapTo s .illegalInstruction
  else if rs1 = 1 ∧ s.tl = 0 then trapTo s .illegalInstruction
  else readInto s rd (readHpr s rs1)

/-- WRHPR (rules R941, R943). -/
def execWrhpr (rd : BitVec 5) (rs1 : BitVec 5) (op2 : RegOrImm13) (s : State) : Run :=
  if hprReserved rd || rd == 6 || !isHyper s then trapTo s .illegalInstruction
  else if rd = 1 ∧ s.tl = 0 then trapTo s .illegalInstruction
  else .next (advance { writeHpr s rd (written s rs1 op2) with undefinedCases := noteWrhpr s rd (written s rs1 op2) })

/-! ### Opcodes without a hardware implementation -/

/-- SHUTDOWN (rule R950): the hardware raises illegal_instruction in every mode; the NOP of rule R13 and of IMPL. DEP. #206 is what the
rule gives the software that emulates it. -/
def execShutdown (s : State) : Run := trapTo s .illegalInstruction

/-- IMPDEP1 (rule R951). An `opf` that no VIS instruction has. -/
def execImpdep1 (_rd : BitVec 5) (_rs1 : BitVec 5) (_opf : BitVec 9) (_rs2 : BitVec 5) (s : State) : Run :=
  trapTo s .illegalInstruction

/-- IMPDEP2A (rule R952). None is defined (decision D14). -/
def execImpdep2a (_rd : BitVec 5) (_mid : BitVec 12) (_rs2 : BitVec 5) (s : State) : Run :=
  trapTo s .illegalInstruction

/-- IMPDEP2B (rule R953). None is defined. -/
def execImpdep2b (_rd : BitVec 5) (_mid : BitVec 12) (_op4 : BitVec 2) (_rs2 : BitVec 5) (s : State) : Run :=
  trapTo s .illegalInstruction

end Sys2Proof.Machine
end

