-- ==== Sys2Proof/Machine/Vis.lean ====
section
/-! DEFINITION. The meanings of spec/46_vis.md: the VIS instructions. -/

namespace Sys2Proof.Machine

/-! ### Shared operations -/

/-- The end of a VIS instruction with a double destination, after VisFpCheck (rule R1060). -/
def visIntoD (s : State) (rd : BitVec 5) (v : DWord) : Run :=
  if fpuEnabled s then .next (advance (setFD s rd v)) else trapTo (markFD s rd) .fpDisabled

/-- The end of a VIS instruction with a single destination, after VisFpCheck (rule R1060). -/
def visIntoS (s : State) (rd : BitVec 5) (v : Word) : Run :=
  if fpuEnabled s then .next (advance (setFS s rd v)) else trapTo (markFS s) .fpDisabled

/-- The end of a VIS instruction that writes an R register or GSR, after VisFpCheck: no dirty bit (rule R1060). -/
def visInto (s t : State) : Run := if fpuEnabled s then .next (advance t) else trapTo s .fpDisabled

/-- R[rd] <- v; GSR <- g. -/
def setRGsr (s : State) (rd : BitVec 5) (v : DWord) (g : Gsr) : State := { setR s rd v with gsr := g }

/-- The low three bits of an address cleared (rule R1064). -/
def blockAddress (a : DWord) : DWord := a.extractLsb' 3 61 ++ 0#3

/-- Byte `n` of a 16-byte value, byte 0 the most significant (rules R1066, R1068). -/
def byteOf (v : BitVec 128) (n : Nat) : Byte := v.extractLsb' (120 - 8 * n) 8

/-- FALIGNDATA (rule R1066): the 8 bytes of the pair from byte `align` on. -/
def alignData (a b : DWord) (align : BitVec 3) : DWord := (a ++ b).extractLsb' (64 - 8 * align.toNat) 64

/-- The source byte number of destination byte `k` (rule R1068). -/
def shuffleIndex (mask : Word) (k : Nat) : Nat := (mask.extractLsb' (28 - 4 * k) 4).toNat

/-- BSHUFFLE (rule R1068). -/
def byteShuffle (a b : DWord) (mask : Word) : DWord :=
  let pick (k : Nat) : Byte := byteOf (a ++ b) (shuffleIndex mask k)
  pick 0 ++ pick 1 ++ pick 2 ++ pick 3 ++ pick 4 ++ pick 5 ++ pick 6 ++ pick 7

/-! ### Edge masks (rule R1070); `k` is the base-2 logarithm of the element size, `w` the width of the mask -/

/-- idx(x) (rule R1070). -/
def edgeIndex (k : Nat) (x : DWord) : Nat := (x.extractLsb' 0 3).toNat / 2 ^ k

/-- The left edge mask. -/
def edgeLeft (w k : Nat) (little : Bool) (a : DWord) : BitVec w :=
  if little then BitVec.allOnes w <<< edgeIndex k a else BitVec.allOnes w >>> edgeIndex k a

/-- The right edge mask. -/
def edgeRight (w k : Nat) (little : Bool) (b : DWord) : BitVec w :=
  if little then BitVec.allOnes w >>> (w - 1 - edgeIndex k b) else BitVec.allOnes w <<< (w - 1 - edgeIndex k b)

/-- Both addresses lie in the same 8 bytes, as far as PSTATE.am lets an address be seen. -/
def sameBlock (s : State) (a b : DWord) : Bool :=
  if s.pstate.am then a.extractLsb' 3 29 == b.extractLsb' 3 29 else a.extractLsb' 3 61 == b.extractLsb' 3 61

/-- The mask an EDGE instruction writes. -/
def edgeMask (s : State) (w k : Nat) (little : Bool) (a b : DWord) : DWord :=
  (if sameBlock s a b then edgeLeft w k little a &&& edgeRight w k little b else edgeLeft w k little a).setWidth 64

/-- EDGE without condition codes (rules R1062, R1070). -/
def edgeN (s : State) (rd : BitVec 5) (w k : Nat) (little : Bool) (a b : DWord) : Run :=
  if Config.edgeInHardware then .next (advance (setR s rd (edgeMask s w k little a b))) else trapTo s .illegalInstruction

/-- EDGE with the condition codes of SUBcc (rules R1062, R1070). -/
def edgeCC (s : State) (rd : BitVec 5) (w k : Nat) (little : Bool) (a b : DWord) : Run :=
  if Config.edgeInHardware then
    .next (advance (setCcr (setR s rd (edgeMask s w k little a b)) (subCcr a b false)))
  else trapTo s .illegalInstruction

/-! ### Array addresses (rule R1085) -/

/-- Result bits 16:0 (rule R1085). -/
def arrayLow (x : DWord) : BitVec 17 :=
  x.extractLsb' 56 4 ++ x.extractLsb' 35 4 ++ x.extractLsb' 13 4 ++ x.extractLsb' 55 1 ++ x.extractLsb' 33 2
    ++ x.extractLsb' 11 2

/-- The low `n` bits of a value. -/
def lowBits (v : DWord) (n : Nat) : DWord := v &&& BitVec.ofNat 64 (2 ^ n - 1)

/-- Array8(x, n), n <= 5 (rule R1085). -/
def array8 (x : DWord) (n : Nat) : DWord :=
  (arrayLow x).setWidth 64
    ||| ((lowBits (x >>> 17) n ||| (lowBits (x >>> 39) n <<< n) ||| ((x >>> 60) <<< (2 * n))) <<< 17)

/-- ARRAY8, ARRAY16 and ARRAY32 (rules R1086 to R1088); the result of an illegal size is a free value. -/
def arrayInto (s : State) (rd : BitVec 5) (x n : DWord) (shift : Nat) : Run :=
  if n.toNat ≤ 5 then .next (advance (setR s rd (array8 x n.toNat <<< shift)))
  else .next (advance (drawn (setR s rd (freeValue s))))

/-! ### Partitioned operations -/

/-- Four 16-bit lanes. -/
def lanes16 (f : BitVec 16 → BitVec 16 → BitVec 16) (a b : DWord) : DWord :=
  f (a.extractLsb' 48 16) (b.extractLsb' 48 16) ++ f (a.extractLsb' 32 16) (b.extractLsb' 32 16)
    ++ f (a.extractLsb' 16 16) (b.extractLsb' 16 16) ++ f (a.extractLsb' 0 16) (b.extractLsb' 0 16)

/-- Two 32-bit lanes. -/
def lanes32 (f : Word → Word → Word) (a b : DWord) : DWord :=
  f (a.extractLsb' 32 32) (b.extractLsb' 32 32) ++ f (a.extractLsb' 0 32) (b.extractLsb' 0 32)

/-- Two 16-bit lanes of a single register. -/
def lanes16S (f : BitVec 16 → BitVec 16 → BitVec 16) (a b : Word) : Word :=
  f (a.extractLsb' 16 16) (b.extractLsb' 16 16) ++ f (a.extractLsb' 0 16) (b.extractLsb' 0 16)

/-- The mask of a 16-bit compare: bit j is element j (rule R1090). -/
def mask16 (rel : BitVec 16 → BitVec 16 → Bool) (a b : DWord) : DWord :=
  (bit (rel (a.extractLsb' 48 16) (b.extractLsb' 48 16)) ++ bit (rel (a.extractLsb' 32 16) (b.extractLsb' 32 16))
    ++ bit (rel (a.extractLsb' 16 16) (b.extractLsb' 16 16))
    ++ bit (rel (a.extractLsb' 0 16) (b.extractLsb' 0 16))).setWidth 64

/-- The mask of a 32-bit compare (rule R1090). -/
def mask32 (rel : Word → Word → Bool) (a b : DWord) : DWord :=
  (bit (rel (a.extractLsb' 32 32) (b.extractLsb' 32 32))
    ++ bit (rel (a.extractLsb' 0 32) (b.extractLsb' 0 32))).setWidth 64

/-- Signed greater-than. -/
def signedGt {w : Nat} (a b : BitVec w) : Bool := b.slt a

/-! ### Address alignment and byte permutation -/

/-- ALIGNADDRESS (rule R1064). -/
def execAlignaddress (rd : BitVec 5) (rs1 : BitVec 5) (rs2 : BitVec 5) (s : State) : Run :=
  visInto s (setRGsr s rd (blockAddress (getR s rs1 + getR s rs2)) { s.gsr with align := (getR s rs1 + getR s rs2).extractLsb' 0 3 })

/-- ALIGNADDRESS_LITTLE (rule R1065). -/
def execAlignaddress_little (rd : BitVec 5) (rs1 : BitVec 5) (rs2 : BitVec 5) (s : State) : Run :=
  visInto s (setRGsr s rd (blockAddress (getR s rs1 + getR s rs2)) { s.gsr with align := -((getR s rs1 + getR s rs2).extractLsb' 0 3) })

/-- FALIGNDATA (rule R1066). -/
def execFaligndata (rd : BitVec 5) (rs1 : BitVec 5) (rs2 : BitVec 5) (s : State) : Run :=
  visIntoD s rd (alignData (getFD s rs1) (getFD s rs2) s.gsr.align)

/-- BMASK (rule R1067). -/
def execBmask (rd : BitVec 5) (rs1 : BitVec 5) (rs2 : BitVec 5) (s : State) : Run :=
  visInto s (setRGsr s rd (getR s rs1 + getR s rs2) { s.gsr with mask := (getR s rs1 + getR s rs2).extractLsb' 0 32 })

/-- BSHUFFLE (rule R1068). -/
def execBshuffle (rd : BitVec 5) (rs1 : BitVec 5) (rs2 : BitVec 5) (s : State) : Run :=
  visIntoD s rd (byteShuffle (getFD s rs1) (getFD s rs2) s.gsr.mask)

/-! ### Edge handling -/

/-- EDGE8cc (rule R1071). -/
def execEdge8cc (rd : BitVec 5) (rs1 : BitVec 5) (rs2 : BitVec 5) (s : State) : Run :=
  edgeCC s rd 8 0 false (getR s rs1) (getR s rs2)

/-- EDGE8N (rule R1078). -/
def execEdge8n (rd : BitVec 5) (rs1 : BitVec 5) (rs2 : BitVec 5) (s : State) : Run :=
  edgeN s rd 8 0 false (getR s rs1) (getR s rs2)

/-- EDGE8Lcc (rule R1072). -/
def execEdge8lcc (rd : BitVec 5) (rs1 : BitVec 5) (rs2 : BitVec 5) (s : State) : Run :=
  edgeCC s rd 8 0 true (getR s rs1) (getR s rs2)

/-- EDGE8LN (rule R1079). -/
def execEdge8ln (rd : BitVec 5) (rs1 : BitVec 5) (rs2 : BitVec 5) (s : State) : Run :=
  edgeN s rd 8 0 true (getR s rs1) (getR s rs2)

/-- EDGE16cc (rule R1073). -/
def execEdge16cc (rd : BitVec 5) (rs1 : BitVec 5) (rs2 : BitVec 5) (s : State) : Run :=
  edgeCC s rd 4 1 false (getR s rs1) (getR s rs2)

/-- EDGE16N (rule R1080). -/
def execEdge16n (rd : BitVec 5) (rs1 : BitVec 5) (rs2 : BitVec 5) (s : State) : Run :=
  edgeN s rd 4 1 false (getR s rs1) (getR s rs2)

/-- EDGE16Lcc (rule R1074). -/
def execEdge16lcc (rd : BitVec 5) (rs1 : BitVec 5) (rs2 : BitVec 5) (s : State) : Run :=
  edgeCC s rd 4 1 true (getR s rs1) (getR s rs2)

/-- EDGE16LN (rule R1081). -/
def execEdge16ln (rd : BitVec 5) (rs1 : BitVec 5) (rs2 : BitVec 5) (s : State) : Run :=
  edgeN s rd 4 1 true (getR s rs1) (getR s rs2)

/-- EDGE32cc (rule R1075). -/
def execEdge32cc (rd : BitVec 5) (rs1 : BitVec 5) (rs2 : BitVec 5) (s : State) : Run :=
  edgeCC s rd 2 2 false (getR s rs1) (getR s rs2)

/-- EDGE32N (rule R1082). -/
def execEdge32n (rd : BitVec 5) (rs1 : BitVec 5) (rs2 : BitVec 5) (s : State) : Run :=
  edgeN s rd 2 2 false (getR s rs1) (getR s rs2)

/-- EDGE32Lcc (rule R1076). -/
def execEdge32lcc (rd : BitVec 5) (rs1 : BitVec 5) (rs2 : BitVec 5) (s : State) : Run :=
  edgeCC s rd 2 2 true (getR s rs1) (getR s rs2)

/-- EDGE32LN (rule R1083). -/
def execEdge32ln (rd : BitVec 5) (rs1 : BitVec 5) (rs2 : BitVec 5) (s : State) : Run :=
  edgeN s rd 2 2 true (getR s rs1) (getR s rs2)

/-! ### Three-dimensional array addressing -/

/-- ARRAY8 (rule R1086). -/
def execArray8 (rd : BitVec 5) (rs1 : BitVec 5) (rs2 : BitVec 5) (s : State) : Run :=
  arrayInto s rd (getR s rs1) (getR s rs2) 0

/-- ARRAY16 (rule R1087). -/
def execArray16 (rd : BitVec 5) (rs1 : BitVec 5) (rs2 : BitVec 5) (s : State) : Run :=
  arrayInto s rd (getR s rs1) (getR s rs2) 1

/-- ARRAY32 (rule R1088). -/
def execArray32 (rd : BitVec 5) (rs1 : BitVec 5) (rs2 : BitVec 5) (s : State) : Run :=
  arrayInto s rd (getR s rs1) (getR s rs2) 2

/-! ### SIMD signed compare -/

/-- FCMPLE16 (rule R1091). -/
def execFcmple16 (rd : BitVec 5) (rs1 : BitVec 5) (rs2 : BitVec 5) (s : State) : Run :=
  visInto s (setR s rd (mask16 BitVec.sle (getFD s rs1) (getFD s rs2)))

/-- FCMPLE32 (rule R1093). -/
def execFcmple32 (rd : BitVec 5) (rs1 : BitVec 5) (rs2 : BitVec 5) (s : State) : Run :=
  visInto s (setR s rd (mask32 BitVec.sle (getFD s rs1) (getFD s rs2)))

/-- FCMPNE16 (rule R1092). -/
def execFcmpne16 (rd : BitVec 5) (rs1 : BitVec 5) (rs2 : BitVec 5) (s : State) : Run :=
  visInto s (setR s rd (mask16 (· != ·) (getFD s rs1) (getFD s rs2)))

/-- FCMPNE32 (rule R1094). -/
def execFcmpne32 (rd : BitVec 5) (rs1 : BitVec 5) (rs2 : BitVec 5) (s : State) : Run :=
  visInto s (setR s rd (mask32 (· != ·) (getFD s rs1) (getFD s rs2)))

/-- FCMPGT16 (rule R1095). -/
def execFcmpgt16 (rd : BitVec 5) (rs1 : BitVec 5) (rs2 : BitVec 5) (s : State) : Run :=
  visInto s (setR s rd (mask16 signedGt (getFD s rs1) (getFD s rs2)))

/-- FCMPGT32 (rule R1097). -/
def execFcmpgt32 (rd : BitVec 5) (rs1 : BitVec 5) (rs2 : BitVec 5) (s : State) : Run :=
  visInto s (setR s rd (mask32 signedGt (getFD s rs1) (getFD s rs2)))

/-- FCMPEQ16 (rule R1096). -/
def execFcmpeq16 (rd : BitVec 5) (rs1 : BitVec 5) (rs2 : BitVec 5) (s : State) : Run :=
  visInto s (setR s rd (mask16 (· == ·) (getFD s rs1) (getFD s rs2)))

/-- FCMPEQ32 (rule R1098). -/
def execFcmpeq32 (rd : BitVec 5) (rs1 : BitVec 5) (rs2 : BitVec 5) (s : State) : Run :=
  visInto s (setR s rd (mask32 (· == ·) (getFD s rs1) (getFD s rs2)))

/-! ### Partitioned add and subtract -/

/-- FPADD16 (rule R1100). -/
def execFpadd16 (rd : BitVec 5) (rs1 : BitVec 5) (rs2 : BitVec 5) (s : State) : Run :=
  visIntoD s rd (lanes16 (· + ·) (getFD s rs1) (getFD s rs2))

/-- FPADD16S (rule R1101). -/
def execFpadd16s (rd : BitVec 5) (rs1 : BitVec 5) (rs2 : BitVec 5) (s : State) : Run :=
  visIntoS s rd (lanes16S (· + ·) (getFS s rs1) (getFS s rs2))

/-- FPADD32 (rule R1102). -/
def execFpadd32 (rd : BitVec 5) (rs1 : BitVec 5) (rs2 : BitVec 5) (s : State) : Run :=
  visIntoD s rd (lanes32 (· + ·) (getFD s rs1) (getFD s rs2))

/-- FPADD32S (rule R1103). -/
def execFpadd32s (rd : BitVec 5) (rs1 : BitVec 5) (rs2 : BitVec 5) (s : State) : Run :=
  visIntoS s rd (getFS s rs1 + getFS s rs2)

/-- FPSUB16 (rule R1104). -/
def execFpsub16 (rd : BitVec 5) (rs1 : BitVec 5) (rs2 : BitVec 5) (s : State) : Run :=
  visIntoD s rd (lanes16 (· - ·) (getFD s rs1) (getFD s rs2))

/-- FPSUB16S (rule R1105). -/
def execFpsub16s (rd : BitVec 5) (rs1 : BitVec 5) (rs2 : BitVec 5) (s : State) : Run :=
  visIntoS s rd (lanes16S (· - ·) (getFS s rs1) (getFS s rs2))

/-- FPSUB32 (rule R1106). -/
def execFpsub32 (rd : BitVec 5) (rs1 : BitVec 5) (rs2 : BitVec 5) (s : State) : Run :=
  visIntoD s rd (lanes32 (· - ·) (getFD s rs1) (getFD s rs2))

/-- FPSUB32S (rule R1107). -/
def execFpsub32s (rd : BitVec 5) (rs1 : BitVec 5) (rs2 : BitVec 5) (s : State) : Run :=
  visIntoS s rd (getFS s rs1 - getFS s rs2)

/-! ### Logical operations -/

/-- FZERO (rule R1111). -/
def execFzero (rd : BitVec 5) (s : State) : Run := visIntoD s rd (0)

/-- FZEROs (rule R1112). -/
def execFzeros (rd : BitVec 5) (s : State) : Run := visIntoS s rd (0)

/-- FONE (rule R1113). -/
def execFone (rd : BitVec 5) (s : State) : Run := visIntoD s rd (BitVec.allOnes 64)

/-- FONEs (rule R1114). -/
def execFones (rd : BitVec 5) (s : State) : Run := visIntoS s rd (BitVec.allOnes 32)

/-- FSRC1 (rule R1115). -/
def execFsrc1 (rd : BitVec 5) (rs1 : BitVec 5) (s : State) : Run := visIntoD s rd (getFD s rs1)

/-- FSRC1s (rule R1116). -/
def execFsrc1s (rd : BitVec 5) (rs1 : BitVec 5) (s : State) : Run := visIntoS s rd (getFS s rs1)

/-- FSRC2 (rule R1117). -/
def execFsrc2 (rd : BitVec 5) (rs2 : BitVec 5) (s : State) : Run := visIntoD s rd (getFD s rs2)

/-- FSRC2s (rule R1118). -/
def execFsrc2s (rd : BitVec 5) (rs2 : BitVec 5) (s : State) : Run := visIntoS s rd (getFS s rs2)

/-- FNOT1 (rule R1119). -/
def execFnot1 (rd : BitVec 5) (rs1 : BitVec 5) (s : State) : Run := visIntoD s rd (~~~(getFD s rs1))

/-- FNOT1s (rule R1120). -/
def execFnot1s (rd : BitVec 5) (rs1 : BitVec 5) (s : State) : Run := visIntoS s rd (~~~(getFS s rs1))

/-- FNOT2 (rule R1121). -/
def execFnot2 (rd : BitVec 5) (rs2 : BitVec 5) (s : State) : Run := visIntoD s rd (~~~(getFD s rs2))

/-- FNOT2s (rule R1122). -/
def execFnot2s (rd : BitVec 5) (rs2 : BitVec 5) (s : State) : Run := visIntoS s rd (~~~(getFS s rs2))

/-- FOR (rule R1123). -/
def execFor_ (rd : BitVec 5) (rs1 : BitVec 5) (rs2 : BitVec 5) (s : State) : Run :=
  visIntoD s rd (getFD s rs1 ||| getFD s rs2)

/-- FORs (rule R1124). -/
def execFors (rd : BitVec 5) (rs1 : BitVec 5) (rs2 : BitVec 5) (s : State) : Run :=
  visIntoS s rd (getFS s rs1 ||| getFS s rs2)

/-- FNOR (rule R1125). -/
def execFnor (rd : BitVec 5) (rs1 : BitVec 5) (rs2 : BitVec 5) (s : State) : Run :=
  visIntoD s rd (~~~(getFD s rs1 ||| getFD s rs2))

/-- FNORs (rule R1126). -/
def execFnors (rd : BitVec 5) (rs1 : BitVec 5) (rs2 : BitVec 5) (s : State) : Run :=
  visIntoS s rd (~~~(getFS s rs1 ||| getFS s rs2))

/-- FAND (rule R1127). -/
def execFand (rd : BitVec 5) (rs1 : BitVec 5) (rs2 : BitVec 5) (s : State) : Run :=
  visIntoD s rd (getFD s rs1 &&& getFD s rs2)

/-- FANDs (rule R1128). -/
def execFands (rd : BitVec 5) (rs1 : BitVec 5) (rs2 : BitVec 5) (s : State) : Run :=
  visIntoS s rd (getFS s rs1 &&& getFS s rs2)

/-- FNAND (rule R1129). -/
def execFnand (rd : BitVec 5) (rs1 : BitVec 5) (rs2 : BitVec 5) (s : State) : Run :=
  visIntoD s rd (~~~(getFD s rs1 &&& getFD s rs2))

/-- FNANDs (rule R1130). -/
def execFnands (rd : BitVec 5) (rs1 : BitVec 5) (rs2 : BitVec 5) (s : State) : Run :=
  visIntoS s rd (~~~(getFS s rs1 &&& getFS s rs2))

/-- FXOR (rule R1131). -/
def execFxor (rd : BitVec 5) (rs1 : BitVec 5) (rs2 : BitVec 5) (s : State) : Run :=
  visIntoD s rd (getFD s rs1 ^^^ getFD s rs2)

/-- FXORs (rule R1132). -/
def execFxors (rd : BitVec 5) (rs1 : BitVec 5) (rs2 : BitVec 5) (s : State) : Run :=
  visIntoS s rd (getFS s rs1 ^^^ getFS s rs2)

/-- FXNOR (rule R1133). -/
def execFxnor (rd : BitVec 5) (rs1 : BitVec 5) (rs2 : BitVec 5) (s : State) : Run :=
  visIntoD s rd (~~~(getFD s rs1 ^^^ getFD s rs2))

/-- FXNORs (rule R1134). -/
def execFxnors (rd : BitVec 5) (rs1 : BitVec 5) (rs2 : BitVec 5) (s : State) : Run :=
  visIntoS s rd (~~~(getFS s rs1 ^^^ getFS s rs2))

/-- FORNOT1 (rule R1135). -/
def execFornot1 (rd : BitVec 5) (rs1 : BitVec 5) (rs2 : BitVec 5) (s : State) : Run :=
  visIntoD s rd (~~~(getFD s rs1) ||| getFD s rs2)

/-- FORNOT1s (rule R1136). -/
def execFornot1s (rd : BitVec 5) (rs1 : BitVec 5) (rs2 : BitVec 5) (s : State) : Run :=
  visIntoS s rd (~~~(getFS s rs1) ||| getFS s rs2)

/-- FORNOT2 (rule R1137). -/
def execFornot2 (rd : BitVec 5) (rs1 : BitVec 5) (rs2 : BitVec 5) (s : State) : Run :=
  visIntoD s rd (getFD s rs1 ||| ~~~(getFD s rs2))

/-- FORNOT2s (rule R1138). -/
def execFornot2s (rd : BitVec 5) (rs1 : BitVec 5) (rs2 : BitVec 5) (s : State) : Run :=
  visIntoS s rd (getFS s rs1 ||| ~~~(getFS s rs2))

/-- FANDNOT1 (rule R1139). -/
def execFandnot1 (rd : BitVec 5) (rs1 : BitVec 5) (rs2 : BitVec 5) (s : State) : Run :=
  visIntoD s rd (~~~(getFD s rs1) &&& getFD s rs2)

/-- FANDNOT1s (rule R1140). -/
def execFandnot1s (rd : BitVec 5) (rs1 : BitVec 5) (rs2 : BitVec 5) (s : State) : Run :=
  visIntoS s rd (~~~(getFS s rs1) &&& getFS s rs2)

/-- FANDNOT2 (rule R1141). -/
def execFandnot2 (rd : BitVec 5) (rs1 : BitVec 5) (rs2 : BitVec 5) (s : State) : Run :=
  visIntoD s rd (getFD s rs1 &&& ~~~(getFD s rs2))

/-- FANDNOT2s (rule R1142). -/
def execFandnot2s (rd : BitVec 5) (rs1 : BitVec 5) (rs2 : BitVec 5) (s : State) : Run :=
  visIntoS s rd (getFS s rs1 &&& ~~~(getFS s rs2))

/-! ### Interval arithmetic mode -/

/-- SIAM (rule R1145). -/
def execSiam (mode : BitVec 3) (s : State) : Run :=
  visInto s { s with gsr := { s.gsr with im := flagAt mode 2, irnd := mode.extractLsb' 0 2 } }

/-! ### Instructions emulated in software: hardware raises illegal_instruction (rule R1061) -/

/-- FEXPAND (rule R1150). -/
def execFexpand (_rd : BitVec 5) (_rs2 : BitVec 5) (s : State) : Run := trapTo s .illegalInstruction

/-- FMUL8x16 (rule R1152). -/
def execFmul8x16 (_rd : BitVec 5) (_rs1 : BitVec 5) (_rs2 : BitVec 5) (s : State) : Run :=
  trapTo s .illegalInstruction

/-- FMUL8x16AU (rule R1153). -/
def execFmul8x16au (_rd : BitVec 5) (_rs1 : BitVec 5) (_rs2 : BitVec 5) (s : State) : Run :=
  trapTo s .illegalInstruction

/-- FMUL8x16AL (rule R1154). -/
def execFmul8x16al (_rd : BitVec 5) (_rs1 : BitVec 5) (_rs2 : BitVec 5) (s : State) : Run :=
  trapTo s .illegalInstruction

/-- FMUL8SUx16 (rule R1155). -/
def execFmul8sux16 (_rd : BitVec 5) (_rs1 : BitVec 5) (_rs2 : BitVec 5) (s : State) : Run :=
  trapTo s .illegalInstruction

/-- FMUL8ULx16 (rule R1156). -/
def execFmul8ulx16 (_rd : BitVec 5) (_rs1 : BitVec 5) (_rs2 : BitVec 5) (s : State) : Run :=
  trapTo s .illegalInstruction

/-- FMULD8SUx16 (rule R1157). -/
def execFmuld8sux16 (_rd : BitVec 5) (_rs1 : BitVec 5) (_rs2 : BitVec 5) (s : State) : Run :=
  trapTo s .illegalInstruction

/-- FMULD8ULx16 (rule R1158). -/
def execFmuld8ulx16 (_rd : BitVec 5) (_rs1 : BitVec 5) (_rs2 : BitVec 5) (s : State) : Run :=
  trapTo s .illegalInstruction

/-- FPACK16 (rule R1161). -/
def execFpack16 (_rd : BitVec 5) (_rs2 : BitVec 5) (s : State) : Run := trapTo s .illegalInstruction

/-- FPACK32 (rule R1162). -/
def execFpack32 (_rd : BitVec 5) (_rs1 : BitVec 5) (_rs2 : BitVec 5) (s : State) : Run := trapTo s .illegalInstruction

/-- FPACKFIX (rule R1163). -/
def execFpackfix (_rd : BitVec 5) (_rs2 : BitVec 5) (s : State) : Run := trapTo s .illegalInstruction

/-- FPMERGE (rule R1165). -/
def execFpmerge (_rd : BitVec 5) (_rs1 : BitVec 5) (_rs2 : BitVec 5) (s : State) : Run := trapTo s .illegalInstruction

/-- PDIST (rule R1166). -/
def execPdist (_rd : BitVec 5) (_rs1 : BitVec 5) (_rs2 : BitVec 5) (s : State) : Run := trapTo s .illegalInstruction

end Sys2Proof.Machine
end

