-- ==== Sys2Proof/Machine/Events.lean ====
section
/-! DEFINITION. What happens around an instruction: the counters (rule R1480), the disrupting conditions (rules R1222, R1251 to
R1292), fetching (rule R271), the selection between an instruction and a disrupting condition (rule R1201), and what other
agents and the environment do: stores, interrupts, hardware errors, resets (rules R13, R290, R1357, R1401, R1450 to R1453). Machine/Step.lean only calls these. -/

namespace Sys2Proof.Machine

/-! ### Counters (rules R1480, R1481) -/

/-- A counter that advances from `old` by `d` passes through `target`: it is one of old + 1, ..., old + d modulo 2^63. -/
def passes (old target : BitVec 63) (d : Nat) : Bool := decide ((target - old - 1).toNat < d)

/-- A counter advanced by `d`. -/
def countUp (c : Counter) (d : Nat) : Counter := { c with counter := c.counter + BitVec.ofNat 63 d }

/-- SOFTINT.tm after TICK advances by `d`. -/
def matchTick (s : State) (d : Nat) : BitVec 17 :=
  if s.tickCmpr.intDis then s.softint
  else if passes s.tick.counter s.tickCmpr.value d then s.softint ||| 0x1 else s.softint

/-- SOFTINT.sm after STICK advances by `d`. -/
def matchStick (s : State) (d : Nat) : BitVec 17 :=
  if s.stickCmpr.intDis then s.softint
  else if passes s.stick.counter s.stickCmpr.value d then s.softint ||| 0x10000 else s.softint

/-- HINTP.hsp after STICK advances by `d`. -/
def matchHstick (s : State) (d : Nat) : Bool :=
  if s.hstickCmpr.intDis then s.hsp else s.hsp || passes s.stick.counter s.hstickCmpr.value d

/-- AdvanceTick(d). -/
def advanceTick (s : State) (d : Nat) : State := { s with tick := countUp s.tick d, softint := matchTick s d }

/-- AdvanceStick(d). -/
def advanceStick (s : State) (d : Nat) : State :=
  { s with stick := countUp s.stick d, softint := matchStick s d, hsp := matchHstick s d }

/-- How far TICK advances before this step: at least 1 (rule R1480). -/
def tickStep (s : State) : Nat := Config.tickAdvance s.freeCount + 1

/-- How far STICK advances before this step: at least 1 after a write of it (rules R84, R1480). -/
def stickStep (s : State) : Nat := Config.stickAdvance s.freeCount + (if s.stickWritten then 1 else 0)

/-- The model's own fields at the start of a step. -/
def freshStep (s : State) : State := { drawn s with lastTrap := none, stickWritten := false }

/-- The flags of the undefined cases U6, U7 and U8 at the start of a step of a running strand (rules R180, R1462): they stay set. -/
def flagCases (s : State) : UndefinedCases :=
  { s.undefinedCases with
    guestTlTooHigh := s.undefinedCases.guestTlTooHigh || (!isHyper s && decide (2 < s.tl.toNat))
    userTlNonzero := s.undefinedCases.userTlNonzero || (isUser s && s.tl != 0)
    guestGlTooHigh := s.undefinedCases.guestGlTooHigh || (!isHyper s && decide (2 < s.gl.toNat)) }

/-- The state in which a running strand takes its step: the counters advanced (rule R1480), the undefined cases flagged. -/
def startStep (s : State) : State :=
  { freshStep (advanceStick (advanceTick s (tickStep s)) (stickStep s)) with undefinedCases := flagCases s }

/-- The counters while the strand is parked: STICK counts, TICK where the implementation lets it (rules R1407, R1480). -/
def parkedStep (s : State) : State :=
  freshStep (advanceStick (if Config.tickCountsWhileParked then advanceTick s (tickStep s) else s) (stickStep s))

/-- The strand is running (rules R1407, R1409). -/
def isRunning (s : State) : Bool := namesOwn s.chip s.cmt.runningStatus

/-! ### Disrupting conditions -/

/-- SOFTINT makes interrupt_level_n outstanding (rule R1273). -/
def levelOutstanding (softint : BitVec 17) (n : Nat) : Bool :=
  flagAt softint n || (n == 14 && (flagAt softint 0 || flagAt softint 16))

/-- The highest outstanding interrupt level from `n` down; 0 where there is none (rule R1201). -/
def highestLevel (softint : BitVec 17) : Nat → Nat
  | 0 => 0
  | n + 1 => if levelOutstanding softint (n + 1) then n + 1 else highestLevel softint n

/-- The queue with the number given holds an entry (rule R1356). -/
def queueHasEntry (s : State) (q : BitVec 2) : Bool := bankRead s.queues (q ++ 0#1) != bankRead s.queues (q ++ 1#1)

/-- hstick_match is outstanding and deliverable (rule R1260). -/
def hstickDeliverable (s : State) : Bool := s.hsp && (s.pstate.ie || !isHyper s)

/-- The highest interrupt level is above PIL (rule R1222). -/
def levelDeliverable (s : State) : Bool := decide (s.pil.toNat < highestLevel s.softint 15)

/-- The disrupting condition of the highest priority that is outstanding and not held pending, trap_level_zero apart
(rules R1201, R1220, R1222). -/
def pendingTrap (s : State) : Option Trap :=
  if hstickDeliverable s then some .hstickMatch
  else if isHyper s || !s.pstate.ie then none
  else if queueHasEntry s 0 then some .cpuMondo
  else if queueHasEntry s 1 then some .devMondo
  else if levelDeliverable s then some (.interruptLevel (BitVec.ofNat 4 (highestLevel s.softint 15)))
  else if queueHasEntry s 2 then some .resumableError
  else none

/-- trap_level_zero is outstanding (rule R1292). -/
def trapLevelZeroPending (s : State) : Bool := s.hpstate.tlz && !s.hpstate.hpriv && s.tl == 0

/-! ### Fetching and running -/

/-- The instruction word at a physical address: its bytes are big-endian (rule R271). -/
def fetchWord (s : State) (pa : DWord) : Word := (readPhys s pa 4 false).extractLsb' 0 32

/-- A word that is no instruction (rules R431, R1056). -/
def runReject (s : State) : Reject → Run
  | .unassignedFPop => unimplementedFPop s id
  | .reservedOpcode => trapTo s .illegalInstruction
  | .reservedBits _ => trapTo s .illegalInstruction
  | .illegalField _ => trapTo s .illegalInstruction

/-- The instruction breakpoint's condition (rules R1269, R1384). -/
def breakpointHit (s : State) (w : Word) : Bool :=
  s.hpstate.ibe && !s.hpstate.red && Config.instrBreakpoint s.mmu.watch (maskAm s s.pc) w

/-- Running the instruction word fetched. -/
noncomputable def runWord (s : State) (w : Word) : Run :=
  if breakpointHit s w then trapTo s .instructionBreakpoint
  else
    match decode w with
    | .ok i => exec i s
    | .error r => runReject s r

/-- Fetching and running the instruction at PC (rule R271). -/
noncomputable def runNext (s : State) : Run :=
  match translateFetch (walkedFetch s (maskAm s s.pc)) (maskAm s s.pc) with
  | .error x => .next (takeTrap x.state x.trap)
  | .ok pa => runWord (walkedFetch s (maskAm s s.pc)) (fetchWord s pa)

/-- The selection of rule R1201: the disrupting condition is taken, and the instruction makes no state change, unless the
instruction raised an exception of higher priority. -/
def selectTrap (s : State) (e : Trap) (run : Run) : Run :=
  match run with
  | .next t =>
    (match t.lastTrap with
      | some p => if p < trapPriority e then .next t else trapTo s e
      | none => trapTo s e)
  | .fault _ => trapTo s e
  | .refused _ => trapTo s e

/-- What the instruction at PC does, `run`, or the pending disrupting condition that outranks it. -/
def runOrInterrupt (s : State) (run : Run) : Run :=
  match pendingTrap s with
  | none => run
  | some e => selectTrap s e run

/-- The hyperprivileged scratchpad registers as a warm or an externally initiated reset leaves them: a service processor may have
changed them, so their values are free (rule R357, assumption log entry 51). A register that `HYP_SCRATCHPAD_ALIAS` makes one with the
privileged one is SCRATCHPAD[k], which these resets leave unchanged (rule R1455): DESIGN CHOICE, entry 51. -/
def freeScratchpads (s : State) : Bank 64 3 := Vector.ofFn fun k => Config.freeScratchpad s.freeCount (BitVec.ofFin k)

/-- What the strand keeps of the error conditions once it makes a step: a precise error is one of the instruction at PC alone. -/
def pastError (s : State) : State := { s with errors := { s.errors with precise := none } }

/-- The state in which a pending externally initiated reset is taken (rules R357, R1453). -/
def xirAccepted (s : State) : State := { pastError (drawn s) with xirPending := false, hypScratchpad := freeScratchpads s }

/-! ### Hardware errors (rules R13, R1252, R1267, R1272, R1287, R1288, R1299; assumption log entry 39) -/

/-- The instruction at PC is fetched without an exception and has the load and store format, op = 3. -/
def accessesData (s : State) : Bool :=
  match translateFetch (walkedFetch s (maskAm s s.pc)) (maskAm s s.pc) with
  | .ok pa => (fetchWord (walkedFetch s (maskAm s s.pc)) pa).extractLsb' 30 2 == 3
  | .error _ => false

/-- The trap of a precise error. An error of a data access can be none of an instruction that makes no data access. -/
def preciseErrorTrap (s : State) : PreciseError → Option Trap
  | .instructionAccess => some .instructionAccessError
  | .dataAccess => if accessesData s then some .dataAccessError else none
  | .internalProcessor p => some (.internalProcessorError p)
  | .fastEcc => some .fastEccError

/-- sw_recoverable_error is outstanding and deliverable: it is a disrupting trap destined for hyperprivileged mode (rule R1222). -/
def swRecoverableDeliverable (s : State) : Bool := s.errors.swRecoverable && (s.pstate.ie || !isHyper s)

/-- The error traps that compete in a step (rule R1201). -/
def errorTraps (s : State) : List Trap :=
  (if swRecoverableDeliverable s then [.swRecoverableError] else [])
    ++ (s.errors.precise.bind (preciseErrorTrap s)).toList
    ++ (if s.errors.storeError then [.storeError] else [])

/-- The state in which an error trap is taken: store_error is reported once, sw_recoverable_error persists. -/
def errorReported (s : State) (e : Trap) : State :=
  if e = .storeError then { pastError s with errors := ⟨none, false, s.errors.swRecoverable⟩ } else pastError s

/-- An error trap against the rest of the step (rule R1201). -/
def selectError (s : State) (run : Run) (e : Trap) : Run := selectTrap (errorReported s e) e run

/-- The instruction at PC while its own fetch meets an error: the exception that translating its address raises, else that error. The
instruction is never issued, so it raises no exception of its own, not even as SIR (rules R1201, R1267). -/
def runHidden (s : State) : Run :=
  match translateFetch (walkedFetch s (maskAm s s.pc)) (maskAm s s.pc) with
  | .error x => .next (takeTrap x.state x.trap)
  | .ok _ => trapTo s .instructionAccessError

/-- The instruction at PC, hidden where instruction_access_error is reported for its fetch. -/
noncomputable def runAtPc (s : State) : Run :=
  if s.errors.precise = some .instructionAccess then runHidden (pastError s) else runNext (pastError s)

/-- A step in which no reset is pending, but for the error traps; `run` is what the instruction at PC does (rules R1201, R1292). -/
def ordinaryStep (s : State) (run : Run) : Run :=
  if trapLevelZeroPending s then trapTo s .trapLevelZero else runOrInterrupt s run

/-- A step of a running strand after the counters have advanced (rules R1201, R1453, R1462 U5). -/
noncomputable def runStep (s : State) : Run :=
  if s.hpstate.red && !s.hpstate.hpriv then .fault .redWithoutHpriv
  else if s.xirPending then trapTo (xirAccepted s) .externallyInitiatedReset
  else (errorTraps s).foldl (selectError s) (ordinaryStep (pastError s) (runAtPc s))

/-- Where the fetch of the next instruction reads memory; PC itself where the fetch would not translate. -/
def fetchAddress (s : State) : DWord :=
  match translateFetch s (maskAm s s.pc) with
  | .ok pa => pa
  | .error _ => maskAm s s.pc

/-! ### What the environment does (rules R11, R13, R290, R1357, R1401, R1413, R1450 to R1453; ParkComplete of rule R1409 is `parkComplete`) -/

/-- Another strand stores `v` to a chip-shared CMT register: one step on the shared state, by which it may park or unpark this strand
(rules R1401, R1408). -/
def otherStrandStores (s : State) (va v : DWord) : State :=
  match cmtWrite s.chip s.cmt 0x41 va v with
  | none => s
  | some c => { s with cmt := c }

/-- Another agent stores the `n` low bytes of `v` in memory: another strand's store leaves its store buffer (rules R280, R290), or a
device writes (rule R290). One such step is one aligned access of at most eight bytes; any other stores nothing. -/
def otherAgentStores (s : State) (pa : DWord) (n : Nat) (little : Bool) (v : DWord) : State :=
  if (n == 1 || n == 2 || n == 4 || n == 8) && alignedTo pa n then writePhys s pa n little v else s

/-- Another strand stores `v` to its own STRAND_INTR_ID (rule R1403). The model's own strand does so by STXA. -/
def peerStoresIntrId (s : State) (strand : BitVec 6) (v : BitVec 16) : State :=
  { s with
    peerIntrIds := bankWrite s.peerIntrIds strand
      ((bankRead s.peerIntrIds strand &&& ~~~Config.intrIdWritableMask) ||| (v &&& Config.intrIdWritableMask)) }

/-- STRAND_INTR_ID of a strand of the chip. -/
def intrIdOf (s : State) (strand : BitVec 6) : BitVec 16 :=
  if strand = s.chip.strand then s.cmt.intrId else bankRead s.peerIntrIds strand

/-- The available strands whose interrupt ID is `id`, in ascending order. -/
def strandsWithIntrId (s : State) (id : BitVec 16) : List Nat :=
  (List.range 64).filter fun n => s.chip.available.getLsbD n && intrIdOf s (BitVec.ofNat 6 n) == id

/-- The eight doublewords of a packet are stored at the doublewords from number `first` on, in ascending order (rule R290). -/
def packetStored (s : State) (first : BitVec 61) (packet : Bank 64 3) : State :=
  (List.range 8).foldl
    (fun u k => otherAgentStores u ((first + BitVec.ofNat 61 k) ++ 0#3) 8 false (bankRead packet (BitVec.ofNat 3 k))) s

/-- The tail register of a queue of `size` bytes after one more entry (rules R1355, R1357). -/
def nextTail (size : Nat) (tail : DWord) : DWord := BitVec.ofNat 64 ((tail.toNat + 64) % size) &&& queueRegMask

/-- Deliver(target, q, packet) where the target is the model's own strand (rule R1357): `q` is the CPU mondo, device mondo or
resumable error queue. A parked strand and a full queue accept nothing. -/
def accepts (s : State) (q : Fin 3) (first : BitVec 61) (size : Nat) (packet : Bank 64 3) : State :=
  let head := bankRead s.queues (BitVec.ofNat 3 (2 * q.val))
  let tail := nextTail size (bankRead s.queues (BitVec.ofNat 3 (2 * q.val + 1)))
  if isRunning s && tail != head then
    { packetStored s first packet with queues := bankWrite s.queues (BitVec.ofNat 3 (2 * q.val + 1)) tail }
  else s

/-- The optional `InterruptFabric` issues an interrupt to the interrupt ID `id` (rules R1357, R1403). The strand with that ID is the
target; one with none is dropped; where two strands have it, or the target is disabled, the behaviour is undefined and refused (rule
R1462 U13). The place of the packet, a number of doublewords, and the size of the queue are the platform's. A target that is not the
model's own strand has its queue outside this state; the packet stored there is the eight moves of `packetStored`. -/
def fabricDelivers (s : State) (id : BitVec 16) (q : Fin 3) (first : BitVec 61) (size : Nat) (packet : Bank 64 3) : Run :=
  match strandsWithIntrId s id with
  | [] => .next s
  | [n] =>
    if s.cmt.enableStatus.getLsbD n then
      .next (if n = s.chip.strand.toNat then accepts s q first size packet else s)
    else .refused .interruptToDisabledStrand
  | _ => .refused .duplicateInterruptId

/-- A hardware error that the environment reports (rule R13). -/
inductive ErrorEvent where
  | precise (e : PreciseError)
  | store
  | swRecoverable
deriving DecidableEq, Repr

/-- An error is reported to the strand: one of its own (rule R1413). A parked strand takes the trap once it runs again. -/
def raiseError (s : State) : ErrorEvent → State
  | .precise e => { s with errors := { s.errors with precise := some e } }
  | .store => { s with errors := { s.errors with storeError := true } }
  | .swRecoverable => { s with errors := { s.errors with swRecoverable := true } }

/-- The condition of sw_recoverable_error is cleared, in error registers that the spec leaves out (rules R9, R1206). -/
def clearError (s : State) : State := { s with errors := { s.errors with swRecoverable := false } }

/-- An error that no strand can be charged with goes to the strand that ERROR_STEERING names; where that is disabled, what happens to
it is undefined, and no other strand is affected (rule R1413). -/
def steeredError (s : State) (e : ErrorEvent) : Run :=
  if s.cmt.errorSteering ≠ s.chip.strand then .next s
  else if namesOwn s.chip s.cmt.enableStatus then .next (raiseError s e)
  else .refused .errorToDisabledStrand

/-- The trap stack after a power-on reset: TT of level MAXTL is 1, all else as it was left (rules R1455, R1458). -/
def porTrapStack (left : Vector TrapFrame 8) : Vector TrapFrame 8 :=
  let frames := left.map fun f => { f with delaySlot := false }
  frames.set 6 { frames[6] with tt := 0x001 }

/-- The MMU after a power-on reset: TLBs invalidated, translation and watchpoints off, all else as it was left (rule R1455). -/
def porMmu (left : Mmu) : Mmu :=
  { left with
    itlb := []
    dtlb := []
    immuEnable := false
    dmmuEnable := false
    watch := 0
    partitionId := left.partitionId &&& Config.partitionIdMask }

/-- A power-on reset of the machine in any state (rules R1450, R1451, R1455 to R1458): every register that TABLE 16-1 gives a value has
it, as in `State.resetOf`; every other one, and memory, holds what the environment left there, which is what it holds in `left`. The
width and the strands are the machine's own. -/
def powerOnReset (s left : State) : State :=
  { State.resetOf s.paWidth s.chip with
    globals := left.globals
    windows := left.windows
    fregs := left.fregs
    fsr := left.fsr
    y := left.y
    ccr := left.ccr
    asi := left.asi
    fprs := left.fprs
    pcr := left.pcr
    pic := left.pic
    gsr := left.gsr
    softint := left.softint
    tickCmpr := ⟨true, left.tickCmpr.value⟩
    stick := ⟨true, left.stick.counter⟩
    stickCmpr := ⟨true, left.stickCmpr.value⟩
    win := left.win
    trapStack := porTrapStack left.trapStack
    tba := left.tba
    pil := left.pil
    hsp := left.hsp
    htba := left.htba
    hstickCmpr := ⟨true, left.hstickCmpr.value⟩
    scratchpad := left.scratchpad
    hypScratchpad := left.hypScratchpad
    queues := left.queues.map (· &&& queueRegMask)
    mmu := porMmu left.mmu
    memory := left.memory
    freeCount := s.freeCount
    undefinedCases := s.undefinedCases }

/-- The CMT registers after a warm reset (rules R1456, R1413); the read-only bits of XIR_STEERING read as STRAND_AVAILABLE
(rule R1412). -/
def Cmt.afterWarmReset (h : Chip) (c : Cmt) : Cmt :=
  { c with
    enableStatus := c.enable
    xirSteering := (c.enable &&& Config.xirSteeringWritable) ||| (h.available &&& ~~~Config.xirSteeringWritable)
    running := lowestBit c.enable
    runningStatus := lowestBit c.enable
    errorSteering := BitVec.ofNat 6 (lowestIndex c.enable) }

/-- A warm reset (rules R1452, R1455, R1456, decision D30). An XIR that is pending and a store_error or precise error not yet taken are
ignored, as the rule says of every other reset and trap. A strand that this reset enables again keeps what the WMR column of TABLE 16-1
marks unchanged, though the source says its earlier state "should be assumed to be lost" (rule R1405): DESIGN CHOICE, entry 19. The hyperprivileged scratchpad registers hold free values afterwards (rule R357, assumption log entry 51). -/
def warmReset (s : State) : State :=
  { setFrame (drawn s) 6 (savedFrame s 0x001) with
    tl := 6
    gl := 3
    pstate := Pstate.afterReset s.pstate.tle
    hpstate := Hpstate.afterReset
    tick := { s.tick with npt := true }
    cmt := Cmt.afterWarmReset s.chip s.cmt
    pc := redVector s.paWidth 0x20
    npc := redVector s.paWidth 0x20 + 4
    hypScratchpad := freeScratchpads s
    xirPending := false
    errors := ⟨none, false, s.errors.swRecoverable⟩
    delaySlot := false
    lastTrap := none }

/-- An externally initiated reset arrives: it is pending on the strand if XIR_STEERING selects it and it is enabled
(rules R1453, R1412). -/
def assertXir (s : State) : State :=
  if namesOwn s.chip (s.cmt.xirSteering &&& s.cmt.enableStatus) then { s with xirPending := true } else s

end Sys2Proof.Machine
end

