-- ==== Sys2Proof/Machine/Step.lean ====
section
/-! DEFINITION. The step of the strand (rule R1201) and the placing of an instruction where the next step fetches. -/

namespace Sys2Proof.Machine

/-- One step: a parked strand only sees its counters advance; a running one advances them and then takes the trap of the
highest priority or runs the instruction at PC (rules R1201, R1407, R1480). -/
noncomputable def step (s : State) : Host.Outcome State Fault Refusal :=
  if isRunning s then runStep (startStep s) else .next (parkedStep s)

/-- The instruction word `w` stored where the next step fetches. Every instruction is 32 bits, so `nbits` is 32. -/
def State.withFetchWord (s : State) (_nbits w : Nat) : State :=
  { s with memory := writeBE s.paWidth s.memory (fetchAddress s) (BitVec.ofNat 64 (w % 2 ^ 32)) 4 }

end Sys2Proof.Machine
end

