-- ==== Sys2Proof/WellFormed.lean ====
section
/-! DEFINITION. Which terms of Instr stand for an instruction word: where two rows of spec/opcode_table.json share an opcode, the
fields of a term must select its own row. Every other field may hold any value. -/

namespace Sys2Proof

/-- The operand is an immediate ASI in the set given. -/
def selects (set : BitVec 8 → Bool) : AsiOperand → Bool
  | .reg _ asi => set asi
  | .imm _ => false

/-- The term is the instruction of some word:
* `SETHI 0, %g0` is NOP (rule R517);
* an immediate ASI of the LDTX, block, short or partial-store sets selects LDTXA, LDBLOCKF, STBLOCKF, LDSHORTF, STSHORTF or
  STPARTIALF from the opcodes of LDTWA, LDDFA and STDFA (rules R751, R841, R851), and these rows have such an ASI;
* IMPDEP1 has an `opf` that no VIS instruction has (rule R951);
* IMPDEP2B has `op4` other than 0 (rule R953). -/
def wellFormed : Instr → Bool
  | .add _ _ _ => true
  | .addcc _ _ _ => true
  | .and _ _ _ => true
  | .andcc _ _ _ => true
  | .or _ _ _ => true
  | .orcc _ _ _ => true
  | .xor _ _ _ => true
  | .xorcc _ _ _ => true
  | .sub _ _ _ => true
  | .subcc _ _ _ => true
  | .andn _ _ _ => true
  | .andncc _ _ _ => true
  | .orn _ _ _ => true
  | .orncc _ _ _ => true
  | .xnor _ _ _ => true
  | .xnorcc _ _ _ => true
  | .addc _ _ _ => true
  | .addccc _ _ _ => true
  | .subc _ _ _ => true
  | .subccc _ _ _ => true
  | .mulx _ _ _ => true
  | .sdivx _ _ _ => true
  | .udivx _ _ _ => true
  | .umul _ _ _ => true
  | .smul _ _ _ => true
  | .umulcc _ _ _ => true
  | .smulcc _ _ _ => true
  | .udiv _ _ _ => true
  | .sdiv _ _ _ => true
  | .udivcc _ _ _ => true
  | .sdivcc _ _ _ => true
  | .mulscc _ _ _ => true
  | .taddcc _ _ _ => true
  | .taddcctv _ _ _ => true
  | .tsubcc _ _ _ => true
  | .tsubcctv _ _ _ => true
  | .sll _ _ _ => true
  | .sllx _ _ _ => true
  | .srl _ _ _ => true
  | .srlx _ _ _ => true
  | .sra _ _ _ => true
  | .srax _ _ _ => true
  | .sethi rd imm22 => !(rd == 0 && imm22 == 0)
  | .nop => true
  | .popc _ _ => true
  | .mova _ _ _ => true
  | .movn _ _ _ => true
  | .movne _ _ _ => true
  | .move _ _ _ => true
  | .movg _ _ _ => true
  | .movle _ _ _ => true
  | .movge _ _ _ => true
  | .movl _ _ _ => true
  | .movgu _ _ _ => true
  | .movleu _ _ _ => true
  | .movcc _ _ _ => true
  | .movcs _ _ _ => true
  | .movpos _ _ _ => true
  | .movneg _ _ _ => true
  | .movvc _ _ _ => true
  | .movvs _ _ _ => true
  | .movfa _ _ _ => true
  | .movfn _ _ _ => true
  | .movfu _ _ _ => true
  | .movfg _ _ _ => true
  | .movfug _ _ _ => true
  | .movfl _ _ _ => true
  | .movful _ _ _ => true
  | .movflg _ _ _ => true
  | .movfne _ _ _ => true
  | .movfe _ _ _ => true
  | .movfue _ _ _ => true
  | .movfge _ _ _ => true
  | .movfuge _ _ _ => true
  | .movfle _ _ _ => true
  | .movfule _ _ _ => true
  | .movfo _ _ _ => true
  | .movrz _ _ _ => true
  | .movrlez _ _ _ => true
  | .movrlz _ _ _ => true
  | .movrnz _ _ _ => true
  | .movrgz _ _ _ => true
  | .movrgez _ _ _ => true
  | .ba _ _ => true
  | .bn _ _ => true
  | .bne _ _ => true
  | .be _ _ => true
  | .bg _ _ => true
  | .ble _ _ => true
  | .bge _ _ => true
  | .bl _ _ => true
  | .bgu _ _ => true
  | .bleu _ _ => true
  | .bcc _ _ => true
  | .bcs _ _ => true
  | .bpos _ _ => true
  | .bneg _ _ => true
  | .bvc _ _ => true
  | .bvs _ _ => true
  | .bpa _ _ _ _ => true
  | .bpn _ _ _ _ => true
  | .bpne _ _ _ _ => true
  | .bpe _ _ _ _ => true
  | .bpg _ _ _ _ => true
  | .bple _ _ _ _ => true
  | .bpge _ _ _ _ => true
  | .bpl _ _ _ _ => true
  | .bpgu _ _ _ _ => true
  | .bpleu _ _ _ _ => true
  | .bpcc _ _ _ _ => true
  | .bpcs _ _ _ _ => true
  | .bppos _ _ _ _ => true
  | .bpneg _ _ _ _ => true
  | .bpvc _ _ _ _ => true
  | .bpvs _ _ _ _ => true
  | .brz _ _ _ _ => true
  | .brlez _ _ _ _ => true
  | .brlz _ _ _ _ => true
  | .brnz _ _ _ _ => true
  | .brgz _ _ _ _ => true
  | .brgez _ _ _ _ => true
  | .call _ => true
  | .fba _ _ => true
  | .fbn _ _ => true
  | .fbu _ _ => true
  | .fbg _ _ => true
  | .fbug _ _ => true
  | .fbl _ _ => true
  | .fbul _ _ => true
  | .fblg _ _ => true
  | .fbne _ _ => true
  | .fbe _ _ => true
  | .fbue _ _ => true
  | .fbge _ _ => true
  | .fbuge _ _ => true
  | .fble _ _ => true
  | .fbule _ _ => true
  | .fbo _ _ => true
  | .fbpa _ _ _ _ => true
  | .fbpn _ _ _ _ => true
  | .fbpu _ _ _ _ => true
  | .fbpg _ _ _ _ => true
  | .fbpug _ _ _ _ => true
  | .fbpl _ _ _ _ => true
  | .fbpul _ _ _ _ => true
  | .fbplg _ _ _ _ => true
  | .fbpne _ _ _ _ => true
  | .fbpe _ _ _ _ => true
  | .fbpue _ _ _ _ => true
  | .fbpge _ _ _ _ => true
  | .fbpuge _ _ _ _ => true
  | .fbple _ _ _ _ => true
  | .fbpule _ _ _ _ => true
  | .fbpo _ _ _ _ => true
  | .illtrap _ => true
  | .jmpl _ _ _ => true
  | .return_ _ _ => true
  | .ta _ _ _ => true
  | .tn _ _ _ => true
  | .tne _ _ _ => true
  | .te _ _ _ => true
  | .tg _ _ _ => true
  | .tle _ _ _ => true
  | .tge _ _ _ => true
  | .tl _ _ _ => true
  | .tgu _ _ _ => true
  | .tleu _ _ _ => true
  | .tcc _ _ _ => true
  | .tcs _ _ _ => true
  | .tpos _ _ _ => true
  | .tneg _ _ _ => true
  | .tvc _ _ _ => true
  | .tvs _ _ _ => true
  | .done => true
  | .retry => true
  | .ldsb _ _ _ => true
  | .ldsh _ _ _ => true
  | .ldsw _ _ _ => true
  | .ldub _ _ _ => true
  | .lduh _ _ _ => true
  | .lduw _ _ _ => true
  | .ldx _ _ _ => true
  | .ldsba _ _ _ => true
  | .ldsha _ _ _ => true
  | .ldswa _ _ _ => true
  | .lduba _ _ _ => true
  | .lduha _ _ _ => true
  | .lduwa _ _ _ => true
  | .ldxa _ _ _ => true
  | .ldtw _ _ _ => true
  | .ldtwa _ _ ea => !selects asiIsLdtx ea
  | .ldtxa _ _ _ asi => asiIsLdtx asi
  | .stb _ _ _ => true
  | .sth _ _ _ => true
  | .stw _ _ _ => true
  | .stx _ _ _ => true
  | .stba _ _ _ => true
  | .stha _ _ _ => true
  | .stwa _ _ _ => true
  | .stxa _ _ _ => true
  | .sttw _ _ _ => true
  | .sttwa _ _ _ => true
  | .ldstub _ _ _ => true
  | .ldstuba _ _ _ => true
  | .swap _ _ _ => true
  | .swapa _ _ _ => true
  | .casa _ _ _ _ => true
  | .casxa _ _ _ _ => true
  | .prefetch _ _ _ => true
  | .prefetcha _ _ _ => true
  | .membar _ _ => true
  | .stbar => true
  | .flush _ _ => true
  | .ldf _ _ _ => true
  | .lddf _ _ _ => true
  | .ldxfsr _ _ => true
  | .ldqf _ _ _ => true
  | .ldfsr _ _ => true
  | .ldfa _ _ _ => true
  | .lddfa _ _ ea => !selects (fun a => asiIsBlock a || asiIsShort a) ea
  | .ldqfa _ _ _ => true
  | .ldblockf _ _ _ asi => asiIsBlock asi
  | .ldshortf _ _ _ asi => asiIsShort asi
  | .stf _ _ _ => true
  | .stdf _ _ _ => true
  | .stxfsr _ _ => true
  | .stqf _ _ _ => true
  | .stfsr _ _ => true
  | .stfa _ _ _ => true
  | .stdfa _ _ ea => !selects (fun a => asiIsBlock a || asiIsShort a || asiIsPartial a) ea
  | .stblockf _ _ _ asi => asiIsBlock asi
  | .stshortf _ _ _ asi => asiIsShort asi
  | .stpartialf _ _ _ asi => asiIsPartial asi
  | .stqfa _ _ _ => true
  | .save _ _ _ => true
  | .restore _ _ _ => true
  | .saved => true
  | .restored => true
  | .allclean => true
  | .otherw => true
  | .normalw => true
  | .invalw => true
  | .flushw => true
  | .rdy _ => true
  | .rdccr _ => true
  | .rdasi _ => true
  | .rdtick _ => true
  | .rdpc _ => true
  | .rdfprs _ => true
  | .rdpcr _ => true
  | .rdpic _ => true
  | .rdgsr _ => true
  | .rdsoftint _ => true
  | .rdtick_cmpr _ => true
  | .rdstick _ => true
  | .rdstick_cmpr _ => true
  | .wry _ _ => true
  | .wrccr _ _ => true
  | .wrasi _ _ => true
  | .wrfprs _ _ => true
  | .wrpcr _ _ => true
  | .wrpic _ _ => true
  | .wrgsr _ _ => true
  | .wrsoftint_set _ _ => true
  | .wrsoftint_clr _ _ => true
  | .wrsoftint _ _ => true
  | .wrtick_cmpr _ _ => true
  | .wrstick _ _ => true
  | .wrstick_cmpr _ _ => true
  | .sir _ => true
  | .rdpr _ _ => true
  | .wrpr _ _ _ => true
  | .rdhpr _ _ => true
  | .wrhpr _ _ _ => true
  | .shutdown => true
  | .impdep1 _ _ opf _ => !visAssigned opf
  | .impdep2a _ _ _ => true
  | .impdep2b _ _ op4 _ => op4 != 0
  | .fadds _ _ _ => true
  | .faddd _ _ _ => true
  | .faddq _ _ _ => true
  | .fsubs _ _ _ => true
  | .fsubd _ _ _ => true
  | .fsubq _ _ _ => true
  | .fmuls _ _ _ => true
  | .fmuld _ _ _ => true
  | .fmulq _ _ _ => true
  | .fdivs _ _ _ => true
  | .fdivd _ _ _ => true
  | .fdivq _ _ _ => true
  | .fsmuld _ _ _ => true
  | .fdmulq _ _ _ => true
  | .fsqrts _ _ => true
  | .fsqrtd _ _ => true
  | .fsqrtq _ _ => true
  | .fcmps _ _ _ => true
  | .fcmpd _ _ _ => true
  | .fcmpq _ _ _ => true
  | .fcmpes _ _ _ => true
  | .fcmped _ _ _ => true
  | .fcmpeq _ _ _ => true
  | .fitos _ _ => true
  | .fitod _ _ => true
  | .fitoq _ _ => true
  | .fxtos _ _ => true
  | .fxtod _ _ => true
  | .fxtoq _ _ => true
  | .fstox _ _ => true
  | .fdtox _ _ => true
  | .fqtox _ _ => true
  | .fstoi _ _ => true
  | .fdtoi _ _ => true
  | .fqtoi _ _ => true
  | .fstod _ _ => true
  | .fstoq _ _ => true
  | .fdtos _ _ => true
  | .fdtoq _ _ => true
  | .fqtos _ _ => true
  | .fqtod _ _ => true
  | .fmovs _ _ => true
  | .fmovd _ _ => true
  | .fmovq _ _ => true
  | .fnegs _ _ => true
  | .fnegd _ _ => true
  | .fnegq _ _ => true
  | .fabss _ _ => true
  | .fabsd _ _ => true
  | .fabsq _ _ => true
  | .fmovsicc _ _ _ => true
  | .fmovdicc _ _ _ => true
  | .fmovqicc _ _ _ => true
  | .fmovsxcc _ _ _ => true
  | .fmovdxcc _ _ _ => true
  | .fmovqxcc _ _ _ => true
  | .fmovsfcc _ _ _ _ => true
  | .fmovdfcc _ _ _ _ => true
  | .fmovqfcc _ _ _ _ => true
  | .fmovrsz _ _ _ => true
  | .fmovrslez _ _ _ => true
  | .fmovrslz _ _ _ => true
  | .fmovrsnz _ _ _ => true
  | .fmovrsgz _ _ _ => true
  | .fmovrsgez _ _ _ => true
  | .fmovrdz _ _ _ => true
  | .fmovrdlez _ _ _ => true
  | .fmovrdlz _ _ _ => true
  | .fmovrdnz _ _ _ => true
  | .fmovrdgz _ _ _ => true
  | .fmovrdgez _ _ _ => true
  | .fmovrqz _ _ _ => true
  | .fmovrqlez _ _ _ => true
  | .fmovrqlz _ _ _ => true
  | .fmovrqnz _ _ _ => true
  | .fmovrqgz _ _ _ => true
  | .fmovrqgez _ _ _ => true
  | .alignaddress _ _ _ => true
  | .alignaddress_little _ _ _ => true
  | .faligndata _ _ _ => true
  | .bmask _ _ _ => true
  | .bshuffle _ _ _ => true
  | .edge8cc _ _ _ => true
  | .edge8lcc _ _ _ => true
  | .edge16cc _ _ _ => true
  | .edge16lcc _ _ _ => true
  | .edge32cc _ _ _ => true
  | .edge32lcc _ _ _ => true
  | .edge8n _ _ _ => true
  | .edge8ln _ _ _ => true
  | .edge16n _ _ _ => true
  | .edge16ln _ _ _ => true
  | .edge32n _ _ _ => true
  | .edge32ln _ _ _ => true
  | .array8 _ _ _ => true
  | .array16 _ _ _ => true
  | .array32 _ _ _ => true
  | .fcmple16 _ _ _ => true
  | .fcmpne16 _ _ _ => true
  | .fcmple32 _ _ _ => true
  | .fcmpne32 _ _ _ => true
  | .fcmpgt16 _ _ _ => true
  | .fcmpeq16 _ _ _ => true
  | .fcmpgt32 _ _ _ => true
  | .fcmpeq32 _ _ _ => true
  | .fpadd16 _ _ _ => true
  | .fpadd16s _ _ _ => true
  | .fpadd32 _ _ _ => true
  | .fpadd32s _ _ _ => true
  | .fpsub16 _ _ _ => true
  | .fpsub16s _ _ _ => true
  | .fpsub32 _ _ _ => true
  | .fpsub32s _ _ _ => true
  | .fzero _ => true
  | .fzeros _ => true
  | .fone _ => true
  | .fones _ => true
  | .fsrc1 _ _ => true
  | .fsrc1s _ _ => true
  | .fsrc2 _ _ => true
  | .fsrc2s _ _ => true
  | .fnot1 _ _ => true
  | .fnot1s _ _ => true
  | .fnot2 _ _ => true
  | .fnot2s _ _ => true
  | .for_ _ _ _ => true
  | .fors _ _ _ => true
  | .fnor _ _ _ => true
  | .fnors _ _ _ => true
  | .fand _ _ _ => true
  | .fands _ _ _ => true
  | .fnand _ _ _ => true
  | .fnands _ _ _ => true
  | .fxor _ _ _ => true
  | .fxors _ _ _ => true
  | .fxnor _ _ _ => true
  | .fxnors _ _ _ => true
  | .fornot1 _ _ _ => true
  | .fornot1s _ _ _ => true
  | .fornot2 _ _ _ => true
  | .fornot2s _ _ _ => true
  | .fandnot1 _ _ _ => true
  | .fandnot1s _ _ _ => true
  | .fandnot2 _ _ _ => true
  | .fandnot2s _ _ _ => true
  | .siam _ => true
  | .fexpand _ _ => true
  | .fmul8x16 _ _ _ => true
  | .fmul8x16au _ _ _ => true
  | .fmul8x16al _ _ _ => true
  | .fmul8sux16 _ _ _ => true
  | .fmul8ulx16 _ _ _ => true
  | .fmuld8sux16 _ _ _ => true
  | .fmuld8ulx16 _ _ _ => true
  | .fpack16 _ _ => true
  | .fpack32 _ _ _ => true
  | .fpackfix _ _ => true
  | .fpmerge _ _ _ => true
  | .pdist _ _ _ => true

end Sys2Proof
end

