-- ==== Sys2Proof/Safety.lean ====
section
/-! DEFINITION. What counts as a good state of the machine, and the terms in which the claims say what an instruction writes and
what it leaves alone. -/

namespace Sys2Proof.Machine

/-! ### Good states -/

/-- No address matches two entries of a TLB (rule R1374). -/
def TlbConsistent (tlb : List TlbEntry) : Prop :=
  ∀ (partition : DWord) (ctx : Option (BitVec 16)) (a : DWord), (tlb.filter (tlbMatches partition ctx a)).length ≤ 1

/-- What every step keeps. -/
structure State.Inv (s : State) : Prop where
  /-- Memory is in its one canonical form (rule R260). -/
  memory : Memory.wf s.paWidth s.memory = true
  /-- PC and NPC are multiples of 4 (rules R600, R603, R682, R1230). -/
  pcs : s.pc.extractLsb' 0 2 = 0 ∧ s.npc.extractLsb' 0 2 = 0
  /-- TL is at most MAXTL = 6 (rule R180). -/
  tl : s.tl.toNat ≤ 6
  /-- The low six bits of every queue register read as zero (rule R1355). -/
  queues : ∀ q : BitVec 3, (bankRead s.queues q).extractLsb' 0 6 = 0
  /-- A running strand is an enabled one, STRAND_RUNNING_STATUS is STRAND_RUNNING, and some strand runs
  (rules R1408, R1409). -/
  cmt : s.cmt.runningStatus = s.cmt.running ∧ s.cmt.running &&& ~~~s.cmt.enableStatus = 0 ∧ s.cmt.running ≠ 0
  /-- Only available strands are enabled or asked to be (rules R1405, R1406). -/
  available : s.cmt.enableStatus &&& ~~~s.chip.available = 0 ∧ s.cmt.enable &&& ~~~s.chip.available = 0
  /-- The strand is an available one, and the fields of STRAND_ID are disjoint (rules R1402, R1404). -/
  chip : chipLegal s.chip = true
  /-- Neither TLB ever holds two entries for one address. -/
  tlbs : TlbConsistent s.mmu.itlb ∧ TlbConsistent s.mmu.dtlb

/-- The state that only privileged or hyperprivileged software may change is the same in both states: CLEANWIN, OTHERWIN and
WSTATE of the window registers, of which SAVE, RESTORE and RETURN move the other three. The MMU's fault registers, which every
trap on a data access writes, are compared apart. -/
def SamePrivileged (s t : State) : Prop :=
  t.hpstate = s.hpstate ∧ t.pstate = s.pstate ∧ t.tl = s.tl ∧ t.gl = s.gl ∧ t.pil = s.pil ∧ t.tba = s.tba ∧ t.htba = s.htba
    ∧ t.trapStack = s.trapStack ∧ t.hsp = s.hsp ∧ t.hstickCmpr = s.hstickCmpr ∧ t.tick = s.tick ∧ t.stick = s.stick
    ∧ t.tickCmpr = s.tickCmpr ∧ t.stickCmpr = s.stickCmpr ∧ t.softint = s.softint ∧ t.pcr = s.pcr
    ∧ t.scratchpad = s.scratchpad ∧ t.hypScratchpad = s.hypScratchpad ∧ t.queues = s.queues ∧ t.cmt = s.cmt
    ∧ t.peerIntrIds = s.peerIntrIds ∧ t.xirPending = s.xirPending ∧ t.errors = s.errors
    ∧ t.win = { s.win with cwp := t.win.cwp, cansave := t.win.cansave, canrestore := t.win.canrestore }

/-- `t` is `s` after the parking of the model's own strand has completed: where STRAND_RUNNING does not name the strand, its bit of
STRAND_RUNNING_STATUS is 0, and nothing else has changed (rules R1408, R1409). -/
def ParkingCompleted (s t : State) : Prop :=
  t = { s with cmt := { s.cmt with runningStatus := t.cmt.runningStatus } }
    ∧ ∀ n : Nat, t.cmt.runningStatus.getLsbD n =
        (s.cmt.runningStatus.getLsbD n && (decide (n ≠ s.chip.strand.toNat) || s.cmt.running.getLsbD n))

/-! ### Registers written -/

/-- The register files of `t` are those of `s` with R[rd] <- v, `rd` read in the window and global set of `s`: every other
register of every window and global set is unchanged, and R[0] is never written (rules R41, R42, R44). -/
def WroteR (s t : State) (rd : BitVec 5) (v : DWord) : Prop :=
  (∀ i, bankRead t.globals i =
    if rd ≠ 0 ∧ rd.toNat < 8 ∧ i = s.gl ++ rd.extractLsb' 0 3 then v else bankRead s.globals i)
  ∧ ∀ i, bankRead t.windows i = if 8 ≤ rd.toNat ∧ i = windowSlot s.win.cwp rd then v else bankRead s.windows i

/-- As `WroteR` for the pair R[rd], R[rd + 1] of a twin instruction, `rd` even. -/
def WrotePair (s t : State) (rd : BitVec 5) (v0 v1 : DWord) : Prop :=
  ∃ u, WroteR s u rd v0 ∧ u = { s with globals := u.globals, windows := u.windows } ∧ WroteR u t (rd + 1) v1

/-- The F registers of `t` are those of `s` with F_S[field] <- v (rule R51). -/
def WroteFS (s t : State) (field : BitVec 5) (v : Word) : Prop :=
  ∀ i, bankRead t.fregs i = if i = 0#1 ++ field then v else bankRead s.fregs i

/-- The F registers of `t` are those of `s` with F_D[field] <- v: the even register of the pair has the upper word
(rules R51, R52). -/
def WroteFD (s t : State) (field : BitVec 5) (v : DWord) : Prop :=
  ∀ i, bankRead t.fregs i =
    if i = doubleNumber field ++ 0#1 then v.extractLsb' 32 32
    else if i = doubleNumber field ++ 1#1 then v.extractLsb' 0 32 else bankRead s.fregs i

/-- FPRS after a write of F[0] to F[31]. -/
def dirtyLower (p : Fprs) : Fprs := { p with dl := true }

/-- FPRS after a write of the double register a field names: `du` where it is F[32] or above (rule R68). -/
def dirtyDouble (p : Fprs) (field : BitVec 5) : Fprs :=
  if field.extractLsb' 0 1 = 1 then { p with du := true } else { p with dl := true }

/-! ### Memory read and written -/

/-- Every byte of memory reads the same, and physical addresses have the same width. -/
def SameBytes (s t : State) : Prop :=
  t.paWidth = s.paWidth ∧ ∀ a, readByte t.paWidth t.memory a = readByte s.paWidth s.memory a

/-- Byte `k` of an `n`-byte value as memory holds it from the lowest address on (rule R261). -/
def byteLane (n : Nat) (little : Bool) (v : DWord) (k : Nat) : Byte :=
  v.extractLsb' (8 * (if little then k else n - 1 - k)) 8

/-- The memory of `t` is that of `s` with the `n` bytes of `v` at physical address `pa`: those bytes, and every other byte
as before; physical addresses have the same width. -/
def Stored (s t : State) (pa : DWord) (n : Nat) (little : Bool) (v : DWord) : Prop :=
  t.paWidth = s.paWidth
  ∧ (∀ k < n, readByte t.paWidth t.memory (pa + BitVec.ofNat 64 k) = byteLane n little v k)
  ∧ ∀ a, (∀ k < n, physKey s.paWidth a ≠ physKey s.paWidth (pa + BitVec.ofNat 64 k)) →
      readByte t.paWidth t.memory a = readByte s.paWidth s.memory a

/-- `v` is the `n` bytes of memory at physical address `pa` in the byte order given, zero-extended (rule R261). -/
def Loaded (s : State) (pa : DWord) (n : Nat) (little : Bool) (v : DWord) : Prop :=
  v.toNat < 2 ^ (8 * n) ∧ ∀ k < n, byteLane n little v k = readByte s.paWidth s.memory (pa + BitVec.ofNat 64 k)

/-- A loaded value as a register receives it: `n` bytes, sign- or zero-extended. -/
def extended (n : Nat) (signed : Bool) (v : DWord) : DWord :=
  if signed then BitVec.ofInt 64 (v.setWidth (8 * n)).toInt else v

/-- Byte `k` of the 16 bytes of a pair of doublewords, byte 0 the most significant of the first. -/
def pairByte (a b : DWord) (k : Nat) : Byte := if k < 8 then byteLane 8 false a k else byteLane 8 false b (k - 8)

/-! ### Whole results: what is written, and that nothing else is -/

/-- `t` is `s` after an instruction that wrote R[rd] <- v and went on to the next instruction. -/
def ResultR (s t : State) (rd : BitVec 5) (v : DWord) : Prop :=
  WroteR s t rd v ∧ SameBytes s t ∧ t = advance { s with globals := t.globals, windows := t.windows }

/-- As `ResultR`, with CCR <- c. -/
def ResultRC (s t : State) (rd : BitVec 5) (v : DWord) (c : Ccr) : Prop :=
  WroteR s t rd v ∧ SameBytes s t ∧ t = advance { s with globals := t.globals, windows := t.windows, ccr := c }

/-- As `ResultR`, with Y <- y and CCR <- c. -/
def ResultRYC (s t : State) (rd : BitVec 5) (v : DWord) (y : Word) (c : Ccr) : Prop :=
  WroteR s t rd v ∧ SameBytes s t ∧ t = advance { s with globals := t.globals, windows := t.windows, y := y, ccr := c }

/-- As `ResultRYC` for an instruction that leaves Y a free value: nothing is said of Y, and the model's counter of free values
has advanced. -/
def ResultRC_freeY (s t : State) (rd : BitVec 5) (v : DWord) (c : Ccr) : Prop :=
  WroteR s t rd v ∧ SameBytes s t
    ∧ t = advance { s with globals := t.globals, windows := t.windows, y := t.y, ccr := c, freeCount := s.freeCount + 1 }

/-- `t` is `s` after an instruction that wrote F_S[rd] <- v and FSR <- f, and went on. -/
def ResultFS (s t : State) (rd : BitVec 5) (v : Word) (f : Fsr) : Prop :=
  WroteFS s t rd v ∧ SameBytes s t ∧ t = advance { s with fregs := t.fregs, fprs := dirtyLower s.fprs, fsr := f }

/-- `t` is `s` after an instruction that wrote F_D[rd] <- v and FSR <- f, and went on. -/
def ResultFD (s t : State) (rd : BitVec 5) (v : DWord) (f : Fsr) : Prop :=
  WroteFD s t rd v ∧ SameBytes s t ∧ t = advance { s with fregs := t.fregs, fprs := dirtyDouble s.fprs rd, fsr := f }

/-- `u` is `s` but for the registers in which the MMU reports a failed data access (rule R1383), and the model's counter of free
values. -/
def Reported (s u : State) : Prop :=
  u = { s with
    mmu := { s.mmu with dsfar := u.mmu.dsfar, dsfsr := u.mmu.dsfsr, dtagAccess := u.mmu.dtagAccess }
    freeCount := u.freeCount }

/-- `u` is `s` after the MMU reported a data_access_exception at `a` (already masked): DSFAR is the address, DSFSR has its fault type,
0x10 exactly for the no-fault-only violation and never 0, and D-Tag Access names the address in a context of which nothing is said
(rule R1383). -/
def ReportedDae (s u : State) (real : Bool) (a : DWord) (nfo : Bool) : Prop :=
  Reported s u ∧ u.mmu.dsfar = a
    ∧ (∃ ft : Byte, (if nfo = true then ft = 0x10 else ft ≠ 0) ∧ u.mmu.dsfsr = Config.dsfsrWithFt ft s.mmu.dsfsr)
    ∧ ∃ c, u.mmu.dtagAccess = Config.tagAccessEncode ⟨real, c, a⟩

/-- The instruction takes the trap `e`, and before it changes only DSFAR, which receives the effective address `a` as PSTATE.am
masks it (rule R1383). -/
def Refuses (s : State) (i : Instr) (e : Trap) (a : DWord) : Prop :=
  exec i s = .next (takeTrap { s with mmu := { s.mmu with dsfar := maskAm s a } } e)

/-- The instruction takes data_access_exception at `a`, because of its ASI or of the register it names (rules R1253, R1383). -/
def RefusesAsi (s : State) (i : Instr) (a : DWord) : Prop :=
  ∃ u, exec i s = .next (takeTrap u .dataAccessException) ∧ ReportedDae s u false (maskAm s a) false

/-- `t` is `s` after an instruction that stored `n` bytes of `v` at `pa`, and went on. -/
def ResultStore (s t : State) (pa : DWord) (n : Nat) (little : Bool) (v : DWord) : Prop :=
  Stored s t pa n little v ∧ t = advance { s with memory := t.memory }

/-- `t` is `s` after an atomic load-store: the old value in R[rd], the new one in memory. -/
def ResultAtomic (s t : State) (rd : BitVec 5) (old : DWord) (pa : DWord) (n : Nat) (little : Bool) (new : DWord) : Prop :=
  WroteR s t rd old ∧ Stored s t pa n little new
    ∧ t = advance { s with globals := t.globals, windows := t.windows, memory := t.memory }

/-! ### Condition codes as arithmetic -/

/-- The n and z of a result. -/
def SignZero {w : Nat} (c : CC) (r : BitVec w) : Prop := (c.n = true ↔ r.toInt < 0) ∧ (c.z = true ↔ r = 0)

/-- The flags of `a + b + cin`: v where the signed sum, c where the unsigned sum does not fit in `w` bits (rule R471). -/
def SumFlags {w : Nat} (c : CC) (a b : BitVec w) (cin : Bool) : Prop :=
  SignZero c (BitVec.ofNat w (a.toNat + b.toNat + cin.toNat))
    ∧ (c.v = true ↔ ¬(-(2 ^ (w - 1) : Int) ≤ a.toInt + b.toInt + cin.toNat ∧ a.toInt + b.toInt + cin.toNat < 2 ^ (w - 1)))
    ∧ (c.c = true ↔ 2 ^ w ≤ a.toNat + b.toNat + cin.toNat)

/-- The flags of `a - b - cin`: v where the signed difference does not fit in `w` bits, c where it borrows (rule R472). -/
def DifferenceFlags {w : Nat} (c : CC) (a b : BitVec w) (cin : Bool) : Prop :=
  SignZero c (BitVec.ofInt w ((a.toNat : Int) - b.toNat - cin.toNat))
    ∧ (c.v = true ↔ ¬(-(2 ^ (w - 1) : Int) ≤ a.toInt - b.toInt - cin.toNat ∧ a.toInt - b.toInt - cin.toNat < 2 ^ (w - 1)))
    ∧ (c.c = true ↔ a.toNat < b.toNat + cin.toNat)

/-- CCR of a sum: xcc of the 64-bit sum, icc of the sum of the low words. -/
def SumCcr (c : Ccr) (a b : DWord) (cin : Bool) : Prop :=
  SumFlags c.xcc a b cin ∧ SumFlags c.icc (lo32 a) (lo32 b) cin

/-- CCR of a difference. -/
def DifferenceCcr (c : Ccr) (a b : DWord) (cin : Bool) : Prop :=
  DifferenceFlags c.xcc a b cin ∧ DifferenceFlags c.icc (lo32 a) (lo32 b) cin

/-- CCR of a logical result: n and z of the result at both widths, v and c zero (rule R473). -/
def LogicalCcr (c : Ccr) (r : DWord) : Prop :=
  SignZero c.xcc r ∧ SignZero c.icc (lo32 r) ∧ c.xcc.v = false ∧ c.xcc.c = false ∧ c.icc.v = false ∧ c.icc.c = false

/-! ### The 64-bit images of the registers software reads, as numbers -/

/-- The number whose binary digits are the bits given, the most significant first. -/
def binary (l : List Bool) : Nat := l.foldl (fun n b => 2 * n + b.toNat) 0

/-- CCR: xcc in bits 7:4, icc in 3:0, each n z v c (rule R72). -/
def ccrImage (c : Ccr) : Nat := binary [c.xcc.n, c.xcc.z, c.xcc.v, c.xcc.c, c.icc.n, c.icc.z, c.icc.v, c.icc.c]

/-- A field of IEEE exceptions: nv of uf dz nx (rules R59, R64, R65). -/
def ieeeImage (e : IeeeFlags) : Nat := binary [e.nv, e.of, e.uf, e.dz, e.nx]

/-- FSR (rules R55 to R65). -/
def fsrImage (f : Fsr) : Nat :=
  f.fcc3.toNat * 2 ^ 36 + f.fcc2.toNat * 2 ^ 34 + f.fcc1.toNat * 2 ^ 32 + f.rd.toNat * 2 ^ 30 + ieeeImage f.tem * 2 ^ 23
    + Config.fsrVer.val * 2 ^ 17 + f.ftt.toNat * 2 ^ 14 + f.fcc0.toNat * 2 ^ 10 + ieeeImage f.aexc * 2 ^ 5 + ieeeImage f.cexc

/-- PCR (rule R77). -/
def pcrImage (p : Pcr) : Nat := p.su.toNat * 2 ^ 11 + p.sl.toNat * 2 ^ 4 + binary [p.ut, p.st, p.priv]

/-- GSR (rule R79). -/
def gsrImage (g : Gsr) : Nat :=
  g.mask.toNat * 2 ^ 32 + g.im.toNat * 2 ^ 27 + g.irnd.toNat * 2 ^ 25 + g.scale.toNat * 2 ^ 3 + g.align.toNat

/-- TICK or STICK: npt is bit 63 (rules R74, R84). -/
def counterImage (c : Counter) : Nat := c.npt.toNat * 2 ^ 63 + c.counter.toNat

/-- A compare register: int_dis is bit 63 (rules R83, R85, R206). -/
def compareImage (c : Compare) : Nat := c.intDis.toNat * 2 ^ 63 + c.value.toNat

/-- PSTATE: tct 12, cle 9, tle 8, mm 7:6 (00), pef 4, am 3, priv 2, ie 1 (rule R170). -/
def pstateImage (p : Pstate) : Nat :=
  binary [p.tct, false, false, p.cle, p.tle, false, false, false, p.pef, p.am, p.priv, p.ie, false]

/-- HPSTATE: ibe 10, red 5, hpriv 2, tlz 0 (rule R201). -/
def hpstateImage (h : Hpstate) : Nat :=
  binary [h.ibe, false, false, false, false, h.red, false, false, h.hpriv, false, h.tlz]

/-- TSTATE: gl 42:40, ccr 39:32, asi 31:24, pstate 20:8, cwp 2:0 (rule R163). -/
def tstateImage (t : Tstate) : Nat :=
  t.gl.toNat * 2 ^ 40 + ccrImage t.ccr * 2 ^ 32 + t.asi.toNat * 2 ^ 24 + pstateImage t.pstate * 2 ^ 8 + t.cwp.toNat

/-! ### Floating-point values -/

/-- The value of a sign-less pattern of a format (rules R245, R246); the pattern of infinity stands for the power of two that
follows the largest finite value. -/
def magnitudeValue (f : FpFormat) (x : Nat) : ℚ :=
  if x < 2 ^ f.frac then (x : ℚ) * 2 ^ (1 - (f.bias : ℤ) - f.frac)
  else ((2 ^ f.frac + x % 2 ^ f.frac : Nat) : ℚ) * 2 ^ (((x / 2 ^ f.frac : Nat) : ℤ) - f.bias - f.frac)

/-- The value of a pattern that is not a NaN. -/
def patternValue (f : FpFormat) (x : Nat) : ℚ :=
  if f.signBit ≤ x then -magnitudeValue f (x - f.signBit) else magnitudeValue f x

/-- A pattern of the format that is neither infinite nor a NaN. -/
def IsFinite (f : FpFormat) (x : Nat) : Prop := x < 2 * f.signBit ∧ x % f.signBit < f.infinity

/-- The mode rounds values of this sign away from zero (rule R56: 2 is toward +infinity, 3 toward -infinity). -/
def RoundsAway (mode : BitVec 2) (sign : Bool) : Prop := (mode = 2 ∧ sign = false) ∨ (mode = 3 ∧ sign = true)

/-- The sign-less pattern `m` is the value `v`, rounded as IEEE 754 says: to nearest, ties to even (mode 0); away from zero; or
toward zero (rule R56). -/
def RoundedTo (f : FpFormat) (mode : BitVec 2) (sign : Bool) (v : ℚ) (m : Nat) : Prop :=
  (mode = 0 →
    (magnitudeValue f m ≤ v → 2 * (v - magnitudeValue f m) ≤ magnitudeValue f (m + 1) - magnitudeValue f m
      ∧ (2 * (v - magnitudeValue f m) = magnitudeValue f (m + 1) - magnitudeValue f m → m % 2 = 0))
    ∧ (v < magnitudeValue f m → 2 * (magnitudeValue f m - v) ≤ magnitudeValue f m - magnitudeValue f (m - 1)
      ∧ (2 * (magnitudeValue f m - v) = magnitudeValue f m - magnitudeValue f (m - 1) → m % 2 = 0)))
  ∧ (RoundsAway mode sign → v ≤ magnitudeValue f m ∧ magnitudeValue f (m - 1) < v)
  ∧ (mode ≠ 0 → ¬RoundsAway mode sign → magnitudeValue f m ≤ v ∧ v < magnitudeValue f (m + 1))

/-- An operation delivers the exact signed value `c`, rounded once. -/
def Delivers (f : FpFormat) (rnd : Rounding) (sign : Bool) (c : ℚ) (r : FpResult) : Prop :=
  ∃ x : FpFraction, 0 < x.den ∧ (x.num : ℚ) / x.den = |c| ∧ r = deliver f rnd sign x

/-- FSR after an FPop that detected `e` and did not trap: ftt 0, cexc the exceptions, aexc with them added (rule R965). -/
def fsrCompleted (f : Fsr) (e : IeeeFlags) : Fsr :=
  { f with
    ftt := 0
    cexc := e
    aexc := ⟨f.aexc.nv || e.nv, f.aexc.of || e.of, f.aexc.uf || e.uf, f.aexc.dz || e.dz, f.aexc.nx || e.nx⟩ }

/-- None of the exceptions detected is enabled to trap. -/
def NoneEnabled (tem e : IeeeFlags) : Prop :=
  (tem.nv && e.nv) = false ∧ (tem.of && e.of) = false ∧ (tem.uf && e.uf) = false ∧ (tem.dz && e.dz) = false
    ∧ (tem.nx && e.nx) = false

/-- The one exception that traps is `x`: of those detected and enabled the first of nv, dz, of, uf, nx (rule R965). -/
def OneTraps (tem e x : IeeeFlags) : Prop :=
  ¬NoneEnabled tem e
    ∧ x.nv = (tem.nv && e.nv)
    ∧ x.dz = (!(tem.nv && e.nv) && (tem.dz && e.dz))
    ∧ x.of = (!(tem.nv && e.nv) && !(tem.dz && e.dz) && (tem.of && e.of))
    ∧ x.uf = (!(tem.nv && e.nv) && !(tem.dz && e.dz) && !(tem.of && e.of) && (tem.uf && e.uf))
    ∧ x.nx = (!(tem.nv && e.nv) && !(tem.dz && e.dz) && !(tem.of && e.of) && !(tem.uf && e.uf) && (tem.nx && e.nx))

/-! ### Registers reached through ASIs -/

/-- Where LDXA may read a register (the access column of rule R342): the ASI, and the first and last of a run of addresses eight
bytes apart. -/
def readableRegisters : List (Byte × Nat × Nat) :=
  [(0x20, 0, 0x38), (0x21, 8, 0x10), (0x25, 0x3C0, 0x3F8), (0x41, 0, 0), (0x41, 0x10, 0x10), (0x41, 0x20, 0x20), (0x41, 0x30, 0x30),
    (0x41, 0x50, 0x58), (0x4F, 0, 0x38), (0x50, 0, 0), (0x50, 0x18, 0x18), (0x50, 0x30, 0x30), (0x52, 0x108, 0x120),
    (0x52, 0x208, 0x220), (0x54, 0x10, 0x98), (0x55, 0, 0x3F8), (0x55, 0x800, 0x7FFF8), (0x56, 0, 0xFFFF8), (0x58, 0, 0),
    (0x58, 0x18, 0x20), (0x58, 0x30, 0x40), (0x58, 0x80, 0x80), (0x5D, 0, 0x3F8), (0x5D, 0x800, 0x7FFF8), (0x5E, 0, 0xFFFF8),
    (0x63, 0, 0), (0x63, 0x10, 0x10)]

/-- Where STXA may write a register (rule R342), as in `readableRegisters`; privileged mode may not write the queue tails besides. -/
def writableRegisters : List (Byte × Nat × Nat) :=
  [(0x20, 0, 0x38), (0x21, 8, 0x10), (0x25, 0x3C0, 0x3F8), (0x41, 0x20, 0x20), (0x41, 0x30, 0x30), (0x41, 0x50, 0x50),
    (0x41, 0x60, 0x68), (0x4F, 0, 0x38), (0x50, 0x18, 0x18), (0x50, 0x30, 0x30), (0x52, 0x108, 0x120), (0x52, 0x208, 0x220),
    (0x54, 0, 0), (0x54, 0x10, 0x98), (0x55, 0, 0x3F8), (0x55, 0x800, 0x7FFF8), (0x57, 0, 0), (0x58, 0x18, 0x18),
    (0x58, 0x30, 0x40), (0x58, 0x80, 0x80), (0x5C, 0, 0), (0x5D, 0, 0x3F8), (0x5D, 0x800, 0x7FFF8), (0x5F, 0, 0), (0x63, 0, 0)]

/-- One of the runs of addresses holds this one. -/
def RegisterAt (l : List (Byte × Nat × Nat)) (asi : Byte) (a : DWord) : Prop :=
  ∃ p ∈ l, p.1 = asi ∧ p.2.1 ≤ a.toNat ∧ a.toNat ≤ p.2.2

/-- LDXA at the operand's address answers the value `v` of a register; so does LDDFA, in F_D[rd], where the FPU is enabled
(rules R345, R841). -/
def ReadsRegister (s : State) (rd rs1 : BitVec 5) (ea : AsiOperand) (v : DWord) : Prop :=
  (∃ t, exec (.ldxa rd rs1 ea) s = .next t ∧ ResultR s t rd v)
  ∧ (s.pstate.pef = true → s.fprs.fef = true → ∃ t, exec (.lddfa rd rs1 ea) s = .next t ∧ ResultFD s t rd v s.fsr)

/-- LDXA, and LDDFA where the FPU is enabled, of an MMU register at `b` (already masked) whose value is the platform's: they answer
what the open function `MMULdxa` says, or take data_access_exception at the operand's address where it says so (rules R17, R1382). -/
def ReadsPlatform (s : State) (rd rs1 : BitVec 5) (ea : AsiOperand) (b : DWord) : Prop :=
  match Config.mmuLdxa s.mmu (asiNumber s ea) b with
  | some x => ReadsRegister s rd rs1 ea x
  | none => RefusesAsi s (.ldxa rd rs1 ea) (asiAddress s rs1 ea)
      ∧ (s.pstate.pef = true → s.fprs.fef = true → RefusesAsi s (.lddfa rd rs1 ea) (asiAddress s rs1 ea))

/-- The store `i` of `v` to the MMU register at `b` (already masked) is what the open function `MMUStxa` makes of it: where it
answers an MMU the store completes with that MMU, of which `tlbs` holds, and nothing outside the MMU changes; where it answers none the
store takes data_access_exception at `a` (rules R17, R1382). -/
def StoresPlatform (s : State) (i : Instr) (asi : Byte) (a b v : DWord) (tlbs : Mmu → Prop) : Prop :=
  match Config.mmuStxa s.mmu asi b v with
  | some n => (∃ t, exec i s = .next t ∧ t = advance { s with mmu := n.val }) ∧ tlbs n.val
  | none => RefusesAsi s i a

/-- An entry of the TLB `new` that the TLB `old` did not hold matches no address that another entry of `new` matches
(rule R1382). -/
def InstallsLawfully (old new : List TlbEntry) : Prop :=
  ∀ d ∈ new, d ∉ old → ∀ e ∈ new, e ≠ d → ∀ q x y, ¬(tlbMatches q x y d = true ∧ tlbMatches q x y e = true)

/-- `x` is the STRAND_ID of the chip: the strand's number, the number of the highest available strand and the strands per core less 1
in the fields of the layout, and 0 in every other bit (rule R1402). -/
def IsStrandId (c : Chip) (x : DWord) : Prop :=
  x.extractLsb' c.layout.strandId.val 6 = c.strand
    ∧ (∀ m : Nat, c.available.getLsbD m = true → (∀ k, m < k → c.available.getLsbD k = false) →
        (x.extractLsb' c.layout.maxStrandId.val 6).toNat = m)
    ∧ x.extractLsb' c.layout.maxStrandIdPerCore.val 6 = c.maxStrandIdPerCore
    ∧ ∀ n : Nat, (∀ p ∈ [c.layout.strandId, c.layout.maxStrandId, c.layout.maxStrandIdPerCore], n < p.val ∨ p.val + 6 ≤ n) →
        x.getLsbD n = false

/-- The MMU registers outside the TLBs that both LDXA and STXA reach and whose meaning is the platform's (rows of rule R342), as in
`readableRegisters`. -/
def platformRegisters : List (Byte × Nat × Nat) :=
  [(0x50, 0x18, 0x18), (0x50, 0x30, 0x30), (0x52, 0x108, 0x120), (0x52, 0x208, 0x220), (0x54, 0x10, 0x98), (0x58, 0x18, 0x18),
    (0x58, 0x30, 0x40)]

/-- `i` stores the doubleword `v` at the operand's address: STXA with R[rd], or, where the FPU is enabled, STDFA with F_D[rd]
(rules R345, R851). -/
def StoresRegister (s : State) (rd rs1 : BitVec 5) (ea : AsiOperand) (i : Instr) (v : DWord) : Prop :=
  (i = .stxa rd rs1 ea ∧ v = getR s rd)
  ∨ (i = .stdfa rd rs1 ea ∧ s.pstate.pef = true ∧ s.fprs.fef = true ∧ v = getFD s rd)

/-! ### The forms of the block, short and partial transfers (rules R841, R843, R844, R851 to R854) -/

/-- `i` is a block load of F_D[rd] from `a`: LDBLOCKF, or LDDFA with a block ASI. -/
def BlockLoadForm (s : State) (rd rs1 : BitVec 5) (asi : Byte) (a : DWord) (i : Instr) : Prop :=
  (∃ rs2, i = .ldblockf rd rs1 rs2 asi ∧ a = getR s rs1 + getR s rs2)
  ∨ ∃ ea, i = .lddfa rd rs1 ea ∧ a = asiAddress s rs1 ea ∧ asi = asiNumber s ea ∧ asiIsBlock asi = true

/-- `i` is a block store of F_D[rd] to `a`: STBLOCKF, or STDFA with a block ASI. -/
def BlockStoreForm (s : State) (rd rs1 : BitVec 5) (asi : Byte) (a : DWord) (i : Instr) : Prop :=
  (∃ rs2, i = .stblockf rd rs1 rs2 asi ∧ a = getR s rs1 + getR s rs2)
  ∨ ∃ ea, i = .stdfa rd rs1 ea ∧ a = asiAddress s rs1 ea ∧ asi = asiNumber s ea ∧ asiIsBlock asi = true

/-- `i` is a short load of F_D[rd] from `a`: LDSHORTF, or LDDFA with a short ASI. -/
def ShortLoadForm (s : State) (rd rs1 : BitVec 5) (asi : Byte) (a : DWord) (i : Instr) : Prop :=
  (∃ rs2, i = .ldshortf rd rs1 rs2 asi ∧ a = getR s rs1 + getR s rs2)
  ∨ ∃ ea, i = .lddfa rd rs1 ea ∧ a = asiAddress s rs1 ea ∧ asi = asiNumber s ea ∧ asiIsShort asi = true

/-- `i` is a short store of F_D[rd] to `a`: STSHORTF, or STDFA with a short ASI. -/
def ShortStoreForm (s : State) (rd rs1 : BitVec 5) (asi : Byte) (a : DWord) (i : Instr) : Prop :=
  (∃ rs2, i = .stshortf rd rs1 rs2 asi ∧ a = getR s rs1 + getR s rs2)
  ∨ ∃ ea, i = .stdfa rd rs1 ea ∧ a = asiAddress s rs1 ea ∧ asi = asiNumber s ea ∧ asiIsShort asi = true

/-- `i` is a partial store of F_D[rd] to `a`, which is R[rs1] alone: STPARTIALF, or STDFA with a partial-store ASI in its word. -/
def PartialStoreForm (s : State) (rd rs1 : BitVec 5) (asi : Byte) (a : DWord) (i : Instr) : Prop :=
  a = getR s rs1 ∧ ∃ rs2, i = .stpartialf rd rs1 rs2 asi ∨ (i = .stdfa rd rs1 (.reg rs2 asi) ∧ asiIsPartial asi = true)

/-! ### Control transfer -/

/-- The program counters after a branch to `target` (rule R602): delayed where it is taken, but for an annulling
unconditional one, which goes there at once; an untaken annulling branch skips its delay slot. -/
def Branched (s t : State) (taken unconditional : Bool) (a : BitVec 1) (target : DWord) : Prop :=
  t =
    { s with
      pc := if taken = true then (if unconditional = true ∧ a = 1 then target else s.npc)
        else (if a = 1 then s.npc + 4 else s.npc)
      npc := if taken = true then (if unconditional = true ∧ a = 1 then target + 4 else target)
        else (if a = 1 then s.npc + 8 else s.npc + 4)
      delaySlot := t.delaySlot }
  ∧ SameBytes s t

/-- PC plus four times a signed displacement, modulo 2^64 (rule R603). -/
def displaced {w : Nat} (s : State) (disp : BitVec w) : DWord := s.pc + BitVec.ofInt 64 (4 * disp.toInt)

/-! ### Traps -/

/-- What a trap saves: PC and NPC without their low two bits, and the state registers, as they were (rule R1230), and the model's
mark of a delay slot (assumption log entry 15). -/
def Saved (s : State) (f : TrapFrame) (tt : BitVec 9) : Prop :=
  f.tpc = (maskAm s s.pc).extractLsb' 2 62 ∧ f.tnpc = (maskAm s s.npc).extractLsb' 2 62
    ∧ f.tstate.gl.toNat = s.gl.toNat ∧ f.tstate.ccr = s.ccr ∧ f.tstate.asi = s.asi ∧ f.tstate.pstate = s.pstate
    ∧ f.tstate.cwp = s.win.cwp ∧ f.tt = tt ∧ f.htstate = s.hpstate ∧ f.delaySlot = s.delaySlot

/-- CWP after a trap (rule R1323): a window trap points it at the window its handler works on. -/
def cwpAfterTrap (w : WindowRegs) : Trap → BitVec 3
  | .cleanWindow => w.cwp + 1
  | .spill _ _ => w.cwp + w.cansave + 2
  | .fill _ _ => w.cwp - 1
  | _ => w.cwp

/-- A reset request: an externally or software initiated reset. -/
def isResetTrap : Trap → Bool
  | .externallyInitiatedReset | .softwareInitiatedReset => true
  | _ => false

/-- `t` is `s` after a trap to `target` that raised TL to `tl` and left the mode registers given: the saved frame stands at
`tl`, every other frame and every other register is unchanged, and so is every byte of memory. -/
def Trapped (s t : State) (tt : BitVec 9) (tl : BitVec 3) (gl : BitVec 2) (p : Pstate) (h : Hpstate) (cwp : BitVec 3)
    (target : DWord) : Prop :=
  Saved s (frameAt t tl) tt ∧ (∀ n : BitVec 3, n ≠ tl → frameAt t n = frameAt s n) ∧ SameBytes s t
    ∧ t =
      { s with
        trapStack := t.trapStack
        tl := tl
        gl := gl
        pstate := p
        hpstate := h
        win := { s.win with cwp := cwp }
        pc := target
        npc := target + 4
        delaySlot := false
        lastTrap := t.lastTrap }

end Sys2Proof.Machine
end

