-- ==== Sys2Proof/Certificates/Slice0/Obligations.lean ====
section
/-! DEFINITION. The statements for the provers. Each docstring says what the statement claims; OBLIGATIONS.json names the rules of
spec/ it rests on. -/

open Sys2Proof Sys2Proof.Machine

/-- The decoder reads the right instruction, with the right operand fields, from words that are the spec's examples or
written out from its encoding tables: an immediate and a register form of integer arithmetic, a branch, a call, loads
and stores with and without an alternate space, a state register write, a floating-point operate and a VIS
instruction. -/
def Obligations.DecodeSampleWords : Prop :=
  decodeTableWord 32 0x8143C000 = some .stbar
  ∧ decodeTableWord 32 0x01000000 = some .nop
  ∧ decodeTableWord 32 0x81804002 = some (.wry 1 (.reg 2))
  ∧ decodeTableWord 32 0xC4006004 = some (.lduw 2 1 (.imm 4))
  ∧ decodeTableWord 32 0xC4706008 = some (.stx 2 1 (.imm 8))
  ∧ decodeTableWord 32 0xC4686000 = some (.ldstub 2 1 (.imm 0))
  ∧ decodeTableWord 32 0xC9905000 = some (.ldqfa 4 1 (.reg 0 0x80))
  ∧ decodeTableWord 32 0x81B01000 = some .shutdown
  ∧ decodeTableWord 32 0x83400000 = some (.rdy 1)
  ∧ decodeTableWord 32 0x86007FFF = some (.add 3 1 (.imm 0x1FFF))
  ∧ decodeTableWord 32 0x88A04002 = some (.subcc 4 1 (.reg 2))
  ∧ decodeTableWord 32 0x32800004 = some (.bne 1 4)
  ∧ decodeTableWord 32 0x40000003 = some (.call 3)
  ∧ decodeTableWord 32 0xC4F04400 = some (.stxa 2 1 (.reg 0 0x20))
  ∧ decodeTableWord 32 0x89A18848 = some (.faddd 4 6 8)
  ∧ decodeTableWord 32 0x89B18908 = some (.faligndata 4 6 8)
  ∧ decodeTableWord 32 0 = some (.illtrap 0)

/-- For every well-formed instruction, with every operand at every value its encoding admits, the decoder reads from
the word the encoder writes the same instruction: no bit of an operand is dropped and no encoding is taken for another
instruction. -/
def Obligations.DecodeEncodeRoundTrip : Prop :=
  ∀ i : Instr, wellFormed i = true → decode (encode i) = .ok i

/-- For every arithmetic, jump, window, FLUSH and memory opcode whose register form (i = 0) reserves bits 12:5, a word
with any of those bits set decodes to no instruction, for every rd and rs1, and running that word takes
illegal_instruction. For the FSR loads and stores (op3 0x21 and 0x25) the reason is the reserved field where rd names
an instruction (rd below 2), else the illegal rd. That a reserved instruction field traps, and FLUSH's bits with it,
are decisions of the spec (D13, D38, log entry 50). -/
def Obligations.ReservedBitsRejected : Prop :=
  ∀ (rd rs1 : BitVec 5) (low : BitVec 14) (s : State), low.extractLsb' 13 1 = 0 → low.extractLsb' 5 8 ≠ 0 →
    (∀ op3 ∈ ([0x00, 0x01, 0x02, 0x03, 0x04, 0x05, 0x06, 0x07, 0x08, 0x09, 0x0a, 0x0b, 0x0c, 0x0d, 0x0e, 0x0f, 0x10, 0x11,
      0x12, 0x13, 0x14, 0x15, 0x16, 0x17, 0x18, 0x1a, 0x1b, 0x1c, 0x1e, 0x1f, 0x20, 0x21, 0x22, 0x23, 0x24, 0x2d,
      0x2e, 0x38, 0x39, 0x3b, 0x3c, 0x3d] : List (BitVec 6)),
      (∃ m, decode (enc3 2 rd op3 rs1 low) = .error (.reservedBits m))
      ∧ runWord s (enc3 2 rd op3 rs1 low) = .next (takeTrap s .illegalInstruction))
    ∧ (∀ op3 ∈ ([0x21, 0x25] : List (BitVec 6)),
      (rd.toNat < 2 → ∃ m, decode (enc3 3 rd op3 rs1 low) = .error (.reservedBits m))
      ∧ (2 ≤ rd.toNat → ∃ m, decode (enc3 3 rd op3 rs1 low) = .error (.illegalField m))
      ∧ runWord s (enc3 3 rd op3 rs1 low) = .next (takeTrap s .illegalInstruction))
    ∧ ∀ op3 ∈ ([0x00, 0x01, 0x02, 0x03, 0x04, 0x05, 0x06, 0x07, 0x08, 0x09, 0x0a, 0x0b, 0x0d, 0x0e, 0x0f, 0x20, 0x22, 0x23,
      0x24, 0x26, 0x27, 0x2d] : List (BitVec 6)),
      (∃ m, decode (enc3 3 rd op3 rs1 low) = .error (.reservedBits m))
      ∧ runWord s (enc3 3 rd op3 rs1 low) = .next (takeTrap s .illegalInstruction)

/-- Where the strand runs and, after its counters have advanced, nothing is pending and the fetch translates to a
physical address whose four bytes, most significant first, decode to an instruction, the step is the meaning of that
instruction in the state with the counters advanced. That state differs from the one before only in TICK, STICK, the two
match bits of SOFTINT, HINTP.hsp and the model's own fields; of these the flags of the undefined cases U6, U7 and U8 are
set where TL or GL is above MAXPTL or MAXPGL outside hyperprivileged mode, or TL above 0 in nonprivileged mode, and stay
set (log entries 4 and 16). That the counters advance first is log entry 38; that no instruction breakpoint holds
whatever HPSTATE.ibe is log entry 9; that the fetch makes no hardware tablewalk rests on HWTW's default (log entry 13);
that the word is the four bytes memory holds rests on every address being memory (log entry 8, the spec's default, which
the model chooses) and on the fetch seeing every store at once (decision D8, log entry 44). No hardware error is
reported (log entry 39). -/
def Obligations.StepRunsDecoded : Prop :=
  ∀ (s u : State) (i : Instr) (pa : DWord), isRunning s = true → u = startStep s →
    u.hpstate.red = false ∨ u.hpstate.hpriv = true → u.xirPending = false → u.errors.precise = none → errorTraps u = [] →
    trapLevelZeroPending u = false → pendingTrap u = none → translateFetch u (maskAm u u.pc) = .ok pa →
    decode (wordOfBytes (readByte u.paWidth u.memory pa) (readByte u.paWidth u.memory (pa + 1))
      (readByte u.paWidth u.memory (pa + 2)) (readByte u.paWidth u.memory (pa + 3))) = .ok i →
    step s = exec i u
    ∧ u = { s with tick := u.tick, stick := u.stick, softint := u.softint, hsp := u.hsp, freeCount := u.freeCount,
                   lastTrap := none, stickWritten := false, undefinedCases := u.undefinedCases }
    ∧ u.undefinedCases.wrhprInDelaySlot = s.undefinedCases.wrhprInDelaySlot
    ∧ (u.undefinedCases.guestTlTooHigh = true ↔
        s.undefinedCases.guestTlTooHigh = true ∨ (isHyper s = false ∧ 2 < s.tl.toNat))
    ∧ (u.undefinedCases.userTlNonzero = true ↔ s.undefinedCases.userTlNonzero = true ∨ (isUser s = true ∧ s.tl ≠ 0))
    ∧ (u.undefinedCases.guestGlTooHigh = true ↔
        s.undefinedCases.guestGlTooHigh = true ∨ (isHyper s = false ∧ 2 < s.gl.toNat))

/-- For every choice the environment makes: TICK.counter advances by at least 1, STICK.counter by at least 0 and by at
least 1 after a write of STICK, modulo 2^63, the npt bits staying; SOFTINT.tm is set exactly where TICK_CMPR is
enabled and equals one of the values the counter passes through (or it was set), SOFTINT.sm likewise for STICK_CMPR,
HINTP.hsp for HSTICK_CMPR, and no other bit of SOFTINT changes. The least advance of each counter, and that it comes
before the step, are the spec's decision D16 (log entries 33 and 38). -/
def Obligations.CountersAdvanceAndMatch : Prop :=
  ∀ s : State, ∃ dt ds : Nat, 1 ≤ dt ∧ (s.stickWritten = true → 1 ≤ ds)
    ∧ (startStep s).tick = { s.tick with counter := s.tick.counter + BitVec.ofNat 63 dt }
    ∧ (startStep s).stick = { s.stick with counter := s.stick.counter + BitVec.ofNat 63 ds }
    ∧ ((startStep s).softint.getLsbD 0 = true ↔ s.softint.getLsbD 0 = true ∨
        (s.tickCmpr.intDis = false ∧ ∃ k, 1 ≤ k ∧ k ≤ dt ∧ s.tickCmpr.value = s.tick.counter + BitVec.ofNat 63 k))
    ∧ ((startStep s).softint.getLsbD 16 = true ↔ s.softint.getLsbD 16 = true ∨
        (s.stickCmpr.intDis = false ∧ ∃ k, 1 ≤ k ∧ k ≤ ds ∧ s.stickCmpr.value = s.stick.counter + BitVec.ofNat 63 k))
    ∧ ((startStep s).hsp = true ↔ s.hsp = true ∨
        (s.hstickCmpr.intDis = false ∧ ∃ k, 1 ≤ k ∧ k ≤ ds ∧ s.hstickCmpr.value = s.stick.counter + BitVec.ofNat 63 k))
    ∧ ∀ n, n ≠ 0 → n ≠ 16 → (startStep s).softint.getLsbD n = s.softint.getLsbD n

/-- Running a word that decodes to nothing takes illegal_instruction, except an FPop1 or FPop2 word whose opf is
unassigned: that takes fp_exception_other with FSR.ftt = 3 where the FPU is enabled and fp_disabled where it is not.
The opf of FPop1 that are assigned are those of the list; an opf of FPop2 is assigned where it is a compare, an FMOVcc
pattern (opf{5:0} 1 to 3) or an FMOVR pattern (opf{4:0} 5 to 7); every other one is unassigned, and no word outside
the two groups is. An unassigned opf names no destination, so it sets no dirty bit (log entry 12). That fp_disabled
comes before unimplemented_FPop is the spec's own decision D24 (log entry 49). -/
def Obligations.UndecodableWordTraps : Prop :=
  (∀ (s : State) (w : Word) (r : Reject), decode w = .error r →
    (r ≠ .unassignedFPop → runWord s w = .next (takeTrap s .illegalInstruction))
    ∧ (r = .unassignedFPop → fpuEnabled s = true →
        runWord s w = .next (takeTrap { s with fsr := { s.fsr with ftt := 3 } } .fpExceptionOther))
    ∧ (r = .unassignedFPop → fpuEnabled s = false → runWord s w = .next (takeTrap s .fpDisabled)))
  ∧ (∀ (rd rs1 rs2 : BitVec 5) (opf : BitVec 9),
      (decode (enc3 2 rd 0x34 rs1 (opf ++ rs2)) = .error .unassignedFPop ↔
        opf ∉ ([0x001, 0x002, 0x003, 0x005, 0x006, 0x007, 0x009, 0x00A, 0x00B, 0x029, 0x02A, 0x02B, 0x041, 0x042, 0x043,
          0x045, 0x046, 0x047, 0x049, 0x04A, 0x04B, 0x04D, 0x04E, 0x04F, 0x069, 0x06E, 0x081, 0x082, 0x083, 0x084, 0x088,
          0x08C, 0x0C4, 0x0C6, 0x0C7, 0x0C8, 0x0C9, 0x0CB, 0x0CC, 0x0CD, 0x0CE, 0x0D1, 0x0D2, 0x0D3] : List (BitVec 9)))
      ∧ (decode (enc3 2 rd 0x35 rs1 (opf ++ rs2)) = .error .unassignedFPop ↔
        opf ∉ ([0x051, 0x052, 0x053, 0x055, 0x056, 0x057] : List (BitVec 9))
        ∧ opf.extractLsb' 0 6 ∉ ([1, 2, 3] : List (BitVec 6)) ∧ opf.extractLsb' 0 5 ∉ ([5, 6, 7] : List (BitVec 5))))
  ∧ ∀ w : Word, decode w = .error .unassignedFPop →
      w.extractLsb' 30 2 = 2 ∧ (w.extractLsb' 19 6 = 0x34 ∨ w.extractLsb' 19 6 = 0x35)

/-- Where the strand runs, no reset and no trap_level_zero is pending, no hardware error is reported and a disrupting
condition is deliverable: if the instruction at PC raised an exception whose priority in TABLE 12-5 is higher, that
exception is what the step takes; else the step takes the disrupting trap and the instruction changes nothing.
hstick_match is pending exactly where HINTP.hsp = 1 and the strand is not hyperprivileged or PSTATE.ie = 1; in
hyperprivileged mode, or with PSTATE.ie = 0, nothing else is. hstick_match outranks cpu_mondo, that dev_mondo, that the
interrupt levels, those resumable_error. A hardware error that the environment has reported competes in the same way:
store_error always, sw_recoverable_error where the strand is not hyperprivileged or PSTATE.ie = 1, an error of the
instruction at PC in that step alone, data_access_error only for a word of the load and store format (op = 3). A step
with such errors takes a trap no less urgent than any of them; with one alone, that one, unless the instruction raised
an exception of higher priority; but instruction_access_error hides the instruction, whatever it is: the step takes the
exception that translating PC raises, else that error; store_error is reported once, sw_recoverable_error persists.
Which errors the environment reports, how long they stay, and the priorities of internal_processor_error, fast_ECC_error
and sw_recoverable_error, are open (log entry 39). That translating PC raises no other exception than a miss or
instruction_access_exception rests on every address being memory and on HWTW's default (log entries 8 and 13). That an
outstanding condition is taken at once, and that TABLE 12-5's numbers are the order, is decision D28 (log entry 37). -/
def Obligations.StepTakesPendingTrap : Prop :=
  (∀ (s u : State) (e : Trap), isRunning s = true → u = startStep s →
    u.hpstate.red = false ∨ u.hpstate.hpriv = true → u.xirPending = false → u.errors.precise = none → errorTraps u = [] →
    trapLevelZeroPending u = false → pendingTrap u = some e →
    (∃ t p, runNext u = .next t ∧ t.lastTrap = some p ∧ p < trapPriority e ∧ step s = .next t)
    ∨ ((∀ t p, runNext u = .next t → t.lastTrap = some p → trapPriority e ≤ p) ∧ step s = .next (takeTrap u e)))
  ∧ (∀ (s u v : State) (e : Trap), isRunning s = true → u = startStep s → v = { u with errors := { u.errors with precise := none } } →
    u.hpstate.red = false ∨ u.hpstate.hpriv = true → u.xirPending = false → e ∈ errorTraps u →
    (∃ t p, step s = .next t ∧ t.lastTrap = some p ∧ p ≤ trapPriority e)
    ∧ (errorTraps u = [.instructionAccessError] → trapLevelZeroPending u = false → pendingTrap u = none →
      (∀ pa, translateFetch v (maskAm v v.pc) = .ok pa → step s = .next (takeTrap v .instructionAccessError))
      ∧ ∀ x, translateFetch v (maskAm v v.pc) = .error x → step s = .next (takeTrap x.state x.trap))
    ∧ (errorTraps u = [e] → e ≠ .instructionAccessError → trapLevelZeroPending u = false → pendingTrap u = none →
      (∃ t p, runNext v = .next t ∧ t.lastTrap = some p ∧ p < trapPriority e ∧ step s = .next t)
      ∨ ((∀ t p, runNext v = .next t → t.lastTrap = some p → trapPriority e ≤ p) ∧ step s = .next (takeTrap
          { v with errors := { v.errors with storeError := decide (e ≠ .storeError) && v.errors.storeError } } e))))
  ∧ ∀ u : State,
    (pendingTrap u = some .hstickMatch ↔ u.hsp = true ∧ (isHyper u = false ∨ u.pstate.ie = true))
    ∧ (isHyper u = true ∨ u.pstate.ie = false → ∀ e, pendingTrap u = some e → e = .hstickMatch)
    ∧ (isHyper u = false → u.pstate.ie = true → u.hsp = false →
      (bankRead u.queues 0 ≠ bankRead u.queues 1 → pendingTrap u = some .cpuMondo)
      ∧ (bankRead u.queues 0 = bankRead u.queues 1 → bankRead u.queues 2 ≠ bankRead u.queues 3 →
        pendingTrap u = some .devMondo)
      ∧ (bankRead u.queues 0 = bankRead u.queues 1 → bankRead u.queues 2 = bankRead u.queues 3 →
        (∀ n : BitVec 4, u.pil.toNat < n.toNat → u.softint.getLsbD n.toNat = false
          ∧ (n = 14 → u.softint.getLsbD 0 = false ∧ u.softint.getLsbD 16 = false)) →
        (bankRead u.queues 4 ≠ bankRead u.queues 5 → pendingTrap u = some .resumableError)
        ∧ (bankRead u.queues 4 = bankRead u.queues 5 → pendingTrap u = none)))
    ∧ (Trap.swRecoverableError ∈ errorTraps u ↔ u.errors.swRecoverable = true ∧ (isHyper u = false ∨ u.pstate.ie = true))
    ∧ (Trap.storeError ∈ errorTraps u ↔ u.errors.storeError = true)
    ∧ (Trap.instructionAccessError ∈ errorTraps u ↔ u.errors.precise = some .instructionAccess)
    ∧ (Trap.dataAccessError ∈ errorTraps u ↔ u.errors.precise = some .dataAccess
        ∧ ∃ pa, translateFetch u (maskAm u u.pc) = .ok pa ∧ (readByte u.paWidth u.memory pa).extractLsb' 6 2 = 3)
    ∧ (Trap.fastEccError ∈ errorTraps u ↔ u.errors.precise = some .fastEcc)
    ∧ ∀ n, Trap.internalProcessorError n ∈ errorTraps u ↔ u.errors.precise = some (.internalProcessor n)

/-- In nonprivileged or privileged mode with PSTATE.ie = 1 and neither hstick_match nor a mondo outstanding: if level
n is outstanding (bit n of SOFTINT, or for 14 also tm or sm), n is above PIL, and no higher level is outstanding, the
pending trap is interrupt_level_n; if no outstanding level is above PIL, no interrupt level is pending. -/
def Obligations.HighestInterruptLevelSelected : Prop :=
  ∀ u : State, isHyper u = false → u.pstate.ie = true → u.hsp = false → bankRead u.queues 0 = bankRead u.queues 1 →
    bankRead u.queues 2 = bankRead u.queues 3 →
    (∀ n : BitVec 4, n ≠ 0 → u.pil.toNat < n.toNat →
      (u.softint.getLsbD n.toNat = true ∨ (n = 14 ∧ (u.softint.getLsbD 0 = true ∨ u.softint.getLsbD 16 = true))) →
      (∀ m : BitVec 4, n.toNat < m.toNat → u.softint.getLsbD m.toNat = false
        ∧ (m = 14 → u.softint.getLsbD 0 = false ∧ u.softint.getLsbD 16 = false)) →
      pendingTrap u = some (.interruptLevel n))
    ∧ ((∀ n : BitVec 4, u.pil.toNat < n.toNat → u.softint.getLsbD n.toNat = false
        ∧ (n = 14 → u.softint.getLsbD 0 = false ∧ u.softint.getLsbD 16 = false)) →
      ∀ n, pendingTrap u ≠ some (.interruptLevel n))

/-- A parked strand changes only its counters and what they match. A running one with HPSTATE.red = 1 and hpriv = 0
stops with the fault for that undefined state; else a pending externally initiated reset is taken; else, no hardware
error being reported, trap_level_zero is taken where HPSTATE.tlz = 1, hpriv = 0 and TL = 0. The fault is the model's
choice for an undefined state (log entry 16); that the parked check comes first, and XIR before trap_level_zero, is its
reading (log entry 18). After XIR the hyperprivileged scratchpads hold free values (R357, log entry 51): nothing is said
of them, and an error of the instruction at PC is gone (log entry 39). -/
def Obligations.StepWithoutFetch : Prop :=
  ∀ s u : State, u = startStep s →
    (isRunning s = false → ∃ t, step s = .next t
      ∧ t = { s with tick := t.tick, stick := t.stick, softint := t.softint, hsp := t.hsp, freeCount := t.freeCount,
                     lastTrap := none, stickWritten := false })
    ∧ (isRunning s = true → s.hpstate.red = true → s.hpstate.hpriv = false → step s = .fault .redWithoutHpriv)
    ∧ (isRunning s = true → s.hpstate.red = false ∨ s.hpstate.hpriv = true →
        (s.xirPending = true → ∃ h, step s = .next (takeTrap
          { u with xirPending := false, hypScratchpad := h, freeCount := u.freeCount + 1,
                   errors := { u.errors with precise := none } } .externallyInitiatedReset))
        ∧ (s.xirPending = false → s.errors.precise = none → errorTraps u = [] → s.hpstate.tlz = true → s.hpstate.hpriv = false → s.tl = 0 →
            step s = .next (takeTrap u .trapLevelZero)))

/-- From every state in which memory is in canonical form, PC and NPC are multiples of 4, TL is at most MAXTL, the queue
registers' low six bits are zero, the strands that run are enabled ones with STRAND_RUNNING_STATUS equal to
STRAND_RUNNING and not all parked, the enabled ones and those asked to be are available, the strand itself is one of
them and the fields of STRAND_ID are apart, and no address matches two entries of a TLB, a step that has a next state
leads to a state in which all this holds again. That STRAND_RUNNING_STATUS is STRAND_RUNNING at once rests on the
default SKID_MAX = 0 (log entry 7), and one match in a TLB on the spec's decision D32 (log entry 34). The width of a
physical address and the strands of the chip are the same after the step: they are constants of the machine, which each
state carries (log entries 3 and 6). Another agent's store to memory, another strand's store to a chip-shared CMT
register or to its own STRAND_INTR_ID, and an interrupt issued to any interrupt ID, where that is not the undefined case
of two strands with one ID or a disabled target, keep it too (log entries 6, 40 and 53). So do the arrival of an
externally initiated reset, the completion of a parking, a hardware error reported to the strand or steered to it, its
clearing (log entry 39), and a warm reset where STRAND_ENABLE is not 0: were it 0, no strand would run after it (R1456;
log entry 19). A power-on reset has a statement of its own. -/
def Obligations.StepKeepsInvariant : Prop :=
  (∀ s t : State, s.Inv → step s = .next t → t.Inv ∧ t.paWidth = s.paWidth ∧ t.chip = s.chip)
  ∧ ∀ s : State, s.Inv →
      (∀ (pa v : DWord) (n : Nat) (little : Bool), (otherAgentStores s pa n little v).Inv)
      ∧ (∀ va v : DWord, (otherStrandStores s va v).Inv)
      ∧ (∀ (strand : BitVec 6) (v : BitVec 16), (peerStoresIntrId s strand v).Inv)
      ∧ (assertXir s).Inv ∧ (parkComplete s).Inv ∧ (s.cmt.enable ≠ 0 → (warmReset s).Inv)
      ∧ (∀ e : ErrorEvent, (raiseError s e).Inv ∧ ∀ t, steeredError s e = .next t → t.Inv) ∧ (clearError s).Inv
      ∧ ∀ (id : BitVec 16) (q : Fin 3) (first : BitVec 61) (size : Nat) (packet : Bank 64 3) (t : State),
          fabricDelivers s id q first size packet = .next t → t.Inv

/-- The invariant that every step keeps holds of the state after a power-on reset, whatever the width of a physical
address, 40 to 56 bits, and whatever strands the chip has, the model's own among them. It holds after a power-on reset
of a machine in any state, whatever registers and memory in its canonical form the environment leaves (log entry 52). -/
def Obligations.ResetHasInvariant : Prop :=
  (∀ (w : PaWidth) (c : Chip), chipLegal c = true → (State.resetOf w c).Inv) ∧ State.reset.Inv
  ∧ ∀ s left : State, chipLegal s.chip = true → Memory.wf s.paWidth left.memory = true → (powerOnReset s left).Inv

/-- After a power-on reset, at the start or of a machine in any state (log entry 52), whatever the width of a physical
address (40 to 56 bits) and the strands of the chip, and after a warm reset of any state: TL = MAXTL, GL = MAXGL, PSTATE
has only pef set (and tle, which a warm reset keeps), HPSTATE has red and hpriv set and no other bit, TICK.npt = 1,
TT[MAXTL] = 1, PC is RSTVADDR + 0x20 and NPC 4 more; the POR values of tle, STICK.npt, the int_dis bits, TICK.counter,
the translation enables, the watchpoint register and the TLBs are as TABLE 16-1 gives them. A warm reset also keeps
every general and floating-point register and memory, and what TABLE 16-1 marks unchanged: CCR, Y, ASI, PIL, TBA, HTBA,
FSR, GSR, FPRS, the window registers, SOFTINT, HINTP.hsp, the compare registers, STICK and TICK.counter, the scratchpad
registers, the MMU's registers and TLBs, and the queue registers. It saves PC and NPC in the frame at MAXTL, starts the
lowest-numbered strand of STRAND_ENABLE, with STRAND_RUNNING_STATUS equal to STRAND_RUNNING, and copies STRAND_ENABLE to
STRAND_ENABLE_STATUS and XIR_STEERING, but for read-only bits of the latter (R1412; which they are is open, log entry
7); STRAND_ENABLE itself and the interrupt IDs stay. A power-on reset copies STRAND_AVAILABLE to STRAND_ENABLE,
STRAND_ENABLE_STATUS and XIR_STEERING and starts the lowest-numbered available strand. No externally initiated reset is
pending after a warm reset; one that arrives is pending on the strand exactly where XIR_STEERING selects it and it is
enabled. RSTVADDR is 0xFFFFFFFFF0000000 truncated to the width of the machine's physical addresses, which State carries
and a reset keeps (log entry 3; State.reset itself has 47 bits, and one strand, log entry 6). What a warm reset saves
and keeps rests on decision D30 (log entry 19). -/
def Obligations.ResetValues : Prop :=
  (∀ u : State, u = State.reset ∨ (∃ w c, u = State.resetOf w c) ∨ (∃ s left, u = powerOnReset s left) ∨ (∃ s, u = warmReset s) →
    u.tl = 6 ∧ u.gl = 3 ∧ u.hpstate = ⟨false, true, true, false⟩ ∧ u.tick.npt = true ∧ (frameAt u 6).tt = 1
    ∧ u.pstate = ⟨false, false, u.pstate.tle, true, false, false, false⟩
    ∧ u.pc = BitVec.ofNat 64 (0xFFFFFFFFF0000000 % 2 ^ (40 + u.paWidth.val)) + 0x20 ∧ u.npc = u.pc + 4)
  ∧ (∀ (w : PaWidth) (c : Chip) (u : State),
      u = State.resetOf w c ∨ (∃ s left, s.paWidth = w ∧ s.chip = c ∧ u = powerOnReset s left) →
      u.paWidth = w ∧ u.chip = c ∧ u.pstate.tle = false ∧ u.stick.npt = true ∧ u.tickCmpr.intDis = true ∧ u.tick.counter = 0
      ∧ u.stickCmpr.intDis = true ∧ u.hstickCmpr.intDis = true ∧ u.mmu.itlb = [] ∧ u.mmu.dtlb = []
      ∧ u.mmu.immuEnable = false ∧ u.mmu.dmmuEnable = false ∧ u.mmu.watch = 0 ∧ u.xirPending = false
      ∧ u.cmt.enable = c.available ∧ u.cmt.enableStatus = c.available ∧ u.cmt.xirSteering = c.available
      ∧ u.cmt.runningStatus = u.cmt.running
      ∧ ∀ n : Nat, n < 64 → u.cmt.running.getLsbD n =
          (c.available.getLsbD n && (List.range n).all fun m => !c.available.getLsbD m))
  ∧ State.reset = State.resetOf 7 ⟨0, 1, 0, ⟨0, 16, 32⟩⟩
  ∧ (∀ s : State, (warmReset s).globals = s.globals ∧ (warmReset s).windows = s.windows ∧ (warmReset s).fregs = s.fregs
      ∧ SameBytes s (warmReset s) ∧ (warmReset s).pstate.tle = s.pstate.tle ∧ (warmReset s).xirPending = false
      ∧ Saved s (frameAt (warmReset s) 6) 1 ∧ (warmReset s).chip = s.chip
      ∧ (warmReset s).cmt.enableStatus = s.cmt.enable ∧ (warmReset s).cmt.enable = s.cmt.enable
      ∧ (warmReset s).cmt.runningStatus = (warmReset s).cmt.running
      ∧ (∀ n : Nat, n < 64 → (warmReset s).cmt.xirSteering.getLsbD n =
          if Config.xirSteeringWritable.getLsbD n = true then s.cmt.enable.getLsbD n else s.chip.available.getLsbD n)
      ∧ (warmReset s).cmt.intrId = s.cmt.intrId ∧ (warmReset s).peerIntrIds = s.peerIntrIds
      ∧ (warmReset s).ccr = s.ccr ∧ (warmReset s).y = s.y ∧ (warmReset s).asi = s.asi ∧ (warmReset s).pil = s.pil
      ∧ (warmReset s).tba = s.tba ∧ (warmReset s).htba = s.htba ∧ (warmReset s).fsr = s.fsr ∧ (warmReset s).gsr = s.gsr
      ∧ (warmReset s).fprs = s.fprs ∧ (warmReset s).win = s.win ∧ (warmReset s).softint = s.softint
      ∧ (warmReset s).hsp = s.hsp ∧ (warmReset s).tickCmpr = s.tickCmpr ∧ (warmReset s).stickCmpr = s.stickCmpr
      ∧ (warmReset s).hstickCmpr = s.hstickCmpr ∧ (warmReset s).stick = s.stick
      ∧ (warmReset s).tick.counter = s.tick.counter ∧ (warmReset s).scratchpad = s.scratchpad
      ∧ (warmReset s).mmu = s.mmu ∧ (warmReset s).queues = s.queues
      ∧ (∀ n : Nat, n < 64 → (warmReset s).cmt.running.getLsbD n =
          (s.cmt.enable.getLsbD n && (List.range n).all fun m => !s.cmt.enable.getLsbD m)))
  ∧ ∀ s : State, (assertXir s).xirPending = (s.xirPending
      || (s.cmt.xirSteering.getLsbD s.chip.strand.toNat && s.cmt.enableStatus.getLsbD s.chip.strand.toNat))

/-- A trap destined for privileged mode, taken below hyperprivileged mode at TL < MAXPTL, saves PC, NPC, GL, CCR, ASI,
PSTATE, CWP and HPSTATE with its trap type in the frame at TL + 1; GL becomes min(GL + 1, MAXPGL); PSTATE becomes tct 0,
cle <- tle, tle kept, pef 1, am 0, priv 1, ie 0; HPSTATE is unchanged; PC becomes the TBA vector. At TL < MAXTL - 1 any
other trap that is not a reset (taken in hyperprivileged mode, destined for it, or due in privileged mode at TL >=
MAXPTL: guest_watchdog) saves the same; GL becomes min(GL + 1, MAXGL); PSTATE pef 1 with tle kept and all else 0;
HPSTATE hpriv 1 with tlz kept and all else 0; PC is the HTBA vector of the trap type, or HTBA + 0x40 for guest_watchdog,
which keeps the trap type of its cause. NPC is 4 more; a window trap moves CWP. Every other register, every other frame
and every byte of memory is unchanged. That the frames above TL + 1 keep their values, which the source calls undefined,
is decision D20 (log entry 47); the frame also holds the model's mark of a delay slot (log entry 15). Each trap the
model raises has the trap type, the priority (times 100) and the destination of TABLE 12-4 and TABLE 12-5; that those
numbers are the selection order is decision D28 (log entry 37), and the tables leave open the priorities of
internal_processor_error, fast_ECC_error and sw_recoverable_error (log entry 39). -/
def Obligations.NormalTraps : Prop :=
  (∀ (s : State) (e : Trap), isHyper s = false → s.hpstate.red = false → s.tl.toNat < 2 → destinedForPrivileged e = true →
    Trapped s (takeTrap s e) (trapType e) (s.tl + 1) (BitVec.ofNat 2 (min (s.gl.toNat + 1) 2))
      ⟨false, s.pstate.tle, s.pstate.tle, true, false, true, false⟩ s.hpstate (cwpAfterTrap s.win e)
      (s.tba ++ (if s.tl = 0 then 0#1 else 1#1) ++ trapType e ++ 0#5))
  ∧ (∀ (s : State) (e : Trap), s.hpstate.red = false → s.tl.toNat < 5 → isResetTrap e = false →
    isHyper s = true ∨ destinedForPrivileged e = false ∨ 2 ≤ s.tl.toNat →
    Trapped s (takeTrap s e) (trapType e) (s.tl + 1) (BitVec.ofNat 2 (min (s.gl.toNat + 1) 3))
      ⟨false, false, s.pstate.tle, true, false, false, false⟩ ⟨false, false, true, s.hpstate.tlz⟩ (cwpAfterTrap s.win e)
      (if isHyper s = false ∧ destinedForPrivileged e = true then s.htba ++ 0x40#14 else s.htba ++ trapType e ++ 0#5))
  ∧ (∀ p ∈ ([(Trap.externallyInitiatedReset, 0x003, 110, false), (.softwareInitiatedReset, 0x004, 130, false),
      (.storeError, 0x007, 201, false), (.trapLevelZero, 0x05F, 202, false), (.instructionRealTranslationMiss, 0x03E, 208, false),
      (.instructionAccessMmuMiss, 0x009, 208, false), (.fastInstructionAccessMmuMiss, 0x064, 208, false),
      (.instructionInvalidTsbEntry, 0x02A, 210, false), (.instructionAccessException, 0x008, 300, false),
      (.instructionAccessError, 0x00A, 400, false), (.instructionBreakpoint, 0x076, 610, false),
      (.illegalInstruction, 0x010, 620, false), (.privilegedOpcode, 0x011, 700, true),
      (.fpDisabled, 0x020, 800, true), (.cleanWindow, 0x024, 1010, true),
      (.lddfMemAddressNotAligned, 0x035, 1010, false), (.stdfMemAddressNotAligned, 0x036, 1010, false),
      (.memAddressNotAligned, 0x034, 1020, false), (.fpExceptionOther, 0x022, 1110, true),
      (.fpExceptionIeee754, 0x021, 1110, true), (.privilegedAction, 0x037, 1110, false),
      (.vaWatchpoint, 0x062, 1120, true), (.dataAccessException, 0x030, 1201, false),
      (.dataRealTranslationMiss, 0x03F, 1203, false), (.dataAccessMmuMiss, 0x031, 1203, false),
      (.fastDataAccessMmuMiss, 0x068, 1203, false), (.dataInvalidTsbEntry, 0x02B, 1203, false),
      (.fastDataAccessProtection, 0x06C, 1207, false), (.paWatchpoint, 0x061, 1209, false),
      (.dataAccessError, 0x032, 1210, false), (.tagOverflow, 0x023, 1400, true),
      (.divisionByZero, 0x028, 1500, true), (.hstickMatch, 0x05E, 1601, false), (.cpuMondo, 0x07C, 1608, true),
      (.devMondo, 0x07D, 1611, true), (.resumableError, 0x07E, 3330, true),
      (.fastEccError, 0x070, Config.fastEccErrorPriority, false),
      (.swRecoverableError, 0x040, Config.swRecoverableErrorPriority, false)] :
      List (Trap × BitVec 9 × Nat × Bool)),
    trapType p.1 = p.2.1 ∧ trapPriority p.1 = p.2.2.1 ∧ destinedForPrivileged p.1 = p.2.2.2)
  ∧ (∀ (n : BitVec 3) (other : Bool), ∀ p ∈ ([(Trap.spill other n, 0x080), (.fill other n, 0x0C0)] : List (Trap × Nat)),
    (trapType p.1).toNat = p.2 + (if other = true then 0x20 else 0) + 4 * n.toNat ∧ trapPriority p.1 = 900
      ∧ destinedForPrivileged p.1 = true)
  ∧ (∀ n : BitVec 4, (trapType (.interruptLevel n)).toNat = 0x40 + n.toNat
    ∧ trapPriority (.interruptLevel n) = 100 * (32 - n.toNat) ∧ destinedForPrivileged (.interruptLevel n) = true)
  ∧ (∀ n : Nat, trapType (.internalProcessorError n) = 0x029 ∧ trapPriority (.internalProcessorError n) = n
    ∧ destinedForPrivileged (.internalProcessorError n) = false)
  ∧ ∀ n : Byte, (trapType (.softwareTrap n)).toNat = 0x100 + n.toNat ∧ trapPriority (.softwareTrap n) = 1602
    ∧ (destinedForPrivileged (.softwareTrap n) = true ↔ n.toNat < 128)

/-- A trap at TL = MAXTL is a watchdog reset (offset 0x40, the trap type of its cause); else an externally or software
initiated reset uses offset 0x60 or 0x80; else a trap at TL = MAXTL - 1, or in RED_state, uses offset 0xA0. Each saves
the state in the frame at min(TL + 1, MAXTL), sets GL to min(GL + 1, MAXGL), PSTATE to pef 1 with tle kept, HPSTATE to
red 1, hpriv 1, ibe 0 and tlz 0 (kept by a trap taken in RED_state below MAXTL - 1), and PC to RSTVADDR plus the
offset. That the watchdog reset comes in the same step is decision D29, tlz cleared at MAXTL - 1 decision D27, the
frames kept decision D20 (log entry 47); RSTVADDR is 0xFFFFFFFFF0000000 truncated to the width of the machine's
physical addresses (log entry 3). -/
def Obligations.RedStateTraps : Prop :=
  ∀ (s : State) (e : Trap), s.tl.toNat ≤ 6 → s.tl.toNat = 6 ∨ isResetTrap e = true ∨ s.tl.toNat = 5 ∨ s.hpstate.red = true →
    Trapped s (takeTrap s e) (trapType e) (BitVec.ofNat 3 (min (s.tl.toNat + 1) 6)) (BitVec.ofNat 2 (min (s.gl.toNat + 1) 3))
      ⟨false, false, s.pstate.tle, true, false, false, false⟩
      ⟨false, true, true, decide (s.tl.toNat < 5 ∧ isResetTrap e = false) && s.hpstate.tlz⟩
      (cwpAfterTrap s.win e)
      (BitVec.ofNat 64 (0xFFFFFFFFF0000000 % 2 ^ (40 + s.paWidth.val))
        + (if s.tl.toNat = 6 then 0x40 else if e = .externallyInitiatedReset then 0x60
        else if e = .softwareInitiatedReset then 0x80 else 0xA0))

/-- Outside RED_state, at TL < MAXTL - 1, for a trap that is not a reset. Delivered in privileged mode: bits 63:15 of
the new PC are TBA{63:15}, bit 14 is 1 exactly where TL was above 0, bits 13:5 are TT[TL], bits 4:0 are 0. Delivered
in hyperprivileged mode other than as guest_watchdog: bits 63:14 are HTBA{63:14}, bits 13:5 are TT[TL], bits 4:0 are
0. -/
def Obligations.TrapVectorBits : Prop :=
  ∀ (s t : State) (e : Trap), s.hpstate.red = false → s.tl.toNat < 5 → isResetTrap e = false → t = takeTrap s e →
    (isHyper s = false → destinedForPrivileged e = true → s.tl.toNat < 2 →
      t.pc.extractLsb' 15 49 = s.tba ∧ (t.pc.getLsbD 14 = true ↔ 0 < s.tl.toNat)
      ∧ t.pc.extractLsb' 5 9 = (frameAt t t.tl).tt ∧ t.pc.extractLsb' 0 5 = 0)
    ∧ (isHyper s = true ∨ destinedForPrivileged e = false →
      t.pc.extractLsb' 14 50 = s.htba ∧ t.pc.extractLsb' 5 9 = (frameAt t t.tl).tt ∧ t.pc.extractLsb' 0 5 = 0)

/-- In privileged or hyperprivileged mode at TL > 0, outside a delay slot, DONE and RETRY restore CCR, ASI, PSTATE,
CWP, HPSTATE and GL (limited to what the restored mode allows) from the current frame and lower TL by 1; DONE goes to
TNPC and TNPC + 4, RETRY to TPC and TNPC; nothing else changes. In nonprivileged mode they take privileged_opcode, at
TL = 0 illegal_instruction. In a delay slot they are refused: the spec calls the result undefined, and what counts as
a delay slot (RETRY goes back into the one the trap was taken in, DONE to none) is log entry 15. That PC and NPC are
not masked where the restored am = 1 is decision D2, that the frames stay D20, and that the saved fields are installed
as they are the spec's treatment of U2 (log entry 47). -/
def Obligations.DoneAndRetryRestore : Prop :=
  ∀ p ∈ ([(Instr.done, false), (.retry, true)] : List (Instr × Bool)), ∀ (s : State) (f : TrapFrame), f = frameAt s s.tl →
    (isUser s = true → exec p.1 s = .next (takeTrap s .privilegedOpcode))
    ∧ (isUser s = false → s.tl = 0 → exec p.1 s = .next (takeTrap s .illegalInstruction))
    ∧ (isUser s = false → s.tl ≠ 0 → s.delaySlot = true → exec p.1 s = .refused .doneRetryInDelaySlot)
    ∧ (isUser s = false → s.tl ≠ 0 → s.delaySlot = false →
        ∃ t, exec p.1 s = .next t ∧ SameBytes s t
          ∧ t = { s with
              gl := BitVec.ofNat 2 (min f.tstate.gl.toNat (if isHyper s = false ∧ f.htstate.hpriv = false then 2 else 3))
              ccr := f.tstate.ccr, asi := f.tstate.asi, pstate := f.tstate.pstate
              win := { s.win with cwp := f.tstate.cwp }, hpstate := f.htstate, tl := s.tl - 1
              pc := if p.2 then f.tpc ++ 0#2 else f.tnpc ++ 0#2
              npc := if p.2 then f.tnpc ++ 0#2 else (f.tnpc ++ 0#2) + 4
              delaySlot := p.2 && f.delaySlot })

/-- For every trap taken below TL = MAXTL in a state whose PC and NPC are multiples of 4 (and whose GL its mode
allows), RETRY run in the handler's first state restores everything: PC and NPC (their low words alone where PSTATE.am
= 1), GL, CCR, ASI, PSTATE, HPSTATE, CWP and TL are what they were, every other register is unchanged, and of the trap
stack only the frame the trap wrote is different. That the frames above keep their values is decision D20 (log entry
47); that the instruction stands in a delay slot again if it did before is log entry 15. -/
def Obligations.RetryResumesTheTrappedInstruction : Prop :=
  ∀ (s u : State) (e : Trap), s.tl.toNat < 6 → s.pc.extractLsb' 0 2 = 0 → s.npc.extractLsb' 0 2 = 0 →
    isHyper s = true ∨ s.gl.toNat ≤ 2 → u = takeTrap s e →
    ∃ t, exec .retry u = .next t ∧ SameBytes s t ∧ (∀ n : BitVec 3, n ≠ s.tl + 1 → frameAt t n = frameAt s n)
      ∧ t = { s with pc := maskAm s s.pc, npc := maskAm s s.npc, trapStack := t.trapStack,
                     lastTrap := t.lastTrap }

/-- For every instruction and every state in nonprivileged mode: if the instruction has a next state, then either every
register that only privileged or hyperprivileged software may write is unchanged, the MMU and the CMT registers of every
strand with it (of the window registers CLEANWIN, OTHERWIN and WSTATE; SAVE, RESTORE and RETURN move CWP, CANSAVE and
CANRESTORE), or the instruction took a trap, and before the trap only the MMU's fault registers among them had changed,
or it was a FLUSH, by which a strand that STRAND_RUNNING no longer names stops, and nothing else changed. -/
def Obligations.UserModeCannotChangePrivilegedState : Prop :=
  ∀ (i : Instr) (s t : State), isUser s = true → exec i s = .next t →
    (SamePrivileged s t ∧ t.mmu = s.mmu)
    ∨ (∃ u rs1 op2, i = .flush rs1 op2 ∧ ParkingCompleted s u ∧ t = advance u)
    ∨ ∃ (u : State) (e : Trap), t = takeTrap u e ∧ SamePrivileged s u
        ∧ u.mmu = { s.mmu with dsfar := u.mmu.dsfar, dsfsr := u.mmu.dsfsr, dtagAccess := u.mmu.dtagAccess }

/-- After a write of R[rd], R[0] reads 0, R[rd] reads the value written where rd is not 0, and every other visible
register reads as before; no other window or global set is touched. The outs of a window are the ins of the next one.
F_S[n] is F[n]; F_D[f] is the pair F[n] :: F[n + 1], upper word first, n the even number whose bit 5 is the low bit of
f; a doubleword register named by half its number is the same pair. A register second operand is that register's
value; a 13-bit immediate is its signed value. -/
def Obligations.RegisterFilesAndOperands : Prop :=
  ∀ s : State,
    (∀ (rd r : BitVec 5) (v : DWord), getR (setR s rd v) r = (if r = 0 then 0 else if r = rd then v else getR s r))
    ∧ (∀ (rd : BitVec 5) (v : DWord), WroteR s (setR s rd v) rd v)
    ∧ (∀ k : BitVec 3, getR (nextWindow s) (0b11#2 ++ k) = getR s (0b01#2 ++ k))
    ∧ (∀ r : BitVec 5, r.toNat < 8 → getR (nextWindow s) r = getR s r)
    ∧ (∀ f : BitVec 5, getFS s f = bankRead s.fregs (BitVec.ofNat 6 f.toNat))
    ∧ (∀ (f : BitVec 5) (n : Nat), n = f.toNat % 2 * 32 + f.toNat / 2 * 2 →
        getFD s f = bankRead s.fregs (BitVec.ofNat 6 n) ++ bankRead s.fregs (BitVec.ofNat 6 (n + 1)))
    ∧ (∀ d : BitVec 5, getFDn s d = bankRead s.fregs (BitVec.ofNat 6 (2 * d.toNat)) ++ bankRead s.fregs (BitVec.ofNat 6 (2 * d.toNat + 1)))
    ∧ (∀ r : BitVec 5, src2 s (.reg r) = getR s r)
    ∧ ∀ n : BitVec 13, (src2 s (.imm n)).toInt = n.toInt

/-- Each instruction completes in every state; R[rd] receives the sum, the sum with the carry, the difference, the
difference with the borrow, the product (all modulo 2^64) or the bitwise and, and-not, or, or-not, xor, xnor of R[rs1]
and the second operand; a write of R[0] writes nothing; CCR, every other register and every byte of memory are
unchanged and the next instruction follows. -/
def Obligations.AluResults : Prop :=
  ∀ (rd rs1 : BitVec 5) (op2 : RegOrImm13) (s : State) (a b : DWord), a = getR s rs1 → b = src2 s op2 →
    ∀ p ∈ ([(Instr.add rd rs1 op2, BitVec.ofInt 64 (a.toInt + b.toInt)),
      (.addc rd rs1 op2, BitVec.ofInt 64 (a.toInt + b.toInt + s.ccr.icc.c.toNat)),
      (.sub rd rs1 op2, BitVec.ofInt 64 (a.toInt - b.toInt)),
      (.subc rd rs1 op2, BitVec.ofInt 64 (a.toInt - b.toInt - s.ccr.icc.c.toNat)),
      (.mulx rd rs1 op2, BitVec.ofInt 64 (a.toInt * b.toInt)),
      (.and rd rs1 op2, a &&& b), (.andn rd rs1 op2, a &&& ~~~b), (.or rd rs1 op2, a ||| b),
      (.orn rd rs1 op2, a ||| ~~~b), (.xor rd rs1 op2, a ^^^ b), (.xnor rd rs1 op2, a ^^^ ~~~b)] : List (Instr × DWord)),
    ∃ t, exec p.1 s = .next t ∧ ResultR s t rd p.2

/-- Each completes in every state, writes the sum or difference (with icc.c as carry or borrow in ADDCcc and SUBCcc) to
R[rd] and sets, for 64 bits in xcc and for the low words in icc: n the sign of the result, z where it is zero, v where
the signed result does not fit, c where the unsigned sum does not fit or the difference borrows. Nothing else changes.
The borrow of SUBCcc, with icc.c as cin, is what rule R472 infers: "The `cin = 1` borrow formula is [derived: from the
definition of borrow in rule R72 of 10_state.md]". -/
def Obligations.ArithmeticConditionCodes : Prop :=
  ∀ (rd rs1 : BitVec 5) (op2 : RegOrImm13) (s : State) (a b : DWord), a = getR s rs1 → b = src2 s op2 →
    (∀ p ∈ ([(Instr.addcc rd rs1 op2, false), (.addccc rd rs1 op2, s.ccr.icc.c)] : List (Instr × Bool)),
      ∃ t c, exec p.1 s = .next t ∧ ResultRC s t rd (BitVec.ofNat 64 (a.toNat + b.toNat + p.2.toNat)) c ∧ SumCcr c a b p.2)
    ∧ ∀ p ∈ ([(Instr.subcc rd rs1 op2, false), (.subccc rd rs1 op2, s.ccr.icc.c)] : List (Instr × Bool)),
      ∃ t c, exec p.1 s = .next t ∧ ResultRC s t rd (BitVec.ofInt 64 (a.toInt - b.toInt - p.2.toNat)) c
        ∧ DifferenceCcr c a b p.2

/-- Each completes in every state, writes the bitwise result to R[rd], sets n and z of xcc from the 64-bit result and
of icc from its low word, and clears v and c of both. Nothing else changes. -/
def Obligations.LogicalConditionCodes : Prop :=
  ∀ (rd rs1 : BitVec 5) (op2 : RegOrImm13) (s : State) (a b : DWord), a = getR s rs1 → b = src2 s op2 →
    ∀ p ∈ ([(Instr.andcc rd rs1 op2, a &&& b), (.andncc rd rs1 op2, a &&& ~~~b), (.orcc rd rs1 op2, a ||| b),
      (.orncc rd rs1 op2, a ||| ~~~b), (.xorcc rd rs1 op2, a ^^^ b), (.xnorcc rd rs1 op2, a ^^^ ~~~b)] : List (Instr × DWord)),
    ∃ t c, exec p.1 s = .next t ∧ ResultRC s t rd p.2 c ∧ LogicalCcr c p.2

/-- A tag overflow is a nonzero low two bits of an operand or a 32-bit signed overflow. TADDcc and TSUBcc always
complete: the result in R[rd], the condition codes of the addition or subtraction with icc.v the tag overflow. The
trapping forms do the same where there is no tag overflow and take tag_overflow, with nothing written, where there is
one. -/
def Obligations.TaggedArithmetic : Prop :=
  ∀ (rd rs1 : BitVec 5) (op2 : RegOrImm13) (s : State) (a b : DWord), a = getR s rs1 → b = src2 s op2 →
    ∀ p ∈ ([(Instr.taddcc rd rs1 op2, Instr.taddcctv rd rs1 op2, true), (.tsubcc rd rs1 op2, .tsubcctv rd rs1 op2, false)] :
      List (Instr × Instr × Bool)),
    ∃ (t : State) (c c0 : Ccr) (r : DWord), r = (if p.2.2 then BitVec.ofInt 64 (a.toInt + b.toInt) else BitVec.ofInt 64 (a.toInt - b.toInt))
      ∧ (if p.2.2 then SumCcr c0 a b false else DifferenceCcr c0 a b false)
      ∧ c = { c0 with icc := { c0.icc with v := c.icc.v } }
      ∧ (c.icc.v = true ↔ a.extractLsb' 0 2 ≠ 0 ∨ b.extractLsb' 0 2 ≠ 0 ∨ c0.icc.v = true)
      ∧ exec p.1 s = .next t ∧ ResultRC s t rd r c
      ∧ (c.icc.v = true → exec p.2.1 s = .next (takeTrap s .tagOverflow))
      ∧ (c.icc.v = false → exec p.2.1 s = .next t)

/-- UMUL, SMUL and their cc forms complete in every state: R[rd] receives the 64-bit product of the low words of the
operands, unsigned or signed, Y its upper word; the cc forms set n and z of icc and xcc from the product and clear v
and c, the others leave CCR. MULScc completes in every state: with x the low word of R[rs1] shifted right by one with
n xor v entering on the left, and m the low word of the second operand where Y[0] = 1, else 0, the low word of R[rd]
is x + m, icc is the flags of that 32-bit addition, Y is shifted right by one with R[rs1][0] entering on the left; the
upper word of R[rd] and xcc are undefined: nothing is said of them (log entry 33). Nothing else changes. -/
def Obligations.Multiply : Prop :=
  (∀ (rd rs1 : BitVec 5) (op2 : RegOrImm13) (s : State) (a b : DWord), a = getR s rs1 → b = src2 s op2 →
    ∀ p ∈ ([(Instr.umul rd rs1 op2, .umulcc rd rs1 op2, BitVec.ofNat 64 ((lo32 a).toNat * (lo32 b).toNat)),
      (.smul rd rs1 op2, .smulcc rd rs1 op2, BitVec.ofInt 64 ((lo32 a).toInt * (lo32 b).toInt))] : List (Instr × Instr × DWord)),
    (∃ t, exec p.1 s = .next t ∧ ResultRYC s t rd p.2.2 (p.2.2.extractLsb' 32 32) s.ccr)
    ∧ ∃ t c, exec p.2.1 s = .next t ∧ ResultRYC s t rd p.2.2 (p.2.2.extractLsb' 32 32) c ∧ LogicalCcr c p.2.2)
  ∧ ∀ (rd rs1 : BitVec 5) (op2 : RegOrImm13) (s : State) (a b : DWord), a = getR s rs1 → b = src2 s op2 →
    ∀ (x m : Word), x = (if s.ccr.icc.n = s.ccr.icc.v then 0#1 else 1#1) ++ a.extractLsb' 1 31 →
    m = (if s.y.getLsbD 0 = true then lo32 b else 0) →
    ∃ (t : State) (c : Ccr) (h : Word), exec (.mulscc rd rs1 op2) s = .next t ∧ SumFlags c.icc x m false
      ∧ WroteR s t rd (h ++ (x + m)) ∧ SameBytes s t
      ∧ t = advance { s with globals := t.globals, windows := t.windows, ccr := c,
                             y := a.extractLsb' 0 1 ++ s.y.extractLsb' 1 31, freeCount := s.freeCount + 1 }

/-- Where the divisor (the low word of the second operand; all of it for UDIVX and SDIVX) is zero each takes
division_by_zero with nothing written. Else it completes. UDIV, SDIV: R[rd] receives the quotient of the 64-bit Y ::
low word of R[rs1], truncated toward zero, or the nearest 32-bit value where it does not fit; the cc forms set n and z
from the value written, icc.v from the overflow and clear the rest; Y is undefined afterwards, nothing is said of it.
UDIVX, SDIVX: R[rd] receives the 64-bit quotient, truncated toward zero (the most negative number divided by -1 gives
itself). Nothing else changes. -/
def Obligations.Divide : Prop :=
  (∀ (rd rs1 : BitVec 5) (op2 : RegOrImm13) (s : State) (a b : DWord), a = getR s rs1 → b = src2 s op2 →
    ∀ (n : BitVec 64), n = s.y ++ lo32 a →
    (lo32 b = 0 → ∀ i ∈ [Instr.udiv rd rs1 op2, .sdiv rd rs1 op2, .udivcc rd rs1 op2, .sdivcc rd rs1 op2],
      exec i s = .next (takeTrap s .divisionByZero))
    ∧ (lo32 b ≠ 0 →
      ∀ p ∈ ([(Instr.udiv rd rs1 op2, .udivcc rd rs1 op2,
          BitVec.ofNat 64 (min (n.toNat / (lo32 b).toNat) 0xFFFFFFFF), decide (0xFFFFFFFF < n.toNat / (lo32 b).toNat)),
        (.sdiv rd rs1 op2, .sdivcc rd rs1 op2,
          BitVec.ofInt 64 (max (min (n.toInt.tdiv (lo32 b).toInt) (2 ^ 31 - 1)) (-(2 ^ 31))),
          decide (n.toInt.tdiv (lo32 b).toInt < -(2 ^ 31) ∨ 2 ^ 31 ≤ n.toInt.tdiv (lo32 b).toInt))] :
        List (Instr × Instr × DWord × Bool)),
      (∃ t, exec p.1 s = .next t ∧ ResultRC_freeY s t rd p.2.2.1 s.ccr)
      ∧ ∃ t c, exec p.2.1 s = .next t ∧ ResultRC_freeY s t rd p.2.2.1 c ∧ SignZero c.xcc p.2.2.1
          ∧ SignZero c.icc (lo32 p.2.2.1) ∧ c.xcc.v = false ∧ c.xcc.c = false ∧ c.icc.c = false ∧ c.icc.v = p.2.2.2))
  ∧ ∀ (rd rs1 : BitVec 5) (op2 : RegOrImm13) (s : State) (a b : DWord), a = getR s rs1 → b = src2 s op2 →
    (b = 0 → ∀ i ∈ [Instr.udivx rd rs1 op2, .sdivx rd rs1 op2], exec i s = .next (takeTrap s .divisionByZero))
    ∧ (b ≠ 0 → ∀ p ∈ ([(Instr.udivx rd rs1 op2, BitVec.ofNat 64 (a.toNat / b.toNat)),
        (.sdivx rd rs1 op2, if a = BitVec.intMin 64 ∧ b = -1 then a else BitVec.ofInt 64 (a.toInt.tdiv b.toInt))] :
        List (Instr × DWord)),
      ∃ t, exec p.1 s = .next t ∧ ResultR s t rd p.2)

/-- Each shift completes in every state. SLL multiplies the whole register by 2^count modulo 2^64; SRL and SRA divide
its low word, unsigned or signed, rounding down, and zero- or sign-extend; SLLX, SRLX and SRAX act on all 64 bits. The
count is the low five bits (SLL, SRL, SRA) or six bits (the X forms) of R[rs2], or the immediate. Nothing else
changes. -/
def Obligations.ShiftResults : Prop :=
  ∀ (rd rs1 : BitVec 5) (s : State) (a : DWord), a = getR s rs1 →
    (∀ (k : Count32) (n : Nat), n = (match k with | .reg r => (getR s r).toNat % 32 | .imm c => c.toNat) →
      ∀ p ∈ ([(Instr.sll rd rs1 k, BitVec.ofNat 64 (a.toNat * 2 ^ n)), (.srl rd rs1 k, BitVec.ofNat 64 ((lo32 a).toNat / 2 ^ n)),
        (.sra rd rs1 k, BitVec.ofInt 64 ((lo32 a).toInt / 2 ^ n))] : List (Instr × DWord)),
      ∃ t, exec p.1 s = .next t ∧ ResultR s t rd p.2)
    ∧ ∀ (k : Count64) (n : Nat), n = (match k with | .reg r => (getR s r).toNat % 64 | .imm c => c.toNat) →
      ∀ p ∈ ([(Instr.sllx rd rs1 k, BitVec.ofNat 64 (a.toNat * 2 ^ n)), (.srlx rd rs1 k, BitVec.ofNat 64 (a.toNat / 2 ^ n)),
        (.srax rd rs1 k, BitVec.ofInt 64 (a.toInt / 2 ^ n))] : List (Instr × DWord)),
      ∃ t, exec p.1 s = .next t ∧ ResultR s t rd p.2

/-- SETHI completes in every state: R[rd] receives imm22 times 2^10, its bits 9:0 and 63:32 zero; with rd = 0 no
register changes. The encoding with rd = 0 and imm22 = 0 is NOP, which changes nothing but the program counters. -/
def Obligations.SethiAndNop : Prop :=
  (∀ (rd : BitVec 5) (imm22 : BitVec 22) (s : State),
    ∃ t, exec (.sethi rd imm22) s = .next t ∧ ResultR s t rd (BitVec.ofNat 64 (imm22.toNat * 2 ^ 10)))
  ∧ (∀ (imm22 : BitVec 22) (s : State), ∃ t, exec (.sethi 0 imm22) s = .next t ∧ t = advance s)
  ∧ decode (enc2 0 4 0) = .ok .nop
  ∧ ∀ s : State, ∃ t, exec .nop s = .next t ∧ t = advance s ∧ SameBytes s t

/-- Each of the 16 MOVcc forms on integer condition codes and the 6 MOVr forms completes in every state. The condition
is the one its name says of n, z, v, c of icc or xcc, or of R[rs1] as a signed number. Where it holds R[rd] receives
the second operand (a register, or its immediate sign-extended) and nothing else changes; where it does not, only the
program counters change. That an integer MOVcc completes with the FPU disabled is the spec's decision D1 (log entry
47). Each of the 16 forms on FSR.fccn (0, 1, 2, 3: equal, less, greater, unordered) does the same where PSTATE.pef and
FPRS.fef are both 1, and takes fp_disabled where the FPU is disabled. -/
def Obligations.ConditionalMoves : Prop :=
  ((∀ (rd : BitVec 5) (cc : IccSelect) (op2 : RegOrImm11) (s : State) (c : CC) (v : DWord),
    c = (match cc with | .icc => s.ccr.icc | .xcc => s.ccr.xcc) →
    v = (match op2 with | .reg r => getR s r | .imm n => BitVec.ofInt 64 n.toInt) →
    ∀ p ∈ ([(Instr.mova rd cc op2, true), (.movn rd cc op2, false), (.movne rd cc op2, !c.z), (.move rd cc op2, c.z),
      (.movg rd cc op2, !(c.z || (c.n != c.v))), (.movle rd cc op2, c.z || (c.n != c.v)),
      (.movge rd cc op2, !(c.n != c.v)), (.movl rd cc op2, c.n != c.v), (.movgu rd cc op2, !(c.c || c.z)),
      (.movleu rd cc op2, c.c || c.z), (.movcc rd cc op2, !c.c), (.movcs rd cc op2, c.c), (.movpos rd cc op2, !c.n),
      (.movneg rd cc op2, c.n), (.movvc rd cc op2, !c.v), (.movvs rd cc op2, c.v)] : List (Instr × Bool)),
    (p.2 = true → ∃ t, exec p.1 s = .next t ∧ ResultR s t rd v)
    ∧ (p.2 = false → ∃ t, exec p.1 s = .next t ∧ t = advance s))
  ∧ ∀ (rd rs1 : BitVec 5) (op2 : RegOrImm10) (s : State) (a v : DWord), a = getR s rs1 →
    v = (match op2 with | .reg r => getR s r | .imm n => BitVec.ofInt 64 n.toInt) →
    ∀ p ∈ ([(Instr.movrz rd rs1 op2, decide (a.toInt = 0)), (.movrlez rd rs1 op2, decide (a.toInt ≤ 0)),
      (.movrlz rd rs1 op2, decide (a.toInt < 0)), (.movrnz rd rs1 op2, decide (a.toInt ≠ 0)),
      (.movrgz rd rs1 op2, decide (0 < a.toInt)), (.movrgez rd rs1 op2, decide (0 ≤ a.toInt))] : List (Instr × Bool)),
    (p.2 = true → ∃ t, exec p.1 s = .next t ∧ ResultR s t rd v)
    ∧ (p.2 = false → ∃ t, exec p.1 s = .next t ∧ t = advance s))
  ∧ ∀ (rd : BitVec 5) (cc : BitVec 2) (op2 : RegOrImm11) (s : State) (f : BitVec 2) (e l g u : Bool) (v : DWord),
    f = (if cc = 0 then s.fsr.fcc0 else if cc = 1 then s.fsr.fcc1 else if cc = 2 then s.fsr.fcc2 else s.fsr.fcc3) →
    e = (f == 0) → l = (f == 1) → g = (f == 2) → u = (f == 3) →
    v = (match op2 with | .reg r => getR s r | .imm n => BitVec.ofInt 64 n.toInt) →
    ∀ p ∈ ([(Instr.movfa rd cc op2, true), (.movfn rd cc op2, false), (.movfu rd cc op2, u), (.movfg rd cc op2, g),
      (.movfug rd cc op2, u || g), (.movfl rd cc op2, l), (.movful rd cc op2, u || l), (.movflg rd cc op2, l || g),
      (.movfne rd cc op2, l || g || u), (.movfe rd cc op2, e), (.movfue rd cc op2, u || e),
      (.movfge rd cc op2, g || e), (.movfuge rd cc op2, u || g || e), (.movfle rd cc op2, l || e),
      (.movfule rd cc op2, u || l || e), (.movfo rd cc op2, e || l || g)] : List (Instr × Bool)),
    (s.pstate.pef = true → s.fprs.fef = true → p.2 = true → ∃ t, exec p.1 s = .next t ∧ ResultR s t rd v)
    ∧ (s.pstate.pef = true → s.fprs.fef = true → p.2 = false → ∃ t, exec p.1 s = .next t ∧ t = advance s)
    ∧ (s.pstate.pef = false ∨ s.fprs.fef = false → exec p.1 s = .next (takeTrap s .fpDisabled))

/-- Each branch completes in every state. Where its condition (of icc, of icc or xcc, or of R[rs1] as a signed number)
holds, the instruction after the next is at PC + 4 * displacement, or, for an annulling branch-always, the next one
is; where it does not hold the delay instruction runs, or is annulled where a = 1. No other register and no byte of
memory changes. -/
def Obligations.IntegerBranches : Prop :=
  (∀ (a : BitVec 1) (disp22 : BitVec 22) (s : State) (c : CC), c = s.ccr.icc →
    ∀ p ∈ ([(Instr.ba a disp22, true, true), (.bn a disp22, false, true), (.bne a disp22, !c.z, false),
      (.be a disp22, c.z, false), (.bg a disp22, !(c.z || (c.n != c.v)), false),
      (.ble a disp22, c.z || (c.n != c.v), false), (.bge a disp22, !(c.n != c.v), false),
      (.bl a disp22, c.n != c.v, false), (.bgu a disp22, !(c.c || c.z), false), (.bleu a disp22, c.c || c.z, false),
      (.bcc a disp22, !c.c, false), (.bcs a disp22, c.c, false), (.bpos a disp22, !c.n, false),
      (.bneg a disp22, c.n, false), (.bvc a disp22, !c.v, false), (.bvs a disp22, c.v, false)] : List (Instr × Bool × Bool)),
    ∃ t, exec p.1 s = .next t ∧ Branched s t p.2.1 p.2.2 a (displaced s disp22))
  ∧ (∀ (a p0 : BitVec 1) (cc : IccSelect) (disp19 : BitVec 19) (s : State) (c : CC),
    c = (match cc with | .icc => s.ccr.icc | .xcc => s.ccr.xcc) →
    ∀ p ∈ ([(Instr.bpa a cc p0 disp19, true, true), (.bpn a cc p0 disp19, false, true),
      (.bpne a cc p0 disp19, !c.z, false), (.bpe a cc p0 disp19, c.z, false),
      (.bpg a cc p0 disp19, !(c.z || (c.n != c.v)), false), (.bple a cc p0 disp19, c.z || (c.n != c.v), false),
      (.bpge a cc p0 disp19, !(c.n != c.v), false), (.bpl a cc p0 disp19, c.n != c.v, false),
      (.bpgu a cc p0 disp19, !(c.c || c.z), false), (.bpleu a cc p0 disp19, c.c || c.z, false),
      (.bpcc a cc p0 disp19, !c.c, false), (.bpcs a cc p0 disp19, c.c, false), (.bppos a cc p0 disp19, !c.n, false),
      (.bpneg a cc p0 disp19, c.n, false), (.bpvc a cc p0 disp19, !c.v, false), (.bpvs a cc p0 disp19, c.v, false)] : List (Instr × Bool × Bool)),
    ∃ t, exec p.1 s = .next t ∧ Branched s t p.2.1 p.2.2 a (displaced s disp19))
  ∧ ∀ (a p0 : BitVec 1) (rs1 : BitVec 5) (disp16 : BitVec 16) (s : State) (v : DWord), v = getR s rs1 →
    ∀ p ∈ ([(Instr.brz a p0 rs1 disp16, decide (v.toInt = 0)), (.brlez a p0 rs1 disp16, decide (v.toInt ≤ 0)),
      (.brlz a p0 rs1 disp16, decide (v.toInt < 0)), (.brnz a p0 rs1 disp16, decide (v.toInt ≠ 0)),
      (.brgz a p0 rs1 disp16, decide (0 < v.toInt)), (.brgez a p0 rs1 disp16, decide (0 ≤ v.toInt))] : List (Instr × Bool)),
    ∃ t, exec p.1 s = .next t ∧ Branched s t p.2 false a (displaced s disp16)

/-- Where the FPU is enabled each completes: the condition is the one its name says of FSR.fcc0 (FBfcc) or FSR.fccn
(FBPfcc), 0 equal, 1 less, 2 greater, 3 unordered, and the branch goes where an integer branch with that condition
would. Where the FPU is disabled each takes fp_disabled. -/
def Obligations.FloatingPointBranches : Prop :=
  ∀ (a p0 : BitVec 1) (cc : BitVec 2) (disp22 : BitVec 22) (disp19 : BitVec 19) (s : State) (f : BitVec 2) (e l g u : Bool),
    f = (if cc = 0 then s.fsr.fcc0 else if cc = 1 then s.fsr.fcc1 else if cc = 2 then s.fsr.fcc2 else s.fsr.fcc3) →
    e = (f == 0) → l = (f == 1) → g = (f == 2) → u = (f == 3) →
    (s.pstate.pef = true → s.fprs.fef = true →
      (cc = 0 → ∀ p ∈ ([(Instr.fba a disp22, true, true), (.fbn a disp22, false, true), (.fbu a disp22, u, false),
        (.fbg a disp22, g, false), (.fbug a disp22, u || g, false), (.fbl a disp22, l, false),
        (.fbul a disp22, u || l, false), (.fblg a disp22, l || g, false), (.fbne a disp22, l || g || u, false),
        (.fbe a disp22, e, false), (.fbue a disp22, u || e, false), (.fbge a disp22, g || e, false),
        (.fbuge a disp22, u || g || e, false), (.fble a disp22, l || e, false),
        (.fbule a disp22, u || l || e, false), (.fbo a disp22, e || l || g, false)] : List (Instr × Bool × Bool)),
        ∃ t, exec p.1 s = .next t ∧ Branched s t p.2.1 p.2.2 a (displaced s disp22))
      ∧ ∀ p ∈ ([(Instr.fbpa a cc p0 disp19, true, true), (.fbpn a cc p0 disp19, false, true),
        (.fbpu a cc p0 disp19, u, false), (.fbpg a cc p0 disp19, g, false), (.fbpug a cc p0 disp19, u || g, false),
        (.fbpl a cc p0 disp19, l, false), (.fbpul a cc p0 disp19, u || l, false),
        (.fbplg a cc p0 disp19, l || g, false), (.fbpne a cc p0 disp19, l || g || u, false),
        (.fbpe a cc p0 disp19, e, false), (.fbpue a cc p0 disp19, u || e, false),
        (.fbpge a cc p0 disp19, g || e, false), (.fbpuge a cc p0 disp19, u || g || e, false),
        (.fbple a cc p0 disp19, l || e, false), (.fbpule a cc p0 disp19, u || l || e, false),
        (.fbpo a cc p0 disp19, e || l || g, false)] : List (Instr × Bool × Bool)),
        ∃ t, exec p.1 s = .next t ∧ Branched s t p.2.1 p.2.2 a (displaced s disp19))
    ∧ (s.pstate.pef = false ∨ s.fprs.fef = false →
      ∀ i ∈ ([Instr.fba a disp22, .fbn a disp22, .fbu a disp22, .fbg a disp22, .fbug a disp22, .fbl a disp22,
        .fbul a disp22, .fblg a disp22, .fbne a disp22, .fbe a disp22, .fbue a disp22, .fbge a disp22,
        .fbuge a disp22, .fble a disp22, .fbule a disp22, .fbo a disp22, .fbpa a cc p0 disp19, .fbpn a cc p0 disp19,
        .fbpu a cc p0 disp19, .fbpg a cc p0 disp19, .fbpug a cc p0 disp19, .fbpl a cc p0 disp19,
        .fbpul a cc p0 disp19, .fbplg a cc p0 disp19, .fbpne a cc p0 disp19, .fbpe a cc p0 disp19,
        .fbpue a cc p0 disp19, .fbpge a cc p0 disp19, .fbpuge a cc p0 disp19, .fbple a cc p0 disp19,
        .fbpule a cc p0 disp19, .fbpo a cc p0 disp19] : List Instr),
        exec i s = .next (takeTrap s .fpDisabled))

/-- CALL completes in every state: R[15] receives PC (its low word where PSTATE.am = 1), the transfer is delayed to PC
+ 4 * displacement. JMPL and RETURN go to R[rs1] plus the second operand where that is a multiple of 4, else they take
mem_address_not_aligned; JMPL writes PC to R[rd]; RETURN moves to the previous window (CWP - 1, CANSAVE + 1,
CANRESTORE - 1), and where CANRESTORE = 0 takes the fill trap instead, whatever the address. Nothing else changes, but
that DSFAR receives the masked address of a misaligned JMPL or RETURN where the parameter DSFAR_ON_MISALIGN, which the
spec leaves open, says so (log entry 7). That the abandoned window keeps its registers is decision D18 (log entry 47).
-/
def Obligations.CallJmplReturn : Prop :=
  ∀ (rd rs1 : BitVec 5) (op2 : RegOrImm13) (disp30 : BitVec 30) (s : State) (a : DWord), a = getR s rs1 + src2 s op2 →
    (∃ t, exec (.call disp30) s = .next t ∧ WroteR s t 15 (maskAm s s.pc) ∧ SameBytes s t
      ∧ t = { s with globals := t.globals, windows := t.windows, pc := s.npc, npc := displaced s disp30, delaySlot := t.delaySlot })
    ∧ (a.toNat % 4 = 0 →
        (∃ t, exec (.jmpl rd rs1 op2) s = .next t ∧ WroteR s t rd (maskAm s s.pc) ∧ SameBytes s t
          ∧ t = { s with globals := t.globals, windows := t.windows, pc := s.npc, npc := a, delaySlot := t.delaySlot })
        ∧ (s.win.canrestore ≠ 0 → ∃ t, exec (.return_ rs1 op2) s = .next t ∧ SameBytes s t
          ∧ t = { s with
              win := { s.win with cwp := s.win.cwp - 1, cansave := s.win.cansave + 1, canrestore := s.win.canrestore - 1 }
              pc := s.npc, npc := a, delaySlot := t.delaySlot }))
    ∧ (a.toNat % 4 ≠ 0 → ∀ d u, d = (if Config.dsfarOnMisalign = true then maskAm s a else s.mmu.dsfar) →
        u = { s with mmu := { s.mmu with dsfar := d } } →
        exec (.jmpl rd rs1 op2) s = .next (takeTrap u .memAddressNotAligned)
        ∧ (s.win.canrestore ≠ 0 → exec (.return_ rs1 op2) s = .next (takeTrap u .memAddressNotAligned)))
    ∧ (s.win.canrestore = 0 → exec (.return_ rs1 op2) s = .next (takeTrap s
        (if s.win.otherwin = 0 then .fill false s.win.wnormal else .fill true s.win.wother)))

/-- Each of the 16 forms completes in every state: where its condition on icc or xcc does not hold, only the program
counters change; where it holds it takes the software trap whose number is the sum of R[rs1] and the second operand
modulo 128 in nonprivileged mode, modulo 256 in the others, with trap type 256 plus that number. -/
def Obligations.TrapOnCondition : Prop :=
  ∀ (cc : IccSelect) (rs1 : BitVec 5) (op2 : TrapOperand) (s : State) (c : CC) (n : Nat),
    c = (match cc with | .icc => s.ccr.icc | .xcc => s.ccr.xcc) →
    n = (getR s rs1 + (match op2 with | .reg r => getR s r | .imm k => BitVec.ofNat 64 k.toNat)).toNat
      % (if isUser s = true then 128 else 256) →
    trapType (.softwareTrap (BitVec.ofNat 8 n)) = BitVec.ofNat 9 (256 + n)
    ∧ ∀ p ∈ ([(Instr.ta cc rs1 op2, true), (.tn cc rs1 op2, false), (.tne cc rs1 op2, !c.z), (.te cc rs1 op2, c.z),
      (.tg cc rs1 op2, !(c.z || (c.n != c.v))), (.tle cc rs1 op2, c.z || (c.n != c.v)),
      (.tge cc rs1 op2, !(c.n != c.v)), (.tl cc rs1 op2, c.n != c.v), (.tgu cc rs1 op2, !(c.c || c.z)),
      (.tleu cc rs1 op2, c.c || c.z), (.tcc cc rs1 op2, !c.c), (.tcs cc rs1 op2, c.c), (.tpos cc rs1 op2, !c.n),
      (.tneg cc rs1 op2, c.n), (.tvc cc rs1 op2, !c.v), (.tvs cc rs1 op2, c.v)] : List (Instr × Bool)),
    (p.2 = true → exec p.1 s = .next (takeTrap s (.softwareTrap (BitVec.ofNat 8 n))))
    ∧ (p.2 = false → ∃ t, exec p.1 s = .next t ∧ t = advance s)

/-- Where the effective address R[rs1] plus the second operand is a multiple of the size and translates, a load from the
implicit space completes: R[rd] receives the bytes of memory there in the byte order of the access, extended as its name
says. A load from an alternate space does the same where the mode may use the ASI and the ASI admits loads. Nothing else
changes. That every address is memory (log entry 8) and that no hardware tablewalk installs an entry on the way (log
entry 13) are the spec's defaults, which the model chooses. -/
def Obligations.Loads : Prop :=
  ∀ (rd rs1 : BitVec 5) (s : State) (a : DWord) (g : Target),
    (∀ op2 : RegOrImm13, a = getR s rs1 + src2 s op2 → translate s .load false (implicitAsi s) (maskAm s a) = .ok g →
      ∀ p ∈ ([(Instr.ldsb rd rs1 op2, 1, true), (.ldsh rd rs1 op2, 2, true), (.ldsw rd rs1 op2, 4, true),
        (.ldub rd rs1 op2, 1, false), (.lduh rd rs1 op2, 2, false), (.lduw rd rs1 op2, 4, false),
        (.ldx rd rs1 op2, 8, false)] : List (Instr × Nat × Bool)),
      a.toNat % p.2.1 = 0 →
      ∃ t v, exec p.1 s = .next t ∧ Loaded s g.pa p.2.1 g.little v ∧ ResultR s t rd (extended p.2.1 p.2.2 v))
    ∧ ∀ (ea : AsiOperand) (asi : Byte), a = asiAddress s rs1 ea → asi = asiNumber s ea → asiPermitted s asi = true →
      admitsLoad (asiClass asi) = true → translate s .load false asi (maskAm s a) = .ok g →
      ∀ p ∈ ([(Instr.ldsba rd rs1 ea, 1, true), (.ldsha rd rs1 ea, 2, true), (.ldswa rd rs1 ea, 4, true),
        (.lduba rd rs1 ea, 1, false), (.lduha rd rs1 ea, 2, false), (.lduwa rd rs1 ea, 4, false),
        (.ldxa rd rs1 ea, 8, false)] : List (Instr × Nat × Bool)),
      a.toNat % p.2.1 = 0 →
      ∃ t v, exec p.1 s = .next t ∧ Loaded s g.pa p.2.1 g.little v ∧ ResultR s t rd (extended p.2.1 p.2.2 v)

/-- In a state whose memory is in canonical form, where the effective address is a multiple of the size and translates
for a store (and, for an alternate space, the mode may use the ASI and the ASI admits stores), the store completes: the
bytes at the translated address are the low bytes of R[rd] in the byte order of the access, every other byte of memory
and every register is unchanged. That every address is memory (log entry 8) and that no hardware tablewalk installs an
entry on the way (log entry 13) are the spec's defaults, which the model chooses, and that memory has a store at once is
its reading (DEDUCED, log entry 45). -/
def Obligations.Stores : Prop :=
  ∀ (rd rs1 : BitVec 5) (s : State) (a : DWord) (g : Target), Memory.wf s.paWidth s.memory = true →
    (∀ op2 : RegOrImm13, a = getR s rs1 + src2 s op2 → translate s .store false (implicitAsi s) (maskAm s a) = .ok g →
      ∀ p ∈ ([(Instr.stb rd rs1 op2, 1), (.sth rd rs1 op2, 2), (.stw rd rs1 op2, 4), (.stx rd rs1 op2, 8)] :
        List (Instr × Nat)),
      a.toNat % p.2 = 0 → ∃ t, exec p.1 s = .next t ∧ ResultStore s t g.pa p.2 g.little (getR s rd))
    ∧ ∀ (ea : AsiOperand) (asi : Byte), a = asiAddress s rs1 ea → asi = asiNumber s ea → asiPermitted s asi = true →
      admitsStore (asiClass asi) = true → translate s .store false asi (maskAm s a) = .ok g →
      ∀ p ∈ ([(Instr.stba rd rs1 ea, 1), (.stha rd rs1 ea, 2), (.stwa rd rs1 ea, 4), (.stxa rd rs1 ea, 8)] :
        List (Instr × Nat)),
      a.toNat % p.2 = 0 → ∃ t, exec p.1 s = .next t ∧ ResultStore s t g.pa p.2 g.little (getR s rd)

/-- For even rd, where the address is a multiple of 8 (16 for LDTXA) and both halves translate, each completes: LDTW and
LDTWA put the zero-extended word at the address in R[rd] and the next word in R[rd + 1], LDTXA two doublewords, STTW and
STTWA store the low words of R[rd] and R[rd + 1]. Nothing else changes. For odd rd each takes illegal_instruction. That
LDTW, LDTWA, STTW and STTWA run in hardware is the spec's decision D4 (log entry 48); their other exceptions are stated
with those of all accesses. That every address is memory (log entry 8) and that no hardware tablewalk installs an entry
on the way (log entry 13) are the spec's defaults, which the model chooses, and that memory has a store at once is its
reading (DEDUCED, log entry 45). -/
def Obligations.TwinLoadsAndStores : Prop :=
  ∀ (rd rs1 rs2 : BitVec 5) (s : State) (a : DWord) (g0 g1 : Target),
    (rd.getLsbD 0 = true → ∀ (op2 : RegOrImm13) (ea : AsiOperand) (asi : Byte),
      ∀ i ∈ [Instr.ldtw rd rs1 op2, .ldtwa rd rs1 ea, .ldtxa rd rs1 rs2 asi, .sttw rd rs1 op2, .sttwa rd rs1 ea],
        exec i s = .next (takeTrap s .illegalInstruction))
    ∧ (rd.getLsbD 0 = false →
      (∀ (i : Instr) (asi : Byte), a.toNat % 8 = 0 →
        (∃ op2, i = .ldtw rd rs1 op2 ∧ a = getR s rs1 + src2 s op2 ∧ asi = implicitAsi s)
          ∨ (∃ ea, i = .ldtwa rd rs1 ea ∧ a = asiAddress s rs1 ea ∧ asi = asiNumber s ea ∧ asiPermitted s asi = true
            ∧ admitsLoad (asiClass asi) = true) →
        translate s .load false asi (maskAm s a) = .ok g0 → translate s .load false asi (maskAm s (a + 4)) = .ok g1 →
        ∃ t v0 v1, exec i s = .next t ∧ Loaded s g0.pa 4 g0.little v0 ∧ Loaded s g1.pa 4 g1.little v1
          ∧ WrotePair s t rd v0 v1 ∧ SameBytes s t ∧ t = advance { s with globals := t.globals, windows := t.windows })
      ∧ (∀ asi : Byte, a = getR s rs1 + getR s rs2 → a.toNat % 16 = 0 →
        ∀ x : Byte, x = (if asi = 0x24 then 0x27 else if asi = 0x2C then 0x2F else asi) → asiPermitted s x = true →
        translate s .load true x (maskAm s a) = .ok g0 → translate s .load true x (maskAm s (a + 8)) = .ok g1 →
        ∃ t v0 v1, exec (.ldtxa rd rs1 rs2 asi) s = .next t ∧ Loaded s g0.pa 8 g0.little v0
          ∧ Loaded s g1.pa 8 g1.little v1 ∧ WrotePair s t rd v0 v1 ∧ SameBytes s t
          ∧ t = advance { s with globals := t.globals, windows := t.windows })
      ∧ ∀ (i : Instr) (asi : Byte), Memory.wf s.paWidth s.memory = true → a.toNat % 8 = 0 →
        (∃ op2, i = .sttw rd rs1 op2 ∧ a = getR s rs1 + src2 s op2 ∧ asi = implicitAsi s)
          ∨ (∃ ea, i = .sttwa rd rs1 ea ∧ a = asiAddress s rs1 ea ∧ asi = asiNumber s ea ∧ asiPermitted s asi = true
            ∧ admitsStore (asiClass asi) = true) →
        translate s .store false asi (maskAm s a) = .ok g0 → translate s .store false asi (maskAm s (a + 4)) = .ok g1 →
        ∃ t u, exec i s = .next t ∧ Stored s u g0.pa 4 g0.little (getR s rd) ∧ Stored u t g1.pa 4 g1.little (getR s (rd + 1))
          ∧ t = advance { s with memory := t.memory })

/-- In a state whose memory is in canonical form, where the address is a multiple of the size and translates for an
atomic access (and the ASI is permitted and admits atomics), each completes: R[rd] receives the old bytes zero-extended;
LDSTUB stores 0xFF, SWAP the low word of the old R[rd], CASA and CASXA the old R[rd] if the old value equals R[rs2] (its
low word for CASA), else nothing. No other byte and no other register changes. That every address is memory (log entry
8) and that no hardware tablewalk installs an entry on the way (log entry 13) are the spec's defaults, which the model
chooses, and that memory has a store at once is its reading (DEDUCED, log entry 45). -/
def Obligations.AtomicLoadStores : Prop :=
  ∀ (rd rs1 rs2 : BitVec 5) (s : State) (a : DWord) (g : Target) (asi : Byte), Memory.wf s.paWidth s.memory = true →
    translate s .atomic false asi (maskAm s a) = .ok g →
    (∀ (op2 : RegOrImm13) (ea : AsiOperand) (n : Nat) (new : DWord) (i : Instr), a.toNat % n = 0 →
      ((i = .ldstub rd rs1 op2 ∧ n = 1 ∧ new = 0xFF ∨ i = .swap rd rs1 op2 ∧ n = 4 ∧ new = getR s rd)
          ∧ a = getR s rs1 + src2 s op2 ∧ asi = implicitAsi s)
        ∨ ((i = .ldstuba rd rs1 ea ∧ n = 1 ∧ new = 0xFF ∨ i = .swapa rd rs1 ea ∧ n = 4 ∧ new = getR s rd)
          ∧ a = asiAddress s rs1 ea ∧ asi = asiNumber s ea ∧ asiPermitted s asi = true
          ∧ admitsAtomic (asiClass asi) = true) →
      ∃ t old, exec i s = .next t ∧ Loaded s g.pa n g.little old ∧ ResultAtomic s t rd old g.pa n g.little new)
    ∧ ∀ sel : AsiSelect, a = getR s rs1 → asi = (match sel with | .imm x => x | .asiReg => s.asi) →
      asiPermitted s asi = true → admitsAtomic (asiClass asi) = true →
      ∀ p ∈ ([(Instr.casa rd rs1 rs2 sel, 4), (.casxa rd rs1 rs2 sel, 8)] : List (Instr × Nat)), a.toNat % p.2 = 0 →
      ∃ t old, exec p.1 s = .next t ∧ Loaded s g.pa p.2 g.little old
        ∧ (old.toNat = (getR s rs2).toNat % 2 ^ (8 * p.2) → ResultAtomic s t rd old g.pa p.2 g.little (getR s rd))
        ∧ (old.toNat ≠ (getR s rs2).toNat % 2 ^ (8 * p.2) → ResultR s t rd old)

/-- In privileged or hyperprivileged mode STXA to ASI 0x20 at 8k writes scratchpad k and LDXA reads it back; ASI 0x4F
does the same for the hyperprivileged scratchpads, in hyperprivileged mode. ASI 0x25 at 0x3C0 + 8k is queue register
k: LDXA reads it; STXA writes R[rd] masked by QUEUE_REG_MASK, whose bits 5:0 are zero, but a privileged store to a
tail (odd k) takes data_access_exception. ASI 0x21 at 8 and 0x10 holds the primary and secondary contexts, ASI 0x58 at
0x80 the partition ID (implemented bits only), in hyperprivileged mode. Nothing else changes. The model's choices in
it: the privileged tail refusal, scratchpads 4 to 7 open to privileged mode and no hyperprivileged scratchpad an alias
are the spec's defaults (log entry 7); the two masks are free (log entries 22 and 23). With the FPU enabled LDDFA
reads each of these registers into F_D[rd] and STDFA writes it from F_D[rd], as LDXA and STXA do with R[rd]. -/
def Obligations.AsiRegisters : Prop :=
  ∀ (rd rs1 : BitVec 5) (ea : AsiOperand) (s : State) (k : BitVec 3) (i : Instr) (a v : DWord),
    a = asiAddress s rs1 ea → StoresRegister s rd rs1 ea i v → isUser s = false →
    (a = BitVec.ofNat 64 (8 * k.toNat) →
      (asiNumber s ea = 0x20 →
        ReadsRegister s rd rs1 ea (bankRead s.scratchpad k)
        ∧ ∃ t, exec i s = .next t ∧ t = advance { s with scratchpad := t.scratchpad }
          ∧ ∀ j, bankRead t.scratchpad j = if j = k then v else bankRead s.scratchpad j)
      ∧ (asiNumber s ea = 0x4F → isHyper s = true →
        ReadsRegister s rd rs1 ea (bankRead s.hypScratchpad k)
        ∧ ∃ t, exec i s = .next t ∧ t = advance { s with hypScratchpad := t.hypScratchpad }
          ∧ ∀ j, bankRead t.hypScratchpad j = if j = k then v else bankRead s.hypScratchpad j))
    ∧ (a = BitVec.ofNat 64 (0x3C0 + 8 * k.toNat) → asiNumber s ea = 0x25 →
      ReadsRegister s rd rs1 ea (bankRead s.queues k)
      ∧ (isHyper s = true ∨ k.getLsbD 0 = false →
        ∃ t, exec i s = .next t ∧ t = advance { s with queues := t.queues }
          ∧ ∀ j, bankRead t.queues j = if j = k then v &&& (Config.queueRegMaskHigh ++ 0#6) else bankRead s.queues j)
      ∧ (isHyper s = false → k.getLsbD 0 = true → RefusesAsi s i a))
    ∧ (asiNumber s ea = 0x21 →
      (a = 8 → ReadsRegister s rd rs1 ea (s.mmu.primaryContext.setWidth 64)
        ∧ ∃ t, exec i s = .next t
          ∧ t = advance { s with mmu := { s.mmu with primaryContext := v.extractLsb' 0 16 } })
      ∧ (a = 16 → ReadsRegister s rd rs1 ea (s.mmu.secondaryContext.setWidth 64)
        ∧ ∃ t, exec i s = .next t
          ∧ t = advance { s with mmu := { s.mmu with secondaryContext := v.extractLsb' 0 16 } }))
    ∧ (asiNumber s ea = 0x58 → isHyper s = true → a = 0x80 →
      ReadsRegister s rd rs1 ea s.mmu.partitionId
      ∧ ∃ t, exec i s = .next t
        ∧ t = advance { s with mmu := { s.mmu with partitionId := v &&& Config.partitionIdMask } })

/-- In hyperprivileged mode LDXA reads every register of ASI 0x41 and 0x63. STXA writes STRAND_ENABLE (the available
strands' bits; a store of none leaves it 0 or, as the open ENABLE_ZERO_GUARD says, with some available strand), the
writable bits of XIR_STEERING, STRAND_INTR_ID, and through STRAND_RUNNING (as stored, W1S or W1C) parks and unparks the
enabled strands unless none would run; STRAND_RUNNING_STATUS follows at once. STRAND_ID has its three fields in the
places of the chip's layout. An MMU register of ASIs 0x50 to 0x58 with no documented layout reads and is written as the
open functions MMULdxa and MMUStxa say, or takes data_access_exception where they say so; what such a store installs in
a TLB makes no address match two entries. LDXA reads the tag targets likewise, and DSFAR. Nothing outside the MMU or the
CMT registers changes. The strands of the chip are whatever the state carries (log entry 6); the default values
INTR_ID_WRITABLE_MASK, SKID_MAX 0 and the open ENABLE_ZERO_GUARD and XIR_STEERING_WRITABLE are log entry 7; MMULdxa is
free, and MMUStxa but for the constraints of rule R1382 (log entries 25, 26, 28). With the FPU enabled LDDFA and STDFA
do the same with F_D[rd]. -/
def Obligations.CmtAndMmuRegisters : Prop :=
  ∀ (rd rs1 : BitVec 5) (ea : AsiOperand) (s : State) (i : Instr) (a b v : DWord),
    a = asiAddress s rs1 ea → b = maskAm s a → StoresRegister s rd rs1 ea i v → isHyper s = true →
    (asiNumber s ea = 0x41 →
      (∀ p ∈ ([(0, s.chip.available), (0x10, s.cmt.enableStatus), (0x20, s.cmt.enable), (0x30, s.cmt.xirSteering),
          (0x50, s.cmt.running), (0x58, s.cmt.runningStatus)] : List (DWord × DWord)),
        a = p.1 → ReadsRegister s rd rs1 ea p.2)
      ∧ (a = 0x20 → ∃ t, exec i s = .next t
        ∧ t = advance { s with cmt := { s.cmt with enable := t.cmt.enable } }
        ∧ (v &&& s.chip.available ≠ 0 → t.cmt.enable = v &&& s.chip.available)
        ∧ (v &&& s.chip.available = 0 → Config.enableZeroGuard = false → t.cmt.enable = 0)
        ∧ (v &&& s.chip.available = 0 → Config.enableZeroGuard = true → t.cmt.enable &&& ~~~s.chip.available = 0
          ∧ (s.chip.available ≠ 0 → t.cmt.enable ≠ 0)))
      ∧ (a = 0x30 → ∃ t, exec i s = .next t
        ∧ t = advance { s with cmt := { s.cmt with xirSteering := t.cmt.xirSteering } }
        ∧ ∀ n < 64, t.cmt.xirSteering.getLsbD n =
            if Config.xirSteeringWritable.getLsbD n = true then v.getLsbD n && s.chip.available.getLsbD n
            else s.cmt.xirSteering.getLsbD n)
      ∧ ∀ p ∈ ([(0x50, v), (0x60, s.cmt.running ||| v), (0x68, s.cmt.running &&& ~~~v)] : List (DWord × DWord)), a = p.1 →
        ∀ r, r = p.2 &&& s.cmt.enableStatus → ∃ t, exec i s = .next t
          ∧ (r = 0 → t = advance s)
          ∧ (r ≠ 0 → t = advance { s with cmt := { s.cmt with running := r, runningStatus := r } }))
    ∧ (asiNumber s ea = 0x63 →
      (a = 0 → ReadsRegister s rd rs1 ea (s.cmt.intrId.setWidth 64)
        ∧ ∃ t, exec i s = .next t ∧ t = advance { s with cmt := { s.cmt with intrId := v.extractLsb' 0 16 } })
      ∧ (a = 0x10 → ∃ x, ReadsRegister s rd rs1 ea x ∧ (chipLegal s.chip = true → IsStrandId s.chip x)))
    ∧ (a.toNat % 8 = 0 → RegisterAt platformRegisters (asiNumber s ea) b →
      ReadsPlatform s rd rs1 ea b
      ∧ StoresPlatform s i (asiNumber s ea) a b v fun n =>
          InstallsLawfully s.mmu.itlb n.itlb ∧ InstallsLawfully s.mmu.dtlb n.dtlb)
    ∧ (a = 0 → asiNumber s ea = 0x50 ∨ asiNumber s ea = 0x58 → ReadsPlatform s rd rs1 ea 0)
    ∧ (a = 0x20 → asiNumber s ea = 0x58 → ReadsRegister s rd rs1 ea s.mmu.dsfar)

/-- In hyperprivileged mode STXA to ASI 0x54 or 0x5C at 0 puts into the instruction or data TLB the entry whose page is
the one the tag access register names, of the TTE word's size, with its physical page and its attributes; an entry with
v = 0 or a reserved size, or that would make two match one address, is refused (decision D32). STXA to ASI 0x57 or 0x5F
at 0 removes entries and adds none. STXA to ASI 0x55 or 0x5D, and the other TLB on a data-in store, may lose entries and
gain some of which none makes two match one address. Each does so where the open MMUStxa answers, takes
data_access_exception where it does not, and otherwise changes in the MMU what MMUStxa changes, and nothing outside it:
these constraints of rule R1382 are all that is assumed of it (log entries 25, 26, 30 and 31). An entry matches an
address of its partition, kind, context (none for a real address) and page. The model's choices in it: a refused store
may remove entries, and an entry has any partition (log entry 34); the TLBs are unbounded and 256-Mbyte pages supported
(log entry 7), and lists with the newest entry first (log entry 29); how the tag access register names an address and a
context is free (log entry 27). LDXA of ASIs 0x55, 0x56, 0x5D and 0x5E returns what the open MMULdxa says (log entry
28). With the FPU enabled LDDFA and STDFA do the same with F_D[rd]. -/
def Obligations.TlbStores : Prop :=
  (∀ (rd rs1 : BitVec 5) (ea : AsiOperand) (s : State) (i : Instr) (a v b : DWord) (tlb other : Mmu → List TlbEntry)
      (tag : TlbTag) (inAsi accessAsi demapAsi tagAsi : Byte),
    a = asiAddress s rs1 ea → StoresRegister s rd rs1 ea i v → isHyper s = true → b = maskAm s a →
    (inAsi = 0x54 ∧ accessAsi = 0x55 ∧ demapAsi = 0x57 ∧ tagAsi = 0x56 ∧ tlb = (fun m => m.itlb) ∧ other = (fun m => m.dtlb)
        ∧ tag = Config.tagAccessDecode s.mmu.itagAccess)
      ∨ (inAsi = 0x5C ∧ accessAsi = 0x5D ∧ demapAsi = 0x5F ∧ tagAsi = 0x5E ∧ tlb = (fun m => m.dtlb)
        ∧ other = (fun m => m.itlb) ∧ tag = Config.tagAccessDecode s.mmu.dtagAccess) →
    (a = 0 → asiNumber s ea = inAsi →
      StoresPlatform s i inAsi a b v fun n => InstallsLawfully (other s.mmu) (other n)
        ∧ (v.getLsbD 63 = false ∨ v.extractLsb' 0 4 ∉ ([0, 1, 3, 5] : List (BitVec 4)) → (tlb n).Sublist (tlb s.mmu))
        ∧ ∃ partition : DWord,
          ∀ p ∈ ([(0, .p8K, 0x2000), (1, .p64K, 0x10000), (3, .p4M, 0x400000), (5, .p256M, 0x10000000)] :
              List (BitVec 4 × PageSize × Nat)),
            v.getLsbD 63 = true → v.extractLsb' 0 4 = p.1 → ∀ e : TlbEntry,
            e = ⟨tag.real, partition, tag.context, BitVec.ofNat 64 (tag.address.toNat / p.2.2 * p.2.2), p.2.1,
              BitVec.ofNat 64 (v.toNat % 2 ^ 56 / p.2.2 * p.2.2), v.getLsbD 62, v.getLsbD 12, v.getLsbD 11, v.getLsbD 10,
              v.getLsbD 9, v.getLsbD 8, v.getLsbD 7, v.getLsbD 6⟩ →
            ((∀ d ∈ tlb s.mmu, ∀ q x y, ¬(tlbMatches q x y d = true ∧ tlbMatches q x y e = true)) → tlb n = e :: tlb s.mmu)
            ∧ ((∃ d ∈ tlb s.mmu, ∃ q x y, tlbMatches q x y d = true ∧ tlbMatches q x y e = true) →
                (tlb n).Sublist (tlb s.mmu)))
    ∧ (a = 0 → asiNumber s ea = demapAsi →
      StoresPlatform s i demapAsi a b v fun n => (tlb n).Sublist (tlb s.mmu) ∧ (other n).Sublist (other s.mmu))
    ∧ (a.toNat % 8 = 0 →
      (asiNumber s ea = accessAsi → b.toNat ≤ 0x3F8 ∨ 0x800 ≤ b.toNat ∧ b.toNat ≤ 0x7FFF8 →
        ReadsPlatform s rd rs1 ea b
        ∧ StoresPlatform s i accessAsi a b v fun n =>
            InstallsLawfully (tlb s.mmu) (tlb n) ∧ InstallsLawfully (other s.mmu) (other n))
      ∧ (asiNumber s ea = tagAsi → b.toNat ≤ 0xFFFF8 → ReadsPlatform s rd rs1 ea b)))
  ∧ ∀ (q : DWord) (x : Option (BitVec 16)) (b : DWord) (e : TlbEntry), tlbMatches q x b e = true ↔
      e.partition = q ∧ e.base.toNat ≤ b.toNat
      ∧ b.toNat < e.base.toNat
          + (match e.size with | .p8K => 0x2000 | .p64K => 0x10000 | .p4M => 0x400000 | .p256M => 0x10000000)
      ∧ (match x with | none => e.real = true | some c => e.real = false ∧ e.context = c)

/-- Below hyperprivileged mode the implicit ASI is primary at TL = 0 and nucleus above it, little-endian where
PSTATE.cle = 1; in hyperprivileged mode an implicit access is physical with PSTATE.cle's byte order (log entry 36). An
alternate-space instruction takes its address and ASI from R[rs2] and imm_asi, or from its immediate and the ASI
register; CASA and CASXA from R[rs1]. Each of the 256 ASIs has the class of the lists, and none that the lists leave
out is assigned: that only the named ASIs exist is decision D37 (log entry 48). Loads use the classes all, noatomic
and nofault, stores all and noatomic, atomics all. Translating ASIs name the real, nucleus, secondary or primary space
as listed. -/
def Obligations.AsiClassesAndImplicitAsi : Prop :=
  (∀ s : State,
      (isHyper s = false → implicitAsi s =
        if s.tl = 0 then (if s.pstate.cle = true then 0x88 else 0x80) else (if s.pstate.cle = true then 0x0C else 0x04))
      ∧ (isHyper s = true → ∀ (acc : Access) (c : Bool) (a : DWord), translate s acc c (implicitAsi s) a = .ok ⟨a, s.pstate.cle⟩)
      ∧ (∀ (rs1 r : BitVec 5) (n : Byte), asiAddress s rs1 (.reg r n) = getR s rs1 + getR s r ∧ asiNumber s (.reg r n) = n)
      ∧ (∀ (rs1 : BitVec 5) (k : BitVec 13),
        asiAddress s rs1 (.imm k) = getR s rs1 + BitVec.ofInt 64 k.toInt ∧ asiNumber s (.imm k) = s.asi)
      ∧ ∀ n : Byte, casAsi s (.imm n) = n ∧ casAsi s .asiReg = s.asi)
  ∧ (∀ asi : Byte,
      (asiClass asi = .all ↔ asi ∈ ([0x04, 0x0C, 0x10, 0x11, 0x18, 0x19, 0x14, 0x1C, 0x80, 0x81, 0x88, 0x89, 0x30, 0x31, 0x36, 0x38, 0x39, 0x3E] : List Byte))
      ∧ (asiClass asi = .noatomic ↔ asi ∈ ([0x15, 0x1D] : List Byte))
      ∧ (asiClass asi = .nofault ↔ asi ∈ ([0x82, 0x83, 0x8A, 0x8B] : List Byte))
      ∧ (asiClass asi = .ldtx ↔ asi ∈ ([0x22, 0x23, 0x26, 0x27, 0x2A, 0x2B, 0x2E, 0x2F, 0xE2, 0xE3, 0xEA, 0xEB, 0x24, 0x2C] : List Byte))
      ∧ (asiClass asi = .block ↔ asi ∈ ([0x16, 0x17, 0x1E, 0x1F, 0xF0, 0xF1, 0xF8, 0xF9] : List Byte))
      ∧ (asiClass asi = .partialStore ↔ asi ∈ ([0xC0, 0xC1, 0xC2, 0xC3, 0xC4, 0xC5, 0xC8, 0xC9, 0xCA, 0xCB, 0xCC, 0xCD] : List Byte))
      ∧ (asiClass asi = .short ↔ asi ∈ ([0xD0, 0xD1, 0xD2, 0xD3, 0xD8, 0xD9, 0xDA, 0xDB] : List Byte))
      ∧ (asiClass asi = .register ↔ asi ∈ ([0x20, 0x21, 0x25, 0x41, 0x4F, 0x50, 0x52, 0x54, 0x55, 0x56, 0x57, 0x58, 0x5C, 0x5D, 0x5E, 0x5F, 0x63] : List Byte))
      ∧ (asiIsBlock asi = true ↔ asiClass asi = .block) ∧ (asiIsShort asi = true ↔ asiClass asi = .short)
      ∧ (asiIsPartial asi = true ↔ asiClass asi = .partialStore) ∧ (asiIsNoFault asi = true ↔ asiClass asi = .nofault)
      ∧ (asiIsRealIo asi = true ↔ asiClass asi = .noatomic)
      ∧ (asiIsAsIfUser asi = true ↔ asi ∈ ([0x10, 0x11, 0x16, 0x17, 0x18, 0x19, 0x1E, 0x1F, 0x22, 0x23, 0x2A, 0x2B] : List Byte))
      ∧ (asiIsAsIfPriv asi = true ↔ asi ∈ ([0x30, 0x31, 0x36, 0x38, 0x39, 0x3E] : List Byte)))
  ∧ (∀ c : AsiClass, (admitsLoad c = true ↔ c = .all ∨ c = .noatomic ∨ c = .nofault)
      ∧ (admitsStore c = true ↔ c = .all ∨ c = .noatomic) ∧ (admitsAtomic c = true ↔ c = .all)
      ∧ (isSpecialClass c = true ↔ c = .ldtx ∨ c = .block ∨ c = .partialStore ∨ c = .short))
  ∧ (∀ asi ∈ ([0x14, 0x15, 0x1C, 0x1D, 0x26, 0x2E] : List Byte), asiSpace asi = .real)
  ∧ (∀ asi ∈ ([0x04, 0x0C, 0x27, 0x2F, 0x24, 0x2C, 0x36, 0x3E] : List Byte), asiSpace asi = .nucleus)
  ∧ (∀ asi ∈ ([0x11, 0x19, 0x17, 0x1F, 0x23, 0x2B, 0x31, 0x39, 0x81, 0x83, 0x89, 0x8B, 0xC1, 0xC3, 0xC5, 0xC9, 0xCB, 0xCD, 0xD1, 0xD3, 0xD9, 0xDB, 0xE3, 0xEB, 0xF1, 0xF9] : List Byte), asiSpace asi = .secondary)
  ∧ ∀ asi ∈ ([0x10, 0x18, 0x80, 0x88, 0x30, 0x38, 0x82, 0x8A, 0x22, 0x2A, 0xE2, 0xEA, 0x16, 0x1E, 0xF0, 0xF8, 0xC0, 0xC2, 0xC4, 0xC8, 0xCA, 0xCC, 0xD0, 0xD2, 0xD8, 0xDA] : List Byte), asiSpace asi = .primary

/-- A halfword, word or doubleword access (16 bytes for LDTXA) whose address is not a multiple of its size takes
mem_address_not_aligned; else an alternate-space access with an ASI the mode may not use takes privileged_action; one
with a permitted ASI that does not admit the instruction takes data_access_exception, as LDXA, STXA, LDDFA and STDFA do
at an address that names no register of a register ASI, or one they may not read or write. With an ASI of another
special instruction the alignment is not checked. Nonprivileged mode may use ASIs 0x80 to 0xFF, privileged mode also
0x00 to 0x2F, hyperprivileged mode all. Before the trap only DSFAR changes, which receives the masked address, and for
data_access_exception DSFSR and the tag access register. Floating-point accesses: with the FPU enabled, their
misalignment stated elsewhere. That only the named ASIs exist is decision D37 (log entry 48), that a twin ASI in the ASI
register traps LDTWA decision D5 (log entry 35), and the fault type code is free (log entry 32). That no watchpoint
comes before data_access_exception is the spec's default (log entry 9). -/
def Obligations.AccessTraps : Prop :=
  ∀ (rd rs1 rs2 : BitVec 5) (s : State) (a : DWord),
    (∀ op2 : RegOrImm13, a = getR s rs1 + src2 s op2 →
      (∀ p ∈ ([(Instr.ldsh rd rs1 op2, 2), (.ldsw rd rs1 op2, 4), (.lduh rd rs1 op2, 2), (.lduw rd rs1 op2, 4),
        (.ldx rd rs1 op2, 8), (.sth rd rs1 op2, 2), (.stw rd rs1 op2, 4), (.stx rd rs1 op2, 8), (.swap rd rs1 op2, 4)] : List (Instr × Nat)),
        a.toNat % p.2 ≠ 0 → Refuses s p.1 .memAddressNotAligned a)
      ∧ (rd.getLsbD 0 = false → a.toNat % 8 ≠ 0 → ∀ i ∈ [Instr.ldtw rd rs1 op2, .sttw rd rs1 op2],
        Refuses s i .memAddressNotAligned a))
    ∧ (∀ asi : Byte, asiPermitted s asi = true ↔
        0x80 ≤ asi.toNat ∨ isHyper s = true ∨ (isPriv s = true ∧ asi.toNat < 0x30))
    ∧ (∀ (ea : AsiOperand) (sel : AsiSelect) (asi : Byte) (even fpu : Bool), even = !rd.getLsbD 0 →
      fpu = (s.pstate.pef && s.fprs.fef) →
      ∀ p ∈ ([(Instr.ldsha rd rs1 ea, 2, admitsLoad, true, asiAddress s rs1 ea, asiNumber s ea),
        (.ldswa rd rs1 ea, 4, admitsLoad, true, asiAddress s rs1 ea, asiNumber s ea),
        (.lduha rd rs1 ea, 2, admitsLoad, true, asiAddress s rs1 ea, asiNumber s ea),
        (.lduwa rd rs1 ea, 4, admitsLoad, true, asiAddress s rs1 ea, asiNumber s ea),
        (.stha rd rs1 ea, 2, admitsStore, true, asiAddress s rs1 ea, asiNumber s ea),
        (.stwa rd rs1 ea, 4, admitsStore, true, asiAddress s rs1 ea, asiNumber s ea),
        (.swapa rd rs1 ea, 4, admitsAtomic, true, asiAddress s rs1 ea, asiNumber s ea),
        (.ldsba rd rs1 ea, 1, admitsLoad, true, asiAddress s rs1 ea, asiNumber s ea),
        (.lduba rd rs1 ea, 1, admitsLoad, true, asiAddress s rs1 ea, asiNumber s ea),
        (.stba rd rs1 ea, 1, admitsStore, true, asiAddress s rs1 ea, asiNumber s ea),
        (.ldstuba rd rs1 ea, 1, admitsAtomic, true, asiAddress s rs1 ea, asiNumber s ea),
        (.ldtwa rd rs1 ea, 8, admitsLoad, even, asiAddress s rs1 ea, asiNumber s ea),
        (.sttwa rd rs1 ea, 8, admitsStore, even, asiAddress s rs1 ea, asiNumber s ea),
        (.ldfa rd rs1 ea, 4, admitsLoad, fpu, asiAddress s rs1 ea, asiNumber s ea),
        (.stfa rd rs1 ea, 4, admitsStore, fpu, asiAddress s rs1 ea, asiNumber s ea),
        (.casa rd rs1 rs2 sel, 4, admitsAtomic, true, getR s rs1, casAsi s sel),
        (.casxa rd rs1 rs2 sel, 8, admitsAtomic, true, getR s rs1, casAsi s sel)] :
        List (Instr × Nat × (AsiClass → Bool) × Bool × DWord × Byte)),
      p.2.2.2.1 = true → a = p.2.2.2.2.1 → asi = p.2.2.2.2.2 →
      (isSpecialClass (asiClass asi) = false → a.toNat % p.2.1 ≠ 0 → Refuses s p.1 .memAddressNotAligned a)
      ∧ (isSpecialClass (asiClass asi) = true ∨ a.toNat % p.2.1 = 0 →
        (asiPermitted s asi = false → Refuses s p.1 .privilegedAction a)
        ∧ (asiPermitted s asi = true → p.2.2.1 (asiClass asi) = false → RefusesAsi s p.1 a)))
    ∧ (∀ (ea : AsiOperand) (asi : Byte) (c : AsiClass) (fpu : Bool), a = asiAddress s rs1 ea → asi = asiNumber s ea →
      c = asiClass asi → fpu = (s.pstate.pef && s.fprs.fef) →
      ∀ p ∈ ([(Instr.ldxa rd rs1 ea, admitsLoad, readableRegisters, true), (.stxa rd rs1 ea, admitsStore, writableRegisters, true),
        (.lddfa rd rs1 ea, admitsLoad, readableRegisters, fpu && c != .block && c != .short),
        (.stdfa rd rs1 ea, admitsStore, writableRegisters, fpu && c != .partialStore && c != .block && c != .short)] :
        List (Instr × (AsiClass → Bool) × List (Byte × Nat × Nat) × Bool)),
      p.2.2.2 = true →
      (isSpecialClass c = false → a.toNat % 8 ≠ 0 →
        p.1 = .ldxa rd rs1 ea ∨ p.1 = .stxa rd rs1 ea → Refuses s p.1 .memAddressNotAligned a)
      ∧ (isSpecialClass c = true ∨ a.toNat % 8 = 0 →
        (asiPermitted s asi = false → Refuses s p.1 .privilegedAction a)
        ∧ (asiPermitted s asi = true → c ≠ .register → p.2.1 c = false → RefusesAsi s p.1 a)
        ∧ (asiPermitted s asi = true → c = .register → ¬RegisterAt p.2.2.1 asi (maskAm s a) → RefusesAsi s p.1 a)))
    ∧ ∀ asi x : Byte, rd.getLsbD 0 = false → a = getR s rs1 + getR s rs2 →
      x = (if asi = 0x24 then 0x27 else if asi = 0x2C then 0x2F else asi) →
      (a.toNat % 16 ≠ 0 → Refuses s (.ldtxa rd rs1 rs2 asi) .memAddressNotAligned a)
      ∧ (a.toNat % 16 = 0 → asiPermitted s x = false → Refuses s (.ldtxa rd rs1 rs2 asi) .privilegedAction a)

/-- In hyperprivileged mode a data access with an ASI that is neither real nor as-if-user or as-if-privileged is
physical (DEDUCED, log entry 36), and so is every fetch. Any other access looks its address up: as real, or in the
ASI's context (nucleus 0, log entry 46), and with no address in two entries (D32) goes to the same offset of the
entry's page, unless the page forbids it: privileged page to a nonprivileged or as-if-user access, no-fault page to
another ASI, page with side effects to a no-fault ASI, noncacheable page to an atomic or LDTXA (REAL_IO counts as
both) give data_access_exception; a write to a page with w = 0 fast_data_access_protection; for a fetch a privileged,
non-executable or no-fault page instruction_access_exception. An address no entry covers takes the miss trap of its
kind. DSFAR, DSFSR and the tag access registers are written as TABLE 14-2 says; the encodings are free (log entries 27
and 32), the context of a data_access_exception too. The byte order is the ASI's, inverted by ie, but fixed for
as-if-user ASIs in hyperprivileged mode (D36, log entry 48). That every address is memory, no watchpoint holds and a
miss is not walked by hardware are the spec's defaults (log entries 8, 9, 13). -/
def Obligations.AddressTranslation : Prop :=
  ∀ (s : State) (a : DWord),
    (isHyper s = true → translateFetch s a = .ok a
      ∧ ∀ (acc : Access) (c : Bool) (asi : Byte), asiSpace asi ≠ .real → asiIsAsIfUser asi = false →
        asiIsAsIfPriv asi = false → ∃ little, translate s acc c asi a = .ok ⟨a, little⟩ ∧ little = asi.getLsbD 3)
    ∧ (∀ (acc : Access) (c : Bool) (asi : Byte) (x : Option (BitVec 16)),
      isHyper s = false ∨ asiSpace asi = .real ∨ asiIsAsIfUser asi = true ∨ asiIsAsIfPriv asi = true →
      x = (if s.mmu.dmmuEnable = true ∧ s.hpstate.red = false then
          (match asiSpace asi with
            | .primary => (some s.mmu.primaryContext : Option (BitVec 16)) | .secondary => some s.mmu.secondaryContext
            | .nucleus => some 0 | .real => none)
        else none) →
      (∀ e ∈ s.mmu.dtlb, TlbConsistent s.mmu.dtlb → tlbMatches s.mmu.partitionId x a e = true →
        ∀ privileged noFault sideEffect noncacheable little write : Bool,
        privileged = (e.p && (isUser s || asiIsAsIfUser asi)) → noFault = (e.nfo && !asiIsNoFault asi) →
        sideEffect = ((e.e || asiIsRealIo asi) && asiIsNoFault asi) →
        noncacheable = ((!e.cp || asiIsRealIo asi) && (c || acc == .atomic)) →
        write = (acc == .store || acc == .atomic) →
        little = (if isHyper s = true ∧ asi ∈ ([0x10, 0x11, 0x16, 0x17] : List Byte) then false
          else if isHyper s = true ∧ asi ∈ ([0x18, 0x19, 0x1E, 0x1F] : List Byte) then true else asi.getLsbD 3 != e.ie) →
        ((privileged || noFault || sideEffect || noncacheable) = true →
          ∃ u, translate s acc c asi a = .error ⟨.dataAccessException, u⟩ ∧ ReportedDae s u e.real a (!privileged && noFault))
        ∧ ((privileged || noFault || sideEffect || noncacheable) = false →
          (write = true → e.w = false → translate s acc c asi a = .error ⟨.fastDataAccessProtection,
            { s with mmu := { s.mmu with dsfar := a, dtagAccess := Config.tagAccessEncode ⟨e.real, e.context, a⟩ } }⟩)
          ∧ (write = false ∨ e.w = true → translate s acc c asi a = .ok ⟨e.pa + (a - e.base), little⟩)))
      ∧ ((∀ e ∈ s.mmu.dtlb, tlbMatches s.mmu.partitionId x a e = false) →
        (x = none → translate s acc c asi a = .error ⟨.dataRealTranslationMiss, s⟩)
        ∧ ∀ ctx, x = some ctx → translate s acc c asi a = .error ⟨.fastDataAccessMmuMiss,
            { s with mmu := { s.mmu with dsfar := a, dtagAccess := Config.tagAccessEncode ⟨false, ctx, a⟩ } }⟩))
    ∧ (isHyper s = false → ∀ x : Option (BitVec 16),
      x = (if s.mmu.immuEnable = true ∧ s.hpstate.red = false then
        (if s.tl = 0 then some s.mmu.primaryContext else some 0) else none) →
      (∀ e ∈ s.mmu.itlb, TlbConsistent s.mmu.itlb → tlbMatches s.mmu.partitionId x a e = true →
        ((e.p = false ∨ isUser s = false) ∧ e.ep = true ∧ e.nfo = false → translateFetch s a = .ok (e.pa + (a - e.base)))
        ∧ ((e.p = true ∧ isUser s = true) ∨ e.ep = false ∨ e.nfo = true →
          translateFetch s a = .error ⟨.instructionAccessException,
            { s with mmu := { s.mmu with itagAccess := Config.tagAccessEncode ⟨e.real, e.context, a⟩ } }⟩))
      ∧ ((∀ e ∈ s.mmu.itlb, tlbMatches s.mmu.partitionId x a e = false) →
        (x = none → translateFetch s a = .error ⟨.instructionRealTranslationMiss, s⟩)
        ∧ ∀ ctx, x = some ctx → translateFetch s a = .error ⟨.fastInstructionAccessMmuMiss,
            { s with mmu := { s.mmu with itagAccess := Config.tagAccessEncode ⟨false, ctx, a⟩ } }⟩))

/-- MEMBAR, STBAR and FLUSH complete in every state and change nothing but the program counters, but that FLUSH in a
strand that STRAND_RUNNING no longer names completes its parking: the next step runs no instruction. PREFETCH and
PREFETCHA change only the program counters unless their function is 5 to 15: then they take illegal_instruction. They
raise no other exception. That a barrier needs no effect is the model's reading for its one strand, whose accesses
complete in program order (log entry 45); that every PREFETCH is a NOP that raises nothing is decision D7 (log entry
48), and that FLUSH needs no other effect decision D8 (log entry 44). -/
def Obligations.PrefetchBarriersAndFlush : Prop :=
  ∀ (s : State) (fcn rs1 : BitVec 5) (op2 : RegOrImm13) (ea : AsiOperand) (cmask : BitVec 3) (mmask : BitVec 4),
    (∀ i ∈ [Instr.membar cmask mmask, .stbar], ∃ t, exec i s = .next t ∧ t = advance s ∧ SameBytes s t)
    ∧ (∃ u, exec (.flush rs1 op2) s = .next (advance u) ∧ ParkingCompleted s u ∧ SameBytes s u
      ∧ (s.cmt.running.getLsbD s.chip.strand.toNat = true → u = s)
      ∧ (s.cmt.running.getLsbD s.chip.strand.toNat = false → isRunning (advance u) = false))
    ∧ ∀ i ∈ [Instr.prefetch fcn rs1 op2, .prefetcha fcn rs1 ea],
      (5 ≤ fcn.toNat ∧ fcn.toNat ≤ 15 → exec i s = .next (takeTrap s .illegalInstruction))
      ∧ (¬(5 ≤ fcn.toNat ∧ fcn.toNat ≤ 15) → ∃ t, exec i s = .next t ∧ t = advance s ∧ SameBytes s t)

/-- With the FPU enabled, where the address is a multiple of the size and translates (for an alternate space: the ASI is
permitted and admits loads), LDF and LDFA write F_S[rd], LDDF and LDDFA F_D[rd], with the dirty bit of the register;
LDFSR writes rd, tem, fcc0, aexc and cexc of FSR, LDXFSR also fcc1 to fcc3; ver and ftt stay. Nothing else changes. With
the FPU disabled each takes fp_disabled, a load of an F register leaving its dirty bit set (log entry 12). A doubleword
address that is a multiple of 4 only takes LDDF_mem_address_not_aligned, another misaligned one mem_address_not_aligned;
in an alternate space so does an ASI of no other special instruction. The order of the bits inside tem, aexc and cexc in
FSR's image is general knowledge (PRESUMED, log entry 46). LDDFA with a block or short ASI is in
BlockShortAndPartialTransfers, with the ASI of a register in AsiRegisters, CmtAndMmuRegisters and TlbStores. That every
address is memory (log entry 8) and that no hardware tablewalk installs an entry on the way (log entry 13) are the
spec's defaults, which the model chooses. -/
def Obligations.FloatingPointLoads : Prop :=
  ∀ (rd rs1 : BitVec 5) (s : State) (a : DWord) (g : Target),
    (∀ (op2 : RegOrImm13) (ea : AsiOperand), s.pstate.pef = false ∨ s.fprs.fef = false →
      exec (.ldfa rd rs1 ea) s = .next (takeTrap { s with fprs := dirtyLower s.fprs } .fpDisabled)
      ∧ (asiClass (asiNumber s ea) ≠ .block → asiClass (asiNumber s ea) ≠ .short →
        exec (.lddfa rd rs1 ea) s = .next (takeTrap { s with fprs := dirtyDouble s.fprs rd } .fpDisabled))
      ∧ exec (.ldf rd rs1 op2) s = .next (takeTrap { s with fprs := dirtyLower s.fprs } .fpDisabled)
      ∧ exec (.lddf rd rs1 op2) s = .next (takeTrap { s with fprs := dirtyDouble s.fprs rd } .fpDisabled)
      ∧ exec (.ldfsr rs1 op2) s = .next (takeTrap s .fpDisabled) ∧ exec (.ldxfsr rs1 op2) s = .next (takeTrap s .fpDisabled))
    ∧ (s.pstate.pef = true → s.fprs.fef = true →
      (∀ op2 : RegOrImm13, a = getR s rs1 + src2 s op2 →
        (∀ p ∈ ([(Instr.ldf rd rs1 op2, 4), (.ldfsr rs1 op2, 4), (.ldxfsr rs1 op2, 8), (.lddf rd rs1 op2, 4)] : List (Instr × Nat)),
          a.toNat % p.2 ≠ 0 → Refuses s p.1 .memAddressNotAligned a)
        ∧ (a.toNat % 8 = 4 → Refuses s (.lddf rd rs1 op2) .lddfMemAddressNotAligned a)
        ∧ (translate s .load false (implicitAsi s) (maskAm s a) = .ok g →
          (a.toNat % 4 = 0 → ∃ t v, Loaded s g.pa 4 g.little v ∧ exec (.ldf rd rs1 op2) s = .next t
            ∧ ResultFS s t rd (v.setWidth 32) s.fsr)
          ∧ (a.toNat % 8 = 0 → ∃ t v, Loaded s g.pa 8 g.little v ∧ exec (.lddf rd rs1 op2) s = .next t
            ∧ ResultFD s t rd v s.fsr)
          ∧ (a.toNat % 4 = 0 → ∃ t v, Loaded s g.pa 4 g.little v ∧ exec (.ldfsr rs1 op2) s = .next t ∧ SameBytes s t
            ∧ t = advance { s with fsr := t.fsr } ∧ fsrImage t.fsr = (BitVec.ofNat 64 (fsrImage s.fsr) &&& 0x3F000FF000
              ||| v &&& 0xCF800FFF &&& 0xFFFFFFFF).toNat)
          ∧ (a.toNat % 8 = 0 → ∃ t v, Loaded s g.pa 8 g.little v ∧ exec (.ldxfsr rs1 op2) s = .next t ∧ SameBytes s t
            ∧ t = advance { s with fsr := t.fsr } ∧ fsrImage t.fsr = (BitVec.ofNat 64 (fsrImage s.fsr) &&& 0xFF000
              ||| v &&& 0x3FCF800FFF).toNat)))
      ∧ (∀ (ea : AsiOperand) (asi : Byte), a = asiAddress s rs1 ea → asi = asiNumber s ea →
        isSpecialClass (asiClass asi) = false →
        (a.toNat % 4 ≠ 0 → Refuses s (.ldfa rd rs1 ea) .memAddressNotAligned a
          ∧ Refuses s (.lddfa rd rs1 ea) .memAddressNotAligned a)
        ∧ (a.toNat % 8 = 4 → Refuses s (.lddfa rd rs1 ea) .lddfMemAddressNotAligned a))
      ∧ ∀ (ea : AsiOperand) (asi : Byte), a = asiAddress s rs1 ea → asi = asiNumber s ea → asiPermitted s asi = true →
        admitsLoad (asiClass asi) = true → translate s .load false asi (maskAm s a) = .ok g →
        (a.toNat % 4 = 0 → ∃ t v, Loaded s g.pa 4 g.little v ∧ exec (.ldfa rd rs1 ea) s = .next t
          ∧ ResultFS s t rd (v.setWidth 32) s.fsr)
        ∧ (a.toNat % 8 = 0 → ∃ t v, Loaded s g.pa 8 g.little v ∧ exec (.lddfa rd rs1 ea) s = .next t
          ∧ ResultFD s t rd v s.fsr))

/-- With the FPU enabled and memory in canonical form, where the address is a multiple of the size and translates for a
store (for an alternate space: the ASI is permitted and admits stores), the bytes at the address are those of F_S[rd],
of F_D[rd], or of the low 32 or all 64 bits of FSR, which then has ftt = 0. Nothing else changes. With the FPU disabled
each takes fp_disabled. A doubleword address that is a multiple of 4 only takes STDF_mem_address_not_aligned, another
misaligned one mem_address_not_aligned; in an alternate space so does an ASI of no other special instruction. The order
of the bits inside tem, aexc and cexc in FSR's image is general knowledge (PRESUMED, log entry 46). STDFA with a block,
short or partial ASI is in BlockShortAndPartialTransfers, with the ASI of a register in AsiRegisters, CmtAndMmuRegisters
and TlbStores. That every address is memory (log entry 8) and that no hardware tablewalk installs an entry on the way
(log entry 13) are the spec's defaults, which the model chooses, and that memory has a store at once is its reading
(DEDUCED, log entry 45). -/
def Obligations.FloatingPointStores : Prop :=
  ∀ (rd rs1 : BitVec 5) (s : State) (a : DWord) (g : Target),
    (∀ (op2 : RegOrImm13) (ea : AsiOperand), s.pstate.pef = false ∨ s.fprs.fef = false →
      (∀ i ∈ [Instr.stf rd rs1 op2, .stdf rd rs1 op2, .stfsr rs1 op2, .stxfsr rs1 op2, .stfa rd rs1 ea],
        exec i s = .next (takeTrap s .fpDisabled))
      ∧ (asiClass (asiNumber s ea) ≠ .partialStore → asiClass (asiNumber s ea) ≠ .block →
        asiClass (asiNumber s ea) ≠ .short → exec (.stdfa rd rs1 ea) s = .next (takeTrap s .fpDisabled)))
    ∧ (s.pstate.pef = true → s.fprs.fef = true → Memory.wf s.paWidth s.memory = true →
      (∀ op2 : RegOrImm13, a = getR s rs1 + src2 s op2 →
        (∀ p ∈ ([(Instr.stf rd rs1 op2, 4), (.stfsr rs1 op2, 4), (.stxfsr rs1 op2, 8), (.stdf rd rs1 op2, 4)] : List (Instr × Nat)),
          a.toNat % p.2 ≠ 0 → Refuses s p.1 .memAddressNotAligned a)
        ∧ (a.toNat % 8 = 4 → Refuses s (.stdf rd rs1 op2) .stdfMemAddressNotAligned a)
        ∧ (translate s .store false (implicitAsi s) (maskAm s a) = .ok g →
          (a.toNat % 4 = 0 → ∃ t, exec (.stf rd rs1 op2) s = .next t
            ∧ ResultStore s t g.pa 4 g.little ((getFS s rd).setWidth 64))
          ∧ (a.toNat % 8 = 0 → ∃ t, exec (.stdf rd rs1 op2) s = .next t ∧ ResultStore s t g.pa 8 g.little (getFD s rd))
          ∧ ∀ p ∈ ([(Instr.stfsr rs1 op2, 4), (.stxfsr rs1 op2, 8)] : List (Instr × Nat)), a.toNat % p.2 = 0 →
            ∃ t, exec p.1 s = .next t ∧ Stored s t g.pa p.2 g.little (BitVec.ofNat 64 (fsrImage s.fsr))
              ∧ t = advance { s with memory := t.memory, fsr := { s.fsr with ftt := 0 } }))
      ∧ (∀ (ea : AsiOperand) (asi : Byte), a = asiAddress s rs1 ea → asi = asiNumber s ea →
        isSpecialClass (asiClass asi) = false →
        (a.toNat % 4 ≠ 0 → Refuses s (.stfa rd rs1 ea) .memAddressNotAligned a
          ∧ Refuses s (.stdfa rd rs1 ea) .memAddressNotAligned a)
        ∧ (a.toNat % 8 = 4 → Refuses s (.stdfa rd rs1 ea) .stdfMemAddressNotAligned a))
      ∧ ∀ (ea : AsiOperand) (asi : Byte), a = asiAddress s rs1 ea → asi = asiNumber s ea → asiPermitted s asi = true →
        admitsStore (asiClass asi) = true → translate s .store false asi (maskAm s a) = .ok g →
        (a.toNat % 4 = 0 → ∃ t, exec (.stfa rd rs1 ea) s = .next t
          ∧ ResultStore s t g.pa 4 g.little ((getFS s rd).setWidth 64))
        ∧ (a.toNat % 8 = 0 → ∃ t, exec (.stdfa rd rs1 ea) s = .next t ∧ ResultStore s t g.pa 8 g.little (getFD s rd)))

/-- With the FPU enabled, rd naming a multiple of 16, the ASI permitted, the address a multiple of 64 and its eight
doublewords translating (to consecutive addresses, for the store), LDBLOCKF, or LDDFA with a block ASI, writes them to
the eight double registers from rd on, and STBLOCKF, or such a STDFA, stores those registers there. Nothing else
changes. Another rd takes illegal_instruction, whatever the FPU. The short loads and stores and the partial store, LDDFA
and STDFA with their ASIs among them, are not executed by hardware: with the FPU enabled and the address aligned (short:
only the 16-bit forms need it; partial: R[rs1] to 8) they take data_access_exception. With the FPU disabled each takes
fp_disabled, a load leaving the dirty bit of F_D[rd] set (for the short loads, which write no register here, log entry
12). A misaligned one takes mem_address_not_aligned (STDF_mem_address_not_aligned for a partial store at a multiple of
4), a block ASI the mode may not use privileged_action, a partial ASI in the ASI register illegal_instruction whatever
the FPU. That a block transfer is eight 8-byte accesses is decision D9, that the short and partial ones trap after their
checks decision D10 (log entry 48). That every address is memory (log entry 8) and that no hardware tablewalk installs
an entry on the way (log entry 13) are the spec's defaults, which the model chooses, and that memory has a store at once
is its reading (DEDUCED, log entry 45). -/
def Obligations.BlockShortAndPartialTransfers : Prop :=
  ∀ (rd rs1 : BitVec 5) (asi : Byte) (s : State) (a : DWord) (d : BitVec 5) (i : Instr), d = doubleNumber rd →
    (BlockLoadForm s rd rs1 asi a i ∨ BlockStoreForm s rd rs1 asi a i → d.extractLsb' 0 3 ≠ 0 →
      exec i s = .next (takeTrap s .illegalInstruction))
    ∧ (s.pstate.pef = false ∨ s.fprs.fef = false →
      (BlockLoadForm s rd rs1 asi a i → d.extractLsb' 0 3 = 0 →
        exec i s = .next (takeTrap { s with fprs := dirtyDouble s.fprs rd } .fpDisabled))
      ∧ (BlockStoreForm s rd rs1 asi a i → d.extractLsb' 0 3 = 0 → exec i s = .next (takeTrap s .fpDisabled))
      ∧ (ShortLoadForm s rd rs1 asi a i → exec i s = .next (takeTrap { s with fprs := dirtyDouble s.fprs rd } .fpDisabled))
      ∧ (ShortStoreForm s rd rs1 asi a i ∨ PartialStoreForm s rd rs1 asi a i → exec i s = .next (takeTrap s .fpDisabled)))
    ∧ (s.pstate.pef = true → s.fprs.fef = true → d.extractLsb' 0 3 = 0 → BlockLoadForm s rd rs1 asi a i ∨ BlockStoreForm s rd rs1 asi a i →
      (a.toNat % 64 ≠ 0 → Refuses s i .memAddressNotAligned a)
      ∧ (a.toNat % 64 = 0 → asiPermitted s asi = false → Refuses s i .privilegedAction a))
    ∧ (s.pstate.pef = true → s.fprs.fef = true → d.extractLsb' 0 3 = 0 → a.toNat % 64 = 0 → asiPermitted s asi = true →
      (∀ g : Nat → Target, BlockLoadForm s rd rs1 asi a i →
        (∀ k < 8, translate s .load false asi (maskAm s (a + BitVec.ofNat 64 (8 * k))) = .ok (g k)) →
        ∃ t, exec i s = .next t ∧ SameBytes s t
          ∧ (∀ n < 8, Loaded s (g n).pa 8 (g n).little (getFDn t (d + BitVec.ofNat 5 n)))
          ∧ (∀ x : BitVec 5, x.extractLsb' 3 2 ≠ d.extractLsb' 3 2 → getFDn t x = getFDn s x)
          ∧ t = advance { s with fregs := t.fregs, fprs := dirtyDouble s.fprs rd })
      ∧ ∀ (pa : DWord) (little : Bool), Memory.wf s.paWidth s.memory = true → BlockStoreForm s rd rs1 asi a i →
        (∀ k < 8, translate s .store false asi (maskAm s (a + BitVec.ofNat 64 (8 * k)))
          = .ok ⟨pa + BitVec.ofNat 64 (8 * k), little⟩) →
        ∃ t, exec i s = .next t ∧ t = advance { s with memory := t.memory }
          ∧ (∀ n < 8, ∀ j < 8, readByte t.paWidth t.memory (pa + BitVec.ofNat 64 (8 * n + j))
              = byteLane 8 little (getFDn s (d + BitVec.ofNat 5 n)) j)
          ∧ ∀ x, (∀ m < 64, physKey s.paWidth x ≠ physKey s.paWidth (pa + BitVec.ofNat 64 m)) →
              readByte t.paWidth t.memory x = readByte s.paWidth s.memory x)
    ∧ (s.pstate.pef = true → s.fprs.fef = true → ShortLoadForm s rd rs1 asi a i ∨ ShortStoreForm s rd rs1 asi a i →
      (asi ∈ ([0xD2, 0xD3, 0xDA, 0xDB] : List Byte) → a.toNat % 2 = 1 → Refuses s i .memAddressNotAligned a)
      ∧ (asi ∉ ([0xD2, 0xD3, 0xDA, 0xDB] : List Byte) ∨ a.toNat % 2 = 0 → RefusesAsi s i a))
    ∧ (s.pstate.pef = true → s.fprs.fef = true → PartialStoreForm s rd rs1 asi a i →
      (a.toNat % 4 ≠ 0 → Refuses s i .memAddressNotAligned a)
      ∧ (a.toNat % 8 = 4 → Refuses s i .stdfMemAddressNotAligned a)
      ∧ (a.toNat % 8 = 0 → RefusesAsi s i a))
    ∧ ∀ n : BitVec 13, asiIsPartial s.asi = true → exec (.stdfa rd rs1 (.imm n)) s = .next (takeTrap s .illegalInstruction)

/-- Each read puts the 64-bit image of its register, every field at its place and reserved bits zero, in R[rd] and
changes nothing else. RDPCR, RDSOFTINT, RDTICK_CMPR and RDSTICK_CMPR take privileged_opcode in nonprivileged mode;
RDTICK, RDSTICK and RDPIC take privileged_action there where TICK.npt, STICK.npt or PCR.priv is 1; RDGSR takes
fp_disabled where the FPU is disabled; the others always complete. The order n z v c in CCR's image is general
knowledge (PRESUMED, log entry 46); that PCR's unnamed bits read zero is decision D19 (log entry 41). -/
def Obligations.ReadStateRegisters : Prop :=
  ∀ (rd : BitVec 5) (s : State),
    (∀ p ∈ ([(Instr.rdy rd, s.y.toNat), (.rdccr rd, ccrImage s.ccr), (.rdasi rd, s.asi.toNat),
      (.rdpc rd, (maskAm s s.pc).toNat), (.rdfprs rd, binary [s.fprs.fef, s.fprs.du, s.fprs.dl])] : List (Instr × Nat)),
      ∃ t, exec p.1 s = .next t ∧ ResultR s t rd (BitVec.ofNat 64 p.2))
    ∧ (∀ p ∈ ([(Instr.rdpcr rd, pcrImage s.pcr), (.rdsoftint rd, s.softint.toNat), (.rdtick_cmpr rd, compareImage s.tickCmpr),
      (.rdstick_cmpr rd, compareImage s.stickCmpr)] : List (Instr × Nat)),
      (isUser s = true → exec p.1 s = .next (takeTrap s .privilegedOpcode))
      ∧ (isUser s = false → ∃ t, exec p.1 s = .next t ∧ ResultR s t rd (BitVec.ofNat 64 p.2)))
    ∧ (∀ p ∈ ([(Instr.rdtick rd, s.tick.npt, counterImage s.tick), (.rdstick rd, s.stick.npt, counterImage s.stick),
      (.rdpic rd, s.pcr.priv, s.pic.toNat)] : List (Instr × Bool × Nat)),
      (isUser s = true → p.2.1 = true → exec p.1 s = .next (takeTrap s .privilegedAction))
      ∧ (isUser s = false ∨ p.2.1 = false → ∃ t, exec p.1 s = .next t ∧ ResultR s t rd (BitVec.ofNat 64 p.2.2)))
    ∧ (s.pstate.pef = true → s.fprs.fef = true →
      ∃ t, exec (.rdgsr rd) s = .next t ∧ ResultR s t rd (BitVec.ofNat 64 (gsrImage s.gsr)))
    ∧ (s.pstate.pef = false ∨ s.fprs.fef = false → exec (.rdgsr rd) s = .next (takeTrap s .fpDisabled))

/-- With v the exclusive or of R[rs1] and the second operand: each write leaves its register with the image v in its
implemented bits (SOFTINT_SET ors v into SOFTINT, SOFTINT_CLR clears v's bits) and changes nothing else. The
privileged ones take privileged_opcode in nonprivileged mode, WRPIC privileged_action there where PCR.priv = 1, WRGSR
fp_disabled where the FPU is disabled; WRSTICK and SIR take illegal_instruction below hyperprivileged mode, and SIR in
it is a software-initiated reset. The order n z v c in CCR's image is general knowledge (PRESUMED, log entry 46),
PCR's mask 0x1FBF7 decision D19 (log entry 41). -/
def Obligations.WriteStateRegisters : Prop :=
  ∀ (rs1 : BitVec 5) (op2 : RegOrImm13) (s : State) (v : DWord), v = getR s rs1 ^^^ src2 s op2 →
    (∃ t, exec (.wry rs1 op2) s = .next t ∧ t = advance { s with y := t.y } ∧ t.y.toNat = v.toNat % 2 ^ 32)
    ∧ (∃ t, exec (.wrccr rs1 op2) s = .next t ∧ t = advance { s with ccr := t.ccr } ∧ ccrImage t.ccr = v.toNat % 2 ^ 8)
    ∧ (∃ t, exec (.wrasi rs1 op2) s = .next t ∧ t = advance { s with asi := t.asi } ∧ t.asi.toNat = v.toNat % 2 ^ 8)
    ∧ (∃ t, exec (.wrfprs rs1 op2) s = .next t ∧ t = advance { s with fprs := t.fprs } ∧ binary [t.fprs.fef, t.fprs.du, t.fprs.dl] = v.toNat % 8)
    ∧ (isUser s = false →
      (∃ t, exec (.wrpcr rs1 op2) s = .next t ∧ t = advance { s with pcr := t.pcr } ∧ pcrImage t.pcr = (v &&& 0x1FBF7).toNat)
      ∧ (∃ t, exec (.wrsoftint_set rs1 op2) s = .next t ∧ t = advance { s with softint := t.softint } ∧ t.softint = s.softint ||| v.setWidth 17)
      ∧ (∃ t, exec (.wrsoftint_clr rs1 op2) s = .next t ∧ t = advance { s with softint := t.softint } ∧ t.softint = s.softint &&& ~~~(v.setWidth 17))
      ∧ (∃ t, exec (.wrsoftint rs1 op2) s = .next t ∧ t = advance { s with softint := t.softint } ∧ t.softint = v.setWidth 17)
      ∧ (∃ t, exec (.wrtick_cmpr rs1 op2) s = .next t ∧ t = advance { s with tickCmpr := t.tickCmpr } ∧ compareImage t.tickCmpr = v.toNat)
      ∧ (∃ t, exec (.wrstick_cmpr rs1 op2) s = .next t ∧ t = advance { s with stickCmpr := t.stickCmpr } ∧ compareImage t.stickCmpr = v.toNat))
    ∧ (isUser s = true → ∀ i ∈ [Instr.wrpcr rs1 op2, .wrsoftint_set rs1 op2, .wrsoftint_clr rs1 op2, .wrsoftint rs1 op2, .wrtick_cmpr rs1 op2,
      .wrstick_cmpr rs1 op2],
      exec i s = .next (takeTrap s .privilegedOpcode))
    ∧ (isUser s = false ∨ s.pcr.priv = false → ∃ t, exec (.wrpic rs1 op2) s = .next t ∧ t = advance { s with pic := v })
    ∧ (isUser s = true → s.pcr.priv = true → exec (.wrpic rs1 op2) s = .next (takeTrap s .privilegedAction))
    ∧ (s.pstate.pef = true → s.fprs.fef = true → ∃ t, exec (.wrgsr rs1 op2) s = .next t ∧ t = advance { s with gsr := t.gsr }
      ∧ gsrImage t.gsr = (v &&& 0xFFFFFFFF0E0000FF).toNat)
    ∧ (s.pstate.pef = false ∨ s.fprs.fef = false → exec (.wrgsr rs1 op2) s = .next (takeTrap s .fpDisabled))
    ∧ (isHyper s = true → ∃ t, exec (.wrstick rs1 op2) s = .next t
      ∧ t = advance { s with stick := t.stick, stickWritten := true } ∧ counterImage t.stick = v.toNat)
    ∧ (isHyper s = false → exec (.wrstick rs1 op2) s = .next (takeTrap s .illegalInstruction))
    ∧ ∀ n : BitVec 13, exec (.sir n) s = .next (takeTrap s (if isHyper s = true then .softwareInitiatedReset else .illegalInstruction))

/-- RDPR and WRPR of a reserved number take illegal_instruction; of another number privileged_opcode in nonprivileged
mode; of TPC, TNPC, TSTATE or TT at TL = 0 illegal_instruction, as does WRPR of TICK below hyperprivileged mode.
Otherwise RDPR puts the register's image in R[rd], and WRPR writes R[rs1] xor the operand into its implemented bits, TL
limited to MAXPTL = 2 in privileged and MAXTL = 6 in hyperprivileged mode, GL to 2 and 3. Nothing else changes, but that
a new TPC or TNPC clears the model's mark of a delay slot in its frame (log entry 15). The places of the fields of
PSTATE, WSTATE and CCR in the images are general knowledge (PRESUMED, log entry 46). That PSTATE.tct is a plain storage
bit, in PSTATE and in TSTATE, is decision D11 (log entry 47), and that PSTATE.mm reads 00 and discards writes in both
decision D21 (log entry 48). -/
def Obligations.PrivilegedRegisters : Prop :=
  ∀ (rd rs1 : BitVec 5) (op2 : RegOrImm13) (s : State) (v : DWord) (f : TrapFrame),
    v = getR s rs1 ^^^ src2 s op2 → f = frameAt s s.tl →
    (rs1 = 15 ∨ 17 ≤ rs1.toNat → exec (.rdpr rd rs1) s = .next (takeTrap s .illegalInstruction))
    ∧ (rd = 15 ∨ 17 ≤ rd.toNat → exec (.wrpr rd rs1 op2) s = .next (takeTrap s .illegalInstruction))
    ∧ (¬(rs1 = 15 ∨ 17 ≤ rs1.toNat) → isUser s = true → exec (.rdpr rd rs1) s = .next (takeTrap s .privilegedOpcode))
    ∧ (¬(rd = 15 ∨ 17 ≤ rd.toNat) → isUser s = true → exec (.wrpr rd rs1 op2) s = .next (takeTrap s .privilegedOpcode))
    ∧ (isUser s = false → (rs1.toNat ≤ 3 → s.tl = 0 → exec (.rdpr rd rs1) s = .next (takeTrap s .illegalInstruction))
      ∧ (rd.toNat ≤ 3 → s.tl = 0 → exec (.wrpr rd rs1 op2) s = .next (takeTrap s .illegalInstruction))
      ∧ (rd = 4 → isHyper s = false → exec (.wrpr rd rs1 op2) s = .next (takeTrap s .illegalInstruction)))
    ∧ (isUser s = false → ∀ p ∈ ([(0, f.tpc.toNat * 4), (1, f.tnpc.toNat * 4), (2, tstateImage f.tstate), (3, f.tt.toNat),
      (4, counterImage s.tick), (5, s.tba.toNat * 2 ^ 15), (6, pstateImage s.pstate), (7, s.tl.toNat),
      (8, s.pil.toNat), (9, s.win.cwp.toNat), (10, s.win.cansave.toNat), (11, s.win.canrestore.toNat),
      (12, s.win.cleanwin.toNat), (13, s.win.otherwin.toNat), (14, s.win.wother.toNat * 8 + s.win.wnormal.toNat),
      (16, s.gl.toNat)] : List (BitVec 5 × Nat)),
      rs1 = p.1 → 4 ≤ rs1.toNat ∨ s.tl ≠ 0 → ∃ t, exec (.rdpr rd rs1) s = .next t ∧ ResultR s t rd (BitVec.ofNat 64 p.2))
    ∧ (isUser s = false → 4 ≤ rd.toNat ∨ s.tl ≠ 0 → rd ≠ 4 ∨ isHyper s = true →
      (rd = 0 → ∃ t g, exec (.wrpr rd rs1 op2) s = .next t ∧ t = advance { s with trapStack := t.trapStack } ∧ (∀ m, m ≠ s.tl → frameAt t m = frameAt s m)
        ∧ frameAt t s.tl = g ∧ g = { f with tpc := g.tpc, delaySlot := false } ∧ g.tpc.toNat = v.toNat / 4)
      ∧ (rd = 1 → ∃ t g, exec (.wrpr rd rs1 op2) s = .next t ∧ t = advance { s with trapStack := t.trapStack } ∧ (∀ m, m ≠ s.tl → frameAt t m = frameAt s m)
        ∧ frameAt t s.tl = g ∧ g = { f with tnpc := g.tnpc, delaySlot := false } ∧ g.tnpc.toNat = v.toNat / 4)
      ∧ (rd = 2 → ∃ t g, exec (.wrpr rd rs1 op2) s = .next t ∧ t = advance { s with trapStack := t.trapStack } ∧ (∀ m, m ≠ s.tl → frameAt t m = frameAt s m)
        ∧ frameAt t s.tl = g ∧ g = { f with tstate := g.tstate } ∧ tstateImage g.tstate = (v &&& 0x7FFFF131E07).toNat)
      ∧ (rd = 3 → ∃ t g, exec (.wrpr rd rs1 op2) s = .next t ∧ t = advance { s with trapStack := t.trapStack } ∧ (∀ m, m ≠ s.tl → frameAt t m = frameAt s m)
        ∧ frameAt t s.tl = g ∧ g = { f with tt := g.tt } ∧ g.tt.toNat = v.toNat % 512)
      ∧ (rd = 4 → ∃ t, exec (.wrpr rd rs1 op2) s = .next t ∧ t = advance { s with tick := t.tick }
        ∧ counterImage t.tick = v.toNat)
      ∧ (rd = 5 → ∃ t, exec (.wrpr rd rs1 op2) s = .next t ∧ t = advance { s with tba := t.tba }
        ∧ t.tba.toNat = v.toNat / 2 ^ 15)
      ∧ (rd = 6 → ∃ t, exec (.wrpr rd rs1 op2) s = .next t ∧ t = advance { s with pstate := t.pstate }
        ∧ pstateImage t.pstate = (v &&& 0x131E).toNat)
      ∧ (rd = 7 → ∃ t, exec (.wrpr rd rs1 op2) s = .next t ∧ t = advance { s with tl := t.tl }
        ∧ t.tl.toNat = min (v.toNat % 8) (if isHyper s = true then 6 else 2))
      ∧ (rd = 8 → ∃ t, exec (.wrpr rd rs1 op2) s = .next t ∧ t = advance { s with pil := t.pil }
        ∧ t.pil.toNat = v.toNat % 16)
      ∧ (rd = 9 → ∃ t, exec (.wrpr rd rs1 op2) s = .next t ∧ t = advance { s with win := { s.win with cwp := t.win.cwp } }
        ∧ t.win.cwp.toNat = v.toNat % 8)
      ∧ (rd = 10 → ∃ t, exec (.wrpr rd rs1 op2) s = .next t ∧ t = advance { s with win := { s.win with cansave := t.win.cansave } }
        ∧ t.win.cansave.toNat = v.toNat % 8)
      ∧ (rd = 11 → ∃ t, exec (.wrpr rd rs1 op2) s = .next t ∧ t = advance { s with win := { s.win with canrestore := t.win.canrestore } }
        ∧ t.win.canrestore.toNat = v.toNat % 8)
      ∧ (rd = 12 → ∃ t, exec (.wrpr rd rs1 op2) s = .next t ∧ t = advance { s with win := { s.win with cleanwin := t.win.cleanwin } }
        ∧ t.win.cleanwin.toNat = v.toNat % 8)
      ∧ (rd = 13 → ∃ t, exec (.wrpr rd rs1 op2) s = .next t ∧ t = advance { s with win := { s.win with otherwin := t.win.otherwin } }
        ∧ t.win.otherwin.toNat = v.toNat % 8)
      ∧ (rd = 14 → ∃ t, exec (.wrpr rd rs1 op2) s = .next t ∧ t = advance { s with win := { s.win with wother := t.win.wother, wnormal := t.win.wnormal } }
        ∧ t.win.wother.toNat = v.toNat / 8 % 8 ∧ t.win.wnormal.toNat = v.toNat % 8)
      ∧ (rd = 16 → ∃ t, exec (.wrpr rd rs1 op2) s = .next t ∧ t = advance { s with gl := t.gl }
        ∧ t.gl.toNat = min (v.toNat % 8) (if isHyper s = true then 3 else 2)))

/-- RDHPR and WRHPR take illegal_instruction for a number that names no register, below hyperprivileged mode, for
HTSTATE at TL = 0, and WRHPR for HVER. Otherwise RDHPR puts the image of HPSTATE, HTSTATE, HINTP, HTBA, HVER or
HSTICK_CMPR in R[rd], and WRHPR writes R[rs1] xor the operand into the implemented bits of its register. Nothing else
changes, but that a write of HPSTATE in a delay slot with hpriv or red 0 sets the model's flag of undefined case U4
(log entry 16). The places of the fields of HPSTATE, HINTP and HVER are general knowledge (PRESUMED, log entry 46);
manuf, impl and mask are free (log entry 21). -/
def Obligations.HyperprivilegedRegisters : Prop :=
  ∀ (rd rs1 : BitVec 5) (op2 : RegOrImm13) (s : State) (v : DWord) (f : TrapFrame),
    v = getR s rs1 ^^^ src2 s op2 → f = frameAt s s.tl →
    ((rs1 ∉ ([0, 1, 3, 5, 6, 31] : List (BitVec 5))) ∨ isHyper s = false ∨ (rs1 = 1 ∧ s.tl = 0) →
      exec (.rdhpr rd rs1) s = .next (takeTrap s .illegalInstruction))
    ∧ ((rd ∉ ([0, 1, 3, 5, 31] : List (BitVec 5))) ∨ isHyper s = false ∨ (rd = 1 ∧ s.tl = 0) →
      exec (.wrhpr rd rs1 op2) s = .next (takeTrap s .illegalInstruction))
    ∧ (isHyper s = true → ∀ p ∈ ([(0, hpstateImage s.hpstate), (1, hpstateImage f.htstate), (3, s.hsp.toNat), (5, s.htba.toNat * 2 ^ 14),
      (6, Config.manuf.toNat * 2 ^ 48 + Config.impl.val * 2 ^ 32 + Config.mask.toNat * 2 ^ 24 + 3 * 2 ^ 16 + 6 * 2 ^ 8 + 7),
      (31, compareImage s.hstickCmpr)] : List (BitVec 5 × Nat)),
      rs1 = p.1 → rs1 ≠ 1 ∨ s.tl ≠ 0 → ∃ t, exec (.rdhpr rd rs1) s = .next t ∧ ResultR s t rd (BitVec.ofNat 64 p.2))
    ∧ (isHyper s = true →
      (rd = 0 → ∃ t, exec (.wrhpr rd rs1 op2) s = .next t ∧ t = advance { s with hpstate := t.hpstate, undefinedCases := t.undefinedCases }
        ∧ hpstateImage t.hpstate = (v &&& 0x425).toNat
        ∧ t.undefinedCases = { s.undefinedCases with wrhprInDelaySlot := t.undefinedCases.wrhprInDelaySlot }
        ∧ (t.undefinedCases.wrhprInDelaySlot = true ↔ s.undefinedCases.wrhprInDelaySlot = true
            ∨ (s.delaySlot = true ∧ (v.getLsbD 2 = false ∨ v.getLsbD 5 = false))))
      ∧ (rd = 1 → s.tl ≠ 0 → ∃ t h, exec (.wrhpr rd rs1 op2) s = .next t ∧ t = advance { s with trapStack := t.trapStack } ∧ (∀ m, m ≠ s.tl → frameAt t m = frameAt s m)
        ∧ frameAt t s.tl = { f with htstate := h } ∧ hpstateImage h = (v &&& 0x425).toNat)
      ∧ (rd = 3 → ∃ t, exec (.wrhpr rd rs1 op2) s = .next t ∧ t = advance { s with hsp := t.hsp }
        ∧ t.hsp.toNat = v.toNat % 2)
      ∧ (rd = 5 → ∃ t, exec (.wrhpr rd rs1 op2) s = .next t ∧ t = advance { s with htba := t.htba }
        ∧ t.htba.toNat = v.toNat / 2 ^ 14)
      ∧ (rd = 31 → ∃ t, exec (.wrhpr rd rs1 op2) s = .next t ∧ t = advance { s with hstickCmpr := t.hstickCmpr }
        ∧ compareImage t.hstickCmpr = v.toNat))

/-- SAVE traps to spill where CANSAVE = 0, else to clean_window where CLEANWIN = CANRESTORE; else it moves to the next
window and writes the sum, of operands read in the old window, to R[rd] of the new one. RESTORE traps to fill where
CANRESTORE = 0, else does so for the last window. SAVED and RESTORED adjust CANSAVE, CANRESTORE, OTHERWIN and CLEANWIN
(modulo 8) in privileged modes, else take privileged_opcode. FLUSHW spills unless CANSAVE = 6. A spill or fill trap is
of OTHERWIN's kind where OTHERWIN is not 0. Nothing else changes. Modulo 8 in an inconsistent window state is decision
D15 (log entry 17), and that the abandoned window keeps its registers decision D18 (log entry 47). -/
def Obligations.RegisterWindows : Prop :=
  ∀ (rd rs1 : BitVec 5) (op2 : RegOrImm13) (s : State) (w : WindowRegs) (v : DWord) (spill fill : Trap), w = s.win →
    v = getR s rs1 + src2 s op2 → spill = (if w.otherwin = 0 then .spill false w.wnormal else .spill true w.wother) →
    fill = (if w.otherwin = 0 then .fill false w.wnormal else .fill true w.wother) →
    (w.cansave = 0 → exec (.save rd rs1 op2) s = .next (takeTrap s spill))
    ∧ (w.cansave ≠ 0 → w.cleanwin = w.canrestore → exec (.save rd rs1 op2) s = .next (takeTrap s .cleanWindow))
    ∧ (w.cansave ≠ 0 → w.cleanwin ≠ w.canrestore → ∃ t, exec (.save rd rs1 op2) s = .next t
      ∧ ResultR { s with win := { w with cwp := w.cwp + 1, cansave := w.cansave - 1, canrestore := w.canrestore + 1 } } t rd v)
    ∧ (w.canrestore = 0 → exec (.restore rd rs1 op2) s = .next (takeTrap s fill))
    ∧ (w.canrestore ≠ 0 → ∃ t, exec (.restore rd rs1 op2) s = .next t
      ∧ ResultR { s with win := { w with cwp := w.cwp - 1, cansave := w.cansave + 1, canrestore := w.canrestore - 1 } } t rd v)
    ∧ (isUser s = true → exec .saved s = .next (takeTrap s .privilegedOpcode)
      ∧ exec .restored s = .next (takeTrap s .privilegedOpcode))
    ∧ (isUser s = false →
      (∃ t, exec .saved s = .next t ∧ t = advance { s with win := if w.otherwin = 0
        then { w with cansave := w.cansave + 1, canrestore := w.canrestore - 1 }
        else { w with cansave := w.cansave + 1, otherwin := w.otherwin - 1 } })
      ∧ ∃ t, exec .restored s = .next t ∧ t.win.cleanwin.toNat = min (w.cleanwin.toNat + 1) 7
        ∧ t = advance { s with win := if w.otherwin = 0
          then { w with cleanwin := t.win.cleanwin, canrestore := w.canrestore + 1, cansave := w.cansave - 1 }
          else { w with cleanwin := t.win.cleanwin, canrestore := w.canrestore + 1, otherwin := w.otherwin - 1 } })
    ∧ (w.cansave = 6 → ∃ t, exec .flushw s = .next t ∧ t = advance s)
    ∧ (w.cansave ≠ 6 → exec .flushw s = .next (takeTrap s spill))

/-- ILLTRAP, POPC, the quad loads and stores, ALLCLEAN, INVALW, NORMALW, OTHERW, SHUTDOWN, the
implementation-dependent opcodes and the emulated VIS instructions take illegal_instruction in every state. Every
quad-precision FPop, and FSQRTs and FSQRTd, take fp_exception_other with FSR.ftt = 3 (unimplemented_FPop) where the
FPU is enabled, fp_disabled where it is not, the compares apart with the dirty bit of the destination register set;
nothing else changes before the trap. That an instruction hardware does not execute sets that bit is log entry 12
(DEDUCED). That the implementation-dependent opcodes do not exist is decision D14 (log entry 50). -/
def Obligations.NotExecutedByHardware : Prop :=
  ∀ (s : State) (rd rs1 rs2 : BitVec 5) (op2 : RegOrImm13) (ea : AsiOperand) (const22 : BitVec 22) (opf : BitVec 9)
    (mid : BitVec 12) (op4 cc : BitVec 2) (cond : BitVec 4),
    (∀ i ∈ [Instr.illtrap const22, .popc rd op2, .allclean, .invalw, .normalw, .otherw, .shutdown, .impdep1 rd rs1 opf rs2,
      .impdep2a rd mid rs2, .impdep2b rd mid op4 rs2, .ldqf rd rs1 op2, .ldqfa rd rs1 ea, .stqf rd rs1 op2,
      .stqfa rd rs1 ea, .fexpand rd rs2, .fmul8x16 rd rs1 rs2, .fmul8x16au rd rs1 rs2, .fmul8x16al rd rs1 rs2,
      .fmul8sux16 rd rs1 rs2, .fmul8ulx16 rd rs1 rs2, .fmuld8sux16 rd rs1 rs2, .fmuld8ulx16 rd rs1 rs2,
      .fpack16 rd rs2, .fpack32 rd rs1 rs2, .fpackfix rd rs2, .fpmerge rd rs1 rs2, .pdist rd rs1 rs2],
      exec i s = .next (takeTrap s .illegalInstruction))
    ∧ ∀ p ∈ ([(Instr.faddq rd rs1 rs2, dirtyDouble s.fprs rd), (.fsubq rd rs1 rs2, dirtyDouble s.fprs rd),
      (.fmulq rd rs1 rs2, dirtyDouble s.fprs rd), (.fdivq rd rs1 rs2, dirtyDouble s.fprs rd),
      (.fdmulq rd rs1 rs2, dirtyDouble s.fprs rd), (.fsqrts rd rs2, dirtyLower s.fprs),
      (.fsqrtd rd rs2, dirtyDouble s.fprs rd), (.fsqrtq rd rs2, dirtyDouble s.fprs rd), (.fcmpq cc rs1 rs2, s.fprs),
      (.fcmpeq cc rs1 rs2, s.fprs), (.fitoq rd rs2, dirtyDouble s.fprs rd), (.fxtoq rd rs2, dirtyDouble s.fprs rd),
      (.fqtox rd rs2, dirtyDouble s.fprs rd), (.fqtoi rd rs2, dirtyLower s.fprs),
      (.fstoq rd rs2, dirtyDouble s.fprs rd), (.fdtoq rd rs2, dirtyDouble s.fprs rd),
      (.fqtos rd rs2, dirtyLower s.fprs), (.fqtod rd rs2, dirtyDouble s.fprs rd),
      (.fmovq rd rs2, dirtyDouble s.fprs rd), (.fnegq rd rs2, dirtyDouble s.fprs rd),
      (.fabsq rd rs2, dirtyDouble s.fprs rd), (.fmovqicc rd cond rs2, dirtyDouble s.fprs rd),
      (.fmovqxcc rd cond rs2, dirtyDouble s.fprs rd), (.fmovqfcc rd cond cc rs2, dirtyDouble s.fprs rd),
      (.fmovrqz rd rs1 rs2, dirtyDouble s.fprs rd), (.fmovrqlez rd rs1 rs2, dirtyDouble s.fprs rd),
      (.fmovrqlz rd rs1 rs2, dirtyDouble s.fprs rd), (.fmovrqnz rd rs1 rs2, dirtyDouble s.fprs rd),
      (.fmovrqgz rd rs1 rs2, dirtyDouble s.fprs rd), (.fmovrqgez rd rs1 rs2, dirtyDouble s.fprs rd)] : List (Instr × Fprs)),
      (s.pstate.pef = true → s.fprs.fef = true → exec p.1 s = .next (takeTrap { s with fsr := { s.fsr with ftt := 3 } } .fpExceptionOther))
      ∧ (s.pstate.pef = false ∨ s.fprs.fef = false → exec p.1 s = .next (takeTrap { s with fprs := p.2 } .fpDisabled))

/-- With the FPU enabled, for each add, subtract, multiply, divide and conversion of single and double precision,
rounding by GSR.irnd in interval mode and FSR.rd else: where no exception detected is enabled in FSR.tem the result is
written with its dirty bit, ftt is 0, cexc the exceptions and aexc their union with the old ones; else
fp_exception_ieee_754 is taken with ftt = 1 and cexc the one exception that traps, no F register written. With the FPU
disabled fp_disabled is taken. That no FPop is unfinished is the model's choice (decision D22, log entry 11). -/
def Obligations.FloatingPointResults : Prop :=
  ∀ (rd rs1 rs2 : BitVec 5) (s : State) (a b x y : Nat) (r : Rounding),
    r = ⟨if s.gsr.im = true then s.gsr.irnd else s.fsr.rd, s.fsr.tem.uf⟩ →
    a = (getFS s rs1).toNat → b = (getFS s rs2).toNat → x = (getFD s rs1).toNat → y = (getFD s rs2).toNat →
    (∀ p ∈ ([(Instr.fadds rd rs1 rs2, fpAdd .single r false a b), (.fsubs rd rs1 rs2, fpAdd .single r true a b),
      (.fmuls rd rs1 rs2, fpMul .single r a b), (.fdivs rd rs1 rs2, fpDiv .single r a b),
      (.fdtos rd rs2, fpConvert .double .single r y), (.fitos rd rs2, fpOfInt .single r (getFS s rs2).toInt),
      (.fxtos rd rs2, fpOfInt .single r (getFD s rs2).toInt), (.fstoi rd rs2, fpToInt .single 32 b),
      (.fdtoi rd rs2, fpToInt .double 32 y)] : List (Instr × FpResult)),
      (s.pstate.pef = true → s.fprs.fef = true → NoneEnabled s.fsr.tem p.2.flags → ∃ t, exec p.1 s = .next t
        ∧ ResultFS s t rd (BitVec.ofNat 32 p.2.bits) (fsrCompleted s.fsr p.2.flags))
      ∧ (s.pstate.pef = true → s.fprs.fef = true → ∀ e, OneTraps s.fsr.tem p.2.flags e →
        exec p.1 s = .next (takeTrap { s with fsr := { s.fsr with ftt := 1, cexc := e } } .fpExceptionIeee754))
      ∧ (s.pstate.pef = false ∨ s.fprs.fef = false → exec p.1 s = .next (takeTrap { s with fprs := dirtyLower s.fprs } .fpDisabled)))
    ∧ ∀ p ∈ ([(Instr.faddd rd rs1 rs2, fpAdd .double r false x y), (.fsubd rd rs1 rs2, fpAdd .double r true x y),
      (.fmuld rd rs1 rs2, fpMul .double r x y), (.fdivd rd rs1 rs2, fpDiv .double r x y),
      (.fsmuld rd rs1 rs2, fpMulWiden r a b), (.fstod rd rs2, fpConvert .single .double r b),
      (.fitod rd rs2, fpOfInt .double r (getFS s rs2).toInt), (.fxtod rd rs2, fpOfInt .double r (getFD s rs2).toInt),
      (.fstox rd rs2, fpToInt .single 64 b), (.fdtox rd rs2, fpToInt .double 64 y)] : List (Instr × FpResult)),
      (s.pstate.pef = true → s.fprs.fef = true → NoneEnabled s.fsr.tem p.2.flags → ∃ t, exec p.1 s = .next t
        ∧ ResultFD s t rd (BitVec.ofNat 64 p.2.bits) (fsrCompleted s.fsr p.2.flags))
      ∧ (s.pstate.pef = true → s.fprs.fef = true → ∀ e, OneTraps s.fsr.tem p.2.flags e →
        exec p.1 s = .next (takeTrap { s with fsr := { s.fsr with ftt := 1, cexc := e } } .fpExceptionIeee754))
      ∧ (s.pstate.pef = false ∨ s.fprs.fef = false → exec p.1 s = .next (takeTrap { s with fprs := dirtyDouble s.fprs rd } .fpDisabled))

/-- For single and double precision, every rounding mode, sign and positive exact value v: unless it overflows the
pattern delivered is v rounded to nearest (ties to even), toward zero, or away from zero; nx is set exactly where it
differs from v; of exactly where v rounds beyond the largest finite value, which then delivers infinity or that value;
uf exactly where v is below the smallest normal value and is inexact or FSR.tem.ufm = 1. The sign is kept. An exact
zero is delivered as the zero of the sign given, with no exception. The rounding itself is IEEE 754's, which the spec
supplies from general knowledge (PRESUMED, log entry 46). -/
def Obligations.RoundingIsCorrect : Prop :=
  (∀ f ∈ [FpFormat.single, FpFormat.double], ∀ (rnd : Rounding) (sign : Bool) (x : FpFraction) (v : ℚ) (r : FpResult) (m : Nat),
    0 < x.num → 0 < x.den → v = (x.num : ℚ) / x.den → r = deliver f rnd sign x → m = r.bits % f.signBit →
    r.bits = (if sign = true then f.signBit else 0) + m ∧ m ≤ f.infinity ∧ r.flags.nv = false ∧ r.flags.dz = false
    ∧ (r.flags.of = true ↔
        if rnd.mode = 0 then magnitudeValue f f.maxFinite + magnitudeValue f f.infinity ≤ 2 * v
        else if (rnd.mode = 2 ∧ sign = false) ∨ (rnd.mode = 3 ∧ sign = true) then magnitudeValue f f.maxFinite < v
        else magnitudeValue f f.infinity ≤ v)
    ∧ (r.flags.of = true → r.flags.nx = true
        ∧ m = if rnd.mode = 0 ∨ (rnd.mode = 2 ∧ sign = false) ∨ (rnd.mode = 3 ∧ sign = true) then f.infinity else f.maxFinite)
    ∧ (r.flags.of = false → m < f.infinity ∧ RoundedTo f rnd.mode sign v m ∧ (r.flags.nx = true ↔ magnitudeValue f m ≠ v))
    ∧ (r.flags.uf = true ↔ v < magnitudeValue f (2 ^ f.frac) ∧ (rnd.ufm = true ∨ magnitudeValue f m ≠ v)))
  ∧ ∀ (f : FpFormat) (rnd : Rounding) (sign : Bool) (x : FpFraction), x.num = 0 →
    deliver f rnd sign x = ⟨if sign = true then f.signBit else 0, IeeeFlags.none⟩

/-- For finite operands of single and double precision the sum, difference, product and quotient, and every
conversion, deliver the exact rational result (a zero sum has the common sign, or is negative only when rounding
toward minus infinity). A number divided by zero is infinity with dz, 0/0 invalid. An infinity of either sign plus or
minus a finite value is that infinity, of two infinities the common one or invalid; an infinity times a nonzero value
is infinite with the product's sign, times zero invalid, in either order; infinity over a finite value (zero too) is
infinite, over infinity invalid; a finite value over infinity is a zero, with the quotient's sign. Invalid gives the
default NaN with nv. A NaN operand gives a NaN: rs2's signalling NaN first, then rs1's, both made quiet with nv, then
rs2's and rs1's quiet ones; FsMULd chooses likewise and, as FsTOd and FdTOs, moves the fraction to the other format.
Conversion to integer truncates, or saturates with nv. What the source leaves to IEEE 754 is general knowledge
(PRESUMED, log entry 46). -/
def Obligations.ExactResultsOfOperations : Prop :=
  ∀ (rnd : Rounding) (a b : Nat),
    (∀ f ∈ [FpFormat.single, FpFormat.double], a < 2 * f.signBit → b < 2 * f.signBit →
      (IsFinite f a → IsFinite f b →
        (∀ (neg : Bool) (c : ℚ), c = patternValue f a + (if neg = true then -patternValue f b else patternValue f b) →
          (c ≠ 0 → Delivers f rnd (decide (c < 0)) c (fpAdd f rnd neg a b))
          ∧ (c = 0 → fpAdd f rnd neg a b = ⟨if (if decide (f.signBit ≤ a) = (decide (f.signBit ≤ b) != neg) then
              decide (f.signBit ≤ a) else decide (rnd.mode = 3)) = true then f.signBit else 0, IeeeFlags.none⟩))
        ∧ Delivers f rnd (decide (f.signBit ≤ a) != decide (f.signBit ≤ b)) (patternValue f a * patternValue f b) (fpMul f rnd a b)
        ∧ (patternValue f b ≠ 0 → Delivers f rnd (decide (f.signBit ≤ a) != decide (f.signBit ≤ b))
            (patternValue f a / patternValue f b) (fpDiv f rnd a b))
        ∧ (patternValue f b = 0 → patternValue f a ≠ 0 → fpDiv f rnd a b =
            ⟨(if decide (f.signBit ≤ a) = decide (f.signBit ≤ b) then 0 else f.signBit) + f.infinity, ⟨false, false, false, true, false⟩⟩)
        ∧ (patternValue f b = 0 → patternValue f a = 0 →
            fpDiv f rnd a b = ⟨f.defaultNan, ⟨true, false, false, false, false⟩⟩))
      ∧ (fpIsNan f a = true ↔ f.infinity < a % f.signBit)
      ∧ (fpIsSnan f a = true ↔ f.infinity < a % f.signBit ∧ a % 2 ^ f.frac < 2 ^ (f.frac - 1))
      ∧ (∀ op ∈ [fpAdd f rnd false, fpAdd f rnd true, fpMul f rnd, fpDiv f rnd],
        (fpIsSnan f b = true → op a b = ⟨b + 2 ^ (f.frac - 1), ⟨true, false, false, false, false⟩⟩)
        ∧ (fpIsSnan f b = false → fpIsSnan f a = true → op a b = ⟨a + 2 ^ (f.frac - 1), ⟨true, false, false, false, false⟩⟩)
        ∧ (fpIsSnan f b = false → fpIsSnan f a = false →
          (fpIsNan f b = true → op a b = ⟨b, IeeeFlags.none⟩)
          ∧ (fpIsNan f b = false → fpIsNan f a = true → op a b = ⟨a, IeeeFlags.none⟩)))
      ∧ (∀ (neg sa sb sp : Bool), sa = decide (f.signBit ≤ a) → sb = (decide (f.signBit ≤ b) != neg) →
        sp = (decide (f.signBit ≤ a) != decide (f.signBit ≤ b)) →
        (a % f.signBit = f.infinity → IsFinite f b →
          fpAdd f rnd neg a b = ⟨a, IeeeFlags.none⟩
          ∧ fpDiv f rnd a b = ⟨(if sp = true then f.signBit else 0) + f.infinity, IeeeFlags.none⟩)
        ∧ (IsFinite f a → b % f.signBit = f.infinity →
          fpAdd f rnd neg a b = ⟨(if sb = true then f.signBit else 0) + f.infinity, IeeeFlags.none⟩
          ∧ fpDiv f rnd a b = ⟨if sp = true then f.signBit else 0, IeeeFlags.none⟩)
        ∧ (a % f.signBit = f.infinity → b % f.signBit = f.infinity →
          (sa = sb → fpAdd f rnd neg a b = ⟨a, IeeeFlags.none⟩)
          ∧ (sa ≠ sb → fpAdd f rnd neg a b = ⟨f.defaultNan, ⟨true, false, false, false, false⟩⟩)
          ∧ fpDiv f rnd a b = ⟨f.defaultNan, ⟨true, false, false, false, false⟩⟩)
        ∧ ((a % f.signBit = f.infinity ∧ 0 < b % f.signBit ∧ b % f.signBit ≤ f.infinity)
            ∨ (b % f.signBit = f.infinity ∧ 0 < a % f.signBit ∧ a % f.signBit ≤ f.infinity) →
          fpMul f rnd a b = ⟨(if sp = true then f.signBit else 0) + f.infinity, IeeeFlags.none⟩)
        ∧ ((a % f.signBit = f.infinity ∧ b % f.signBit = 0) ∨ (b % f.signBit = f.infinity ∧ a % f.signBit = 0) →
          fpMul f rnd a b = ⟨f.defaultNan, ⟨true, false, false, false, false⟩⟩))
      ∧ ∀ w ∈ [32, 64], ∀ t : ℤ,
        (IsFinite f a → t = (if 0 ≤ patternValue f a then ⌊patternValue f a⌋ else ⌈patternValue f a⌉) →
          -(2 ^ (w - 1)) ≤ t → t < 2 ^ (w - 1) →
          fpToInt f w a = ⟨(t % 2 ^ w).toNat, ⟨false, false, false, false, decide ((t : ℚ) ≠ patternValue f a)⟩⟩)
        ∧ ((IsFinite f a → t = (if 0 ≤ patternValue f a then ⌊patternValue f a⌋ else ⌈patternValue f a⌉) ∧ ¬(-(2 ^ (w - 1)) ≤ t ∧ t < 2 ^ (w - 1))) →
          fpToInt f w a = ⟨if f.signBit ≤ a then 2 ^ (w - 1) else 2 ^ (w - 1) - 1, ⟨true, false, false, false, false⟩⟩))
    ∧ (IsFinite .single a → IsFinite .single b →
      Delivers .double rnd (decide (2 ^ 31 ≤ a) != decide (2 ^ 31 ≤ b)) (patternValue .single a * patternValue .single b) (fpMulWiden rnd a b))
    ∧ (a < 2 ^ 32 → b < 2 ^ 32 → ∀ sp : Bool, sp = (decide (2 ^ 31 ≤ a) != decide (2 ^ 31 ≤ b)) →
      ((a % 2 ^ 31 = 0x7F800000 ∧ 0 < b % 2 ^ 31 ∧ b % 2 ^ 31 ≤ 0x7F800000)
          ∨ (b % 2 ^ 31 = 0x7F800000 ∧ 0 < a % 2 ^ 31 ∧ a % 2 ^ 31 ≤ 0x7F800000) →
        fpMulWiden rnd a b = ⟨(if sp = true then 2 ^ 63 else 0) + 0x7FF * 2 ^ 52, IeeeFlags.none⟩)
      ∧ ((a % 2 ^ 31 = 0x7F800000 ∧ b % 2 ^ 31 = 0) ∨ (b % 2 ^ 31 = 0x7F800000 ∧ a % 2 ^ 31 = 0) →
        fpMulWiden rnd a b = ⟨2 ^ 63 - 1, ⟨true, false, false, false, false⟩⟩)
      ∧ ∀ wide : Nat → Nat, (∀ x, wide x = x / 2 ^ 31 * 2 ^ 63 + 0xFFF * 2 ^ 51 + x % 2 ^ 22 * 2 ^ 29) →
        (fpIsSnan .single b = true → fpMulWiden rnd a b = ⟨wide b, ⟨true, false, false, false, false⟩⟩)
        ∧ (fpIsSnan .single b = false → fpIsSnan .single a = true →
          fpMulWiden rnd a b = ⟨wide a, ⟨true, false, false, false, false⟩⟩)
        ∧ (fpIsSnan .single b = false → fpIsSnan .single a = false →
          (fpIsNan .single b = true → fpMulWiden rnd a b = ⟨wide b, IeeeFlags.none⟩)
          ∧ (fpIsNan .single b = false → fpIsNan .single a = true → fpMulWiden rnd a b = ⟨wide a, IeeeFlags.none⟩))
        ∧ (fpIsNan .single a = true →
          fpConvert .single .double rnd a = ⟨wide a, ⟨fpIsSnan .single a, false, false, false, false⟩⟩)
        ∧ (a % 2 ^ 31 = 0x7F800000 → fpConvert .single .double rnd a = ⟨a / 2 ^ 31 * 2 ^ 63 + 0x7FF * 2 ^ 52, IeeeFlags.none⟩))
    ∧ (a < 2 ^ 64 →
      (fpIsNan .double a = true → fpConvert .double .single rnd a =
        ⟨a / 2 ^ 63 * 2 ^ 31 + 0x1FF * 2 ^ 22 + a % 2 ^ 51 / 2 ^ 29, ⟨fpIsSnan .double a, false, false, false, false⟩⟩)
      ∧ (a % 2 ^ 63 = 0x7FF * 2 ^ 52 → fpConvert .double .single rnd a = ⟨a / 2 ^ 63 * 2 ^ 31 + 0x7F800000, IeeeFlags.none⟩))
    ∧ (IsFinite .single a → Delivers .double rnd (decide (2 ^ 31 ≤ a)) (patternValue .single a) (fpConvert .single .double rnd a))
    ∧ (IsFinite .double a → Delivers .single rnd (decide (2 ^ 63 ≤ a)) (patternValue .double a) (fpConvert .double .single rnd a))
    ∧ ∀ f ∈ [FpFormat.single, FpFormat.double], ∀ i : ℤ, Delivers f rnd (decide (i < 0)) i (fpOfInt f rnd i)

/-- With the FPU enabled, FCMPs, FCMPd, FCMPEs and FCMPEd set the fcc field cc to 3 where an operand is a NaN, else to
0, 1 or 2 as the first value is equal to, less than or greater than the second, ftt to 0, cexc to nv or nothing and
add it to aexc; nv is detected for a signalling NaN, by FCMPE for any NaN; where FSR.tem.nvm = 1 it takes
fp_exception_ieee_754 instead, with ftt = 1 and cexc nv. Nothing else changes. With the FPU disabled each takes
fp_disabled. That the relation is of the values, so that -0 equals +0, is general knowledge (PRESUMED, log entry 46).
-/
def Obligations.FloatingPointCompares : Prop :=
  ∀ (cc : BitVec 2) (rs1 rs2 : BitVec 5) (s : State) (a b x y : Nat) (e : IeeeFlags),
    a = (getFS s rs1).toNat → b = (getFS s rs2).toNat → x = (getFD s rs1).toNat → y = (getFD s rs2).toNat →
    ∀ p ∈ ([(Instr.fcmps cc rs1 rs2, FpFormat.single, a, b, fpIsSnan .single a || fpIsSnan .single b),
      (.fcmpes cc rs1 rs2, .single, a, b, fpIsNan .single a || fpIsNan .single b),
      (.fcmpd cc rs1 rs2, .double, x, y, fpIsSnan .double x || fpIsSnan .double y),
      (.fcmped cc rs1 rs2, .double, x, y, fpIsNan .double x || fpIsNan .double y)] :
      List (Instr × FpFormat × Nat × Nat × Bool)),
    e = ⟨p.2.2.2.2, false, false, false, false⟩ →
    (s.pstate.pef = true → s.fprs.fef = true → (p.2.2.2.2 && s.fsr.tem.nv) = false → ∃ (t : State) (v : BitVec 2), exec p.1 s = .next t ∧ SameBytes s t
      ∧ (v = 3 ↔ fpIsNan p.2.1 p.2.2.1 = true ∨ fpIsNan p.2.1 p.2.2.2.1 = true)
      ∧ (v ≠ 3 → (v = 0 ↔ patternValue p.2.1 p.2.2.1 = patternValue p.2.1 p.2.2.2.1)
        ∧ (v = 1 ↔ patternValue p.2.1 p.2.2.1 < patternValue p.2.1 p.2.2.2.1))
      ∧ t = advance { s with fsr := { fsrCompleted s.fsr e with
          fcc0 := if cc = 0 then v else s.fsr.fcc0, fcc1 := if cc = 1 then v else s.fsr.fcc1
          fcc2 := if cc = 2 then v else s.fsr.fcc2, fcc3 := if cc = 3 then v else s.fsr.fcc3 } })
    ∧ (s.pstate.pef = true → s.fprs.fef = true → (p.2.2.2.2 && s.fsr.tem.nv) = true →
      exec p.1 s = .next (takeTrap { s with fsr := { s.fsr with ftt := 1, cexc := e } } .fpExceptionIeee754))
    ∧ (s.pstate.pef = false ∨ s.fprs.fef = false → exec p.1 s = .next (takeTrap s .fpDisabled))

/-- With the FPU enabled each completes: where its condition (none; condition number cond of icc, xcc or fccn; or a
test of R[rs1] as a signed number) holds, F[rd] receives F[rs2], with the sign bit inverted (FNEG) or cleared (FABS),
and its dirty bit; in every case FSR.ftt and cexc become 0 and nothing else changes. With the FPU disabled each takes
fp_disabled with the destination's dirty bit set, which for a conditional move is the model's reading (log entry 12).
-/
def Obligations.FloatingPointMoves : Prop :=
  ∀ (rd rs1 rs2 : BitVec 5) (cond : BitVec 4) (cc : BitVec 2) (s : State) (icc xcc fcc : List Bool) (k : BitVec 2) (e l g u' : Bool)
    (b : Word) (y u : DWord) (f : Fsr), b = getFS s rs2 → y = getFD s rs2 → u = getR s rs1 →
    f = { s.fsr with ftt := 0, cexc := ⟨false, false, false, false, false⟩ } →
    (∀ c : CC, c = s.ccr.icc → icc = [false, c.z, c.z || (c.n != c.v), c.n != c.v, c.c || c.z, c.c, c.n, c.v, true, !c.z, !(c.z || (c.n != c.v)), !(c.n != c.v), !(c.c || c.z), !c.c, !c.n, !c.v]) →
    (∀ c : CC, c = s.ccr.xcc → xcc = [false, c.z, c.z || (c.n != c.v), c.n != c.v, c.c || c.z, c.c, c.n, c.v, true, !c.z, !(c.z || (c.n != c.v)), !(c.n != c.v), !(c.c || c.z), !c.c, !c.n, !c.v]) →
    k = (if cc = 0 then s.fsr.fcc0 else if cc = 1 then s.fsr.fcc1 else if cc = 2 then s.fsr.fcc2 else s.fsr.fcc3) →
    e = (k == 0) → l = (k == 1) → g = (k == 2) → u' = (k == 3) →
    fcc = [false, l || g || u', l || g, u' || l, l, u' || g, g, u', true, e, u' || e, g || e, u' || g || e, l || e, u' || l || e, e || l || g] →
    (∀ p ∈ ([(Instr.fmovs rd rs2, true, b), (.fnegs rd rs2, true, b ^^^ 0x80000000),
      (.fabss rd rs2, true, b &&& 0x7FFFFFFF), (.fmovsicc rd cond rs2, icc[cond.toNat]?.getD false, b),
      (.fmovsxcc rd cond rs2, xcc[cond.toNat]?.getD false, b),
      (.fmovsfcc rd cond cc rs2, fcc[cond.toNat]?.getD false, b), (.fmovrsz rd rs1 rs2, decide (u.toInt = 0), b),
      (.fmovrslez rd rs1 rs2, decide (u.toInt ≤ 0), b), (.fmovrslz rd rs1 rs2, decide (u.toInt < 0), b),
      (.fmovrsnz rd rs1 rs2, decide (u.toInt ≠ 0), b), (.fmovrsgz rd rs1 rs2, decide (0 < u.toInt), b),
      (.fmovrsgez rd rs1 rs2, decide (0 ≤ u.toInt), b)] : List (Instr × Bool × Word)),
      (s.pstate.pef = true → s.fprs.fef = true → p.2.1 = true → ∃ t, exec p.1 s = .next t ∧ ResultFS s t rd p.2.2 f)
      ∧ (s.pstate.pef = true → s.fprs.fef = true → p.2.1 = false → ∃ t, exec p.1 s = .next t ∧ t = advance { s with fsr := f })
      ∧ (s.pstate.pef = false ∨ s.fprs.fef = false → exec p.1 s = .next (takeTrap { s with fprs := dirtyLower s.fprs } .fpDisabled)))
    ∧ ∀ p ∈ ([(Instr.fmovd rd rs2, true, y), (.fnegd rd rs2, true, y ^^^ 0x8000000000000000),
      (.fabsd rd rs2, true, y &&& 0x7FFFFFFFFFFFFFFF), (.fmovdicc rd cond rs2, icc[cond.toNat]?.getD false, y),
      (.fmovdxcc rd cond rs2, xcc[cond.toNat]?.getD false, y),
      (.fmovdfcc rd cond cc rs2, fcc[cond.toNat]?.getD false, y), (.fmovrdz rd rs1 rs2, decide (u.toInt = 0), y),
      (.fmovrdlez rd rs1 rs2, decide (u.toInt ≤ 0), y), (.fmovrdlz rd rs1 rs2, decide (u.toInt < 0), y),
      (.fmovrdnz rd rs1 rs2, decide (u.toInt ≠ 0), y), (.fmovrdgz rd rs1 rs2, decide (0 < u.toInt), y),
      (.fmovrdgez rd rs1 rs2, decide (0 ≤ u.toInt), y)] : List (Instr × Bool × DWord)),
      (s.pstate.pef = true → s.fprs.fef = true → p.2.1 = true → ∃ t, exec p.1 s = .next t ∧ ResultFD s t rd p.2.2 f)
      ∧ (s.pstate.pef = true → s.fprs.fef = true → p.2.1 = false → ∃ t, exec p.1 s = .next t ∧ t = advance { s with fsr := f })
      ∧ (s.pstate.pef = false ∨ s.fprs.fef = false → exec p.1 s = .next (takeTrap { s with fprs := dirtyDouble s.fprs rd } .fpDisabled))

/-- With the FPU enabled each completes: the 32 logical instructions write the bitwise function of their names; FPADD
and FPSUB the sum or difference of each 16- or 32-bit lane, modulo its width; FALIGNDATA the eight bytes from byte
GSR.align of the pair F[rs1] :: F[rs2] on; BSHUFFLE for each byte the byte of the pair that its nibble of GSR.mask
selects. FSR is unchanged. With the FPU disabled each takes fp_disabled with the destination's dirty bit set. -/
def Obligations.VisFloatingPointResults : Prop :=
  ∀ (rd rs1 rs2 : BitVec 5) (s : State) (a b : Word) (x y : DWord),
    a = getFS s rs1 → b = getFS s rs2 → x = getFD s rs1 → y = getFD s rs2 →
    (s.pstate.pef = true → s.fprs.fef = true →
      (∀ p ∈ ([(Instr.fzero rd, 0), (.fone rd, -1), (.fsrc1 rd rs1, x), (.fsrc2 rd rs2, y), (.fnot1 rd rs1, ~~~x),
        (.fnot2 rd rs2, ~~~y), (.for_ rd rs1 rs2, x ||| y), (.fnor rd rs1 rs2, ~~~(x ||| y)),
        (.fand rd rs1 rs2, x &&& y), (.fnand rd rs1 rs2, ~~~(x &&& y)), (.fxor rd rs1 rs2, x ^^^ y),
        (.fxnor rd rs1 rs2, ~~~(x ^^^ y)), (.fornot1 rd rs1 rs2, ~~~x ||| y), (.fornot2 rd rs1 rs2, x ||| ~~~y),
        (.fandnot1 rd rs1 rs2, ~~~x &&& y), (.fandnot2 rd rs1 rs2, x &&& ~~~y)] : List (Instr × DWord)),
        ∃ t, exec p.1 s = .next t ∧ ResultFD s t rd p.2 s.fsr)
      ∧ (∀ p ∈ ([(Instr.fzeros rd, 0), (.fones rd, -1), (.fsrc1s rd rs1, a), (.fsrc2s rd rs2, b), (.fnot1s rd rs1, ~~~a),
        (.fnot2s rd rs2, ~~~b), (.fors rd rs1 rs2, a ||| b), (.fnors rd rs1 rs2, ~~~(a ||| b)),
        (.fands rd rs1 rs2, a &&& b), (.fnands rd rs1 rs2, ~~~(a &&& b)), (.fxors rd rs1 rs2, a ^^^ b),
        (.fxnors rd rs1 rs2, ~~~(a ^^^ b)), (.fornot1s rd rs1 rs2, ~~~a ||| b), (.fornot2s rd rs1 rs2, a ||| ~~~b),
        (.fandnot1s rd rs1 rs2, ~~~a &&& b), (.fandnot2s rd rs1 rs2, a &&& ~~~b)] : List (Instr × Word)),
        ∃ t, exec p.1 s = .next t ∧ ResultFS s t rd p.2 s.fsr)
      ∧ (∀ p ∈ ([(Instr.fpadd16 rd rs1 rs2, true), (.fpsub16 rd rs1 rs2, false)] : List (Instr × Bool)),
        ∃ t v, exec p.1 s = .next t ∧ ResultFD s t rd v s.fsr ∧ ∀ k < 4, v.extractLsb' (16 * k) 16 =
          if p.2 = true then x.extractLsb' (16 * k) 16 + y.extractLsb' (16 * k) 16 else x.extractLsb' (16 * k) 16 - y.extractLsb' (16 * k) 16)
      ∧ (∀ p ∈ ([(Instr.fpadd32 rd rs1 rs2, true), (.fpsub32 rd rs1 rs2, false)] : List (Instr × Bool)),
        ∃ t v, exec p.1 s = .next t ∧ ResultFD s t rd v s.fsr ∧ ∀ k < 2, v.extractLsb' (32 * k) 32 =
          if p.2 = true then x.extractLsb' (32 * k) 32 + y.extractLsb' (32 * k) 32 else x.extractLsb' (32 * k) 32 - y.extractLsb' (32 * k) 32)
      ∧ (∀ p ∈ ([(Instr.fpadd16s rd rs1 rs2, true), (.fpsub16s rd rs1 rs2, false)] : List (Instr × Bool)),
        ∃ t v, exec p.1 s = .next t ∧ ResultFS s t rd v s.fsr ∧ ∀ k < 2, v.extractLsb' (16 * k) 16 =
          if p.2 = true then a.extractLsb' (16 * k) 16 + b.extractLsb' (16 * k) 16 else a.extractLsb' (16 * k) 16 - b.extractLsb' (16 * k) 16)
      ∧ (∀ p ∈ ([(Instr.fpadd32s rd rs1 rs2, a + b), (.fpsub32s rd rs1 rs2, a - b)] : List (Instr × Word)),
        ∃ t, exec p.1 s = .next t ∧ ResultFS s t rd p.2 s.fsr)
      ∧ (∃ t v, exec (.faligndata rd rs1 rs2) s = .next t ∧ ResultFD s t rd v s.fsr
        ∧ ∀ k < 8, byteLane 8 false v k = pairByte x y (s.gsr.align.toNat + k))
      ∧ ∃ t v, exec (.bshuffle rd rs1 rs2) s = .next t ∧ ResultFD s t rd v s.fsr
        ∧ ∀ k < 8, byteLane 8 false v k = pairByte x y (s.gsr.mask.toNat / 16 ^ (7 - k) % 16))
    ∧ (s.pstate.pef = false ∨ s.fprs.fef = false →
      (∀ i ∈ [Instr.fzero rd, .fone rd, .fsrc1 rd rs1, .fsrc2 rd rs2, .fnot1 rd rs1, .fnot2 rd rs2, .for_ rd rs1 rs2,
        .fnor rd rs1 rs2, .fand rd rs1 rs2, .fnand rd rs1 rs2, .fxor rd rs1 rs2, .fxnor rd rs1 rs2,
        .fornot1 rd rs1 rs2, .fornot2 rd rs1 rs2, .fandnot1 rd rs1 rs2, .fandnot2 rd rs1 rs2, .fpadd16 rd rs1 rs2,
        .fpsub16 rd rs1 rs2, .fpadd32 rd rs1 rs2, .fpsub32 rd rs1 rs2, .faligndata rd rs1 rs2, .bshuffle rd rs1 rs2],
        exec i s = .next (takeTrap { s with fprs := dirtyDouble s.fprs rd } .fpDisabled))
      ∧ ∀ i ∈ [Instr.fzeros rd, .fones rd, .fsrc1s rd rs1, .fsrc2s rd rs2, .fnot1s rd rs1, .fnot2s rd rs2, .fors rd rs1 rs2,
        .fnors rd rs1 rs2, .fands rd rs1 rs2, .fnands rd rs1 rs2, .fxors rd rs1 rs2, .fxnors rd rs1 rs2,
        .fornot1s rd rs1 rs2, .fornot2s rd rs1 rs2, .fandnot1s rd rs1 rs2, .fandnot2s rd rs1 rs2,
        .fpadd16s rd rs1 rs2, .fpsub16s rd rs1 rs2, .fpadd32s rd rs1 rs2, .fpsub32s rd rs1 rs2],
        exec i s = .next (takeTrap { s with fprs := dirtyLower s.fprs } .fpDisabled))

/-- With the FPU enabled each completes: ALIGNADDRESS writes the sum of R[rs1] and R[rs2] with its low three bits zero
to R[rd] and those bits (ALIGNADDRESS_LITTLE: their two's complement) to GSR.align; BMASK writes the sum to R[rd] and
its low word to GSR.mask; a compare writes to R[rd] the mask whose bit k says that lane k of the operands satisfies
the signed relation; SIAM writes GSR.im and irnd. Nothing else changes. With the FPU disabled each takes fp_disabled.
-/
def Obligations.VisIntegerResults : Prop :=
  ∀ (rd rs1 rs2 : BitVec 5) (mode : BitVec 3) (s : State) (n : DWord) (x y : DWord),
    n = getR s rs1 + getR s rs2 → x = getFD s rs1 → y = getFD s rs2 →
    (s.pstate.pef = true → s.fprs.fef = true →
      (∀ p ∈ ([(Instr.alignaddress rd rs1 rs2, n.toNat % 8), (.alignaddress_little rd rs1 rs2, (8 - n.toNat % 8) % 8)] : List (Instr × Nat)),
        ∃ t, exec p.1 s = .next t ∧ WroteR s t rd (BitVec.ofNat 64 (n.toNat / 8 * 8)) ∧ SameBytes s t
          ∧ t = advance { s with globals := t.globals, windows := t.windows, gsr := { s.gsr with align := BitVec.ofNat 3 p.2 } })
      ∧ (∃ t, exec (.bmask rd rs1 rs2) s = .next t ∧ WroteR s t rd n ∧ SameBytes s t
        ∧ t = advance { s with globals := t.globals, windows := t.windows, gsr := { s.gsr with mask := n.setWidth 32 } })
      ∧ (∀ p ∈ ([(Instr.fcmple16 rd rs1 rs2, fun p q => decide (p.toInt ≤ q.toInt)),
        (.fcmpne16 rd rs1 rs2, fun p q => decide (p ≠ q)),
        (.fcmpgt16 rd rs1 rs2, fun p q => decide (q.toInt < p.toInt)),
        (.fcmpeq16 rd rs1 rs2, fun p q => decide (p = q))] :
          List (Instr × (BitVec 16 → BitVec 16 → Bool))),
        ∃ t v, exec p.1 s = .next t ∧ ResultR s t rd v ∧ v.toNat < 16
          ∧ ∀ k < 4, v.getLsbD k = p.2 (x.extractLsb' (16 * k) 16) (y.extractLsb' (16 * k) 16))
      ∧ (∀ p ∈ ([(Instr.fcmple32 rd rs1 rs2, fun p q => decide (p.toInt ≤ q.toInt)),
        (.fcmpne32 rd rs1 rs2, fun p q => decide (p ≠ q)),
        (.fcmpgt32 rd rs1 rs2, fun p q => decide (q.toInt < p.toInt)),
        (.fcmpeq32 rd rs1 rs2, fun p q => decide (p = q))] :
          List (Instr × (BitVec 32 → BitVec 32 → Bool))),
        ∃ t v, exec p.1 s = .next t ∧ ResultR s t rd v ∧ v.toNat < 4
          ∧ ∀ k < 2, v.getLsbD k = p.2 (x.extractLsb' (32 * k) 32) (y.extractLsb' (32 * k) 32))
      ∧ ∃ t, exec (.siam mode) s = .next t ∧ SameBytes s t
        ∧ t = advance { s with gsr := { s.gsr with im := mode.getLsbD 2, irnd := mode.setWidth 2 } })
    ∧ (s.pstate.pef = false ∨ s.fprs.fef = false →
      ∀ i ∈ [Instr.alignaddress rd rs1 rs2, .alignaddress_little rd rs1 rs2, .bmask rd rs1 rs2, .fcmple16 rd rs1 rs2,
        .fcmpne16 rd rs1 rs2, .fcmpgt16 rd rs1 rs2, .fcmpeq16 rd rs1 rs2, .fcmple32 rd rs1 rs2, .fcmpne32 rd rs1 rs2,
        .fcmpgt32 rd rs1 rs2, .fcmpeq32 rd rs1 rs2, .siam mode],
        exec i s = .next (takeTrap s .fpDisabled))

/-- Each EDGE completes in every state: R[rd] receives the mask of w = 8, 4 or 2 bits in which the bit of element k
(from the left; from the right in the little-endian forms) is 1 exactly where k is not below the element of R[rs1]
and, if R[rs2] lies in the same 8 bytes, not above that of R[rs2]; the cc forms set CCR as SUBcc does. ARRAY8 writes
the address its coordinates blend to for a size code of at most 5, ARRAY16 twice and ARRAY32 four times it; for a
larger one R[rd] receives a value of which nothing is said. Nothing else changes. That hardware executes EDGE is the
spec's default (decision D25). -/
def Obligations.EdgeMasksAndArrayAddresses : Prop :=
  ∀ (rd rs1 rs2 : BitVec 5) (s : State) (a b : DWord), a = getR s rs1 → b = getR s rs2 →
    (∀ p ∈ ([(Instr.edge8cc rd rs1 rs2, .edge8n rd rs1 rs2, 8, 1, false),
      (.edge8lcc rd rs1 rs2, .edge8ln rd rs1 rs2, 8, 1, true),
      (.edge16cc rd rs1 rs2, .edge16n rd rs1 rs2, 4, 2, false),
      (.edge16lcc rd rs1 rs2, .edge16ln rd rs1 rs2, 4, 2, true),
      (.edge32cc rd rs1 rs2, .edge32n rd rs1 rs2, 2, 4, false),
      (.edge32lcc rd rs1 rs2, .edge32ln rd rs1 rs2, 2, 4, true)] : List (Instr × Instr × Nat × Nat × Bool)),
      ∃ (t t' : State) (v : DWord) (c : Ccr), exec p.1 s = .next t ∧ ResultRC s t rd v c ∧ DifferenceCcr c a b false
        ∧ exec p.2.1 s = .next t' ∧ ResultR s t' rd v ∧ v.toNat < 2 ^ p.2.2.1
        ∧ ∀ k < p.2.2.1, v.getLsbD (if p.2.2.2.2 = true then k else p.2.2.1 - 1 - k) =
            decide (a.toNat % 8 / p.2.2.2.1 ≤ k
              ∧ ((maskAm s a).toNat / 8 = (maskAm s b).toNat / 8 → k ≤ b.toNat % 8 / p.2.2.2.1)))
    ∧ ∀ (x y z n : Nat), x = a.toNat / 2 ^ 11 % 2 ^ 11 → y = a.toNat / 2 ^ 33 % 2 ^ 11 → z = a.toNat / 2 ^ 55 → n = b.toNat →
      ∀ p ∈ ([(Instr.array8 rd rs1 rs2, 1), (.array16 rd rs1 rs2, 2), (.array32 rd rs1 rs2, 4)] : List (Instr × Nat)),
      (n ≤ 5 → ∃ t, exec p.1 s = .next t ∧ ResultR s t rd (BitVec.ofNat 64 (p.2 *
        (x % 4 + y % 4 * 2 ^ 2 + z % 2 * 2 ^ 4 + x / 4 % 16 * 2 ^ 5 + y / 4 % 16 * 2 ^ 9 + z / 2 % 16 * 2 ^ 13
          + (x / 64 % 2 ^ n + y / 64 % 2 ^ n * 2 ^ n + z / 32 * 2 ^ (2 * n)) * 2 ^ 17))))
      ∧ (5 < n → ∃ t v, exec p.1 s = .next t ∧ WroteR s t rd v ∧ SameBytes s t
        ∧ t = advance { s with globals := t.globals, windows := t.windows, freeCount := s.freeCount + 1 })
end

