-- ==== Sys2Proof/Laws/Memory.lean ====
section
/-! SUPPORT. Memory: reading a byte after writing one, and the canonical form every operation keeps. -/

namespace Sys2Proof.Machine

variable {w : PaWidth}

/-! ### One byte -/

theorem lookup_nil (k : Nat) : lookup [] k = unlistedByte := rfl

/-- What the canonical form says of the first entry. -/
theorem memoryAbove_cons {lo : Option Nat} {a : Nat} {b : Byte} {m : Memory} :
    memoryAbove w lo ((a, b) :: m) = true ↔
      (∀ l, lo = some l → l < a) ∧ b ≠ unlistedByte ∧ a < 2 ^ Config.paBits w ∧ memoryAbove w (some a) m = true := by
  cases lo <;> simp [memoryAbove, and_assoc]

/-- A key below every entry reads as unlisted. -/
theorem lookup_above {lo k : Nat} {m : Memory} (h : memoryAbove w (some lo) m = true) (hk : k ≤ lo) :
    lookup m k = unlistedByte := by
  cases m with
  | nil => rfl
  | cons c m =>
    obtain ⟨a, b⟩ := c
    have := (memoryAbove_cons.mp h).1 lo rfl
    unfold lookup
    rw [if_neg (by omega), if_pos (by omega)]

/-- Any bound at all gives the canonical form. -/
theorem wf_of_memoryAbove {lo : Option Nat} {m : Memory} (h : memoryAbove w lo m = true) : Memory.wf w m = true := by
  cases m with
  | nil => rfl
  | cons c m => exact memoryAbove_cons.mpr ⟨nofun, (memoryAbove_cons.mp h).2⟩

theorem memoryAbove_tail {lo : Option Nat} {a : Nat} {b : Byte} {m : Memory} (h : memoryAbove w lo ((a, b) :: m) = true) :
    memoryAbove w (some a) m = true := (memoryAbove_cons.mp h).2.2.2

/-- `lookup` of an entry and the rest. -/
theorem lookup_cons (a : Nat) (b : Byte) (m : Memory) (k : Nat) :
    lookup ((a, b) :: m) k = if k = a then b else if k < a then unlistedByte else lookup m k := rfl

/-- Writing the byte at a key makes it read so. -/
theorem lookup_update_same {lo : Option Nat} {m : Memory} (h : memoryAbove w lo m = true) (k : Nat) (v : Byte) :
    lookup (update m k v) k = v := by
  induction m generalizing lo with
  | nil =>
    unfold update
    split
    · next hv => rw [hv]; rfl
    · unfold lookup; rw [if_pos rfl]
  | cons c m ih =>
    obtain ⟨a, b⟩ := c
    have ht := memoryAbove_tail h
    unfold update
    by_cases hka : k = a
    · subst hka
      rw [if_pos rfl]
      split
      · next hv => rw [hv, lookup_above ht (le_refl _)]
      · unfold lookup; rw [if_pos rfl]
    · rw [if_neg hka]
      by_cases hlt : k < a
      · rw [if_pos hlt]
        split
        · next hv => unfold lookup; rw [if_neg hka, if_pos hlt, hv]
        · unfold lookup; rw [if_pos rfl]
      · rw [if_neg hlt]
        unfold lookup
        rw [if_neg hka, if_neg hlt]
        exact ih ht

/-- Writing the byte at a key leaves every other key. -/
theorem lookup_update_other {lo : Option Nat} {m : Memory} (h : memoryAbove w lo m = true) {k j : Nat} (hj : j ≠ k)
    (v : Byte) : lookup (update m k v) j = lookup m j := by
  induction m generalizing lo with
  | nil =>
    unfold update
    split
    · rfl
    · unfold lookup
      rw [if_neg hj]
      split <;> rfl
  | cons c m ih =>
    obtain ⟨a, b⟩ := c
    have ht := memoryAbove_tail h
    unfold update
    by_cases hka : k = a
    · subst hka
      rw [if_pos rfl]
      split
      · conv_rhs => unfold lookup
        rw [if_neg hj]
        split
        · next hlt => exact lookup_above ht (by omega)
        · rfl
      · rw [lookup_cons, lookup_cons, if_neg hj, if_neg hj]
    · rw [if_neg hka]
      by_cases hlt : k < a
      · rw [if_pos hlt]
        split
        · rfl
        · conv_lhs => unfold lookup
          rw [if_neg hj]
          split
          · next hjk =>
            unfold lookup
            rw [if_neg (by omega), if_pos (by omega)]
          · rfl
      · rw [if_neg hlt]
        unfold lookup
        by_cases hja : j = a
        · rw [if_pos hja, if_pos hja]
        · rw [if_neg hja, if_neg hja]
          split
          · rfl
          · exact ih ht

/-- A write keeps the canonical form. -/
theorem memoryAbove_update {lo : Option Nat} {m : Memory} (h : memoryAbove w lo m = true) {k : Nat}
    (hlo : ∀ l, lo = some l → l < k) (hk : k < 2 ^ Config.paBits w) (v : Byte) : memoryAbove w lo (update m k v) = true := by
  induction m generalizing lo with
  | nil =>
    unfold update
    split
    · rfl
    · next hv => exact memoryAbove_cons.mpr ⟨hlo, hv, hk, rfl⟩
  | cons c m ih =>
    obtain ⟨a, b⟩ := c
    obtain ⟨ha, hb, hbound, ht⟩ := memoryAbove_cons.mp h
    unfold update
    by_cases hka : k = a
    · subst hka
      rw [if_pos rfl]
      split
      · cases m with
        | nil => rfl
        | cons c m =>
          obtain ⟨h1, h2⟩ := memoryAbove_cons.mp ht
          refine memoryAbove_cons.mpr ⟨fun l hl => ?_, h2⟩
          have := hlo l hl
          have := h1 k rfl
          omega
      · next hv => exact memoryAbove_cons.mpr ⟨hlo, hv, hk, ht⟩
    · rw [if_neg hka]
      by_cases hlt : k < a
      · rw [if_pos hlt]
        split
        · exact h
        · next hv =>
          exact memoryAbove_cons.mpr ⟨hlo, hv, hk, memoryAbove_cons.mpr ⟨fun l hl => by cases hl; exact hlt, hb, hbound, ht⟩⟩
      · rw [if_neg hlt]
        exact memoryAbove_cons.mpr ⟨ha, hb, hbound, ih ht fun l hl => by cases hl; omega⟩

theorem wf_update {m : Memory} (h : Memory.wf w m = true) {k : Nat} (hk : k < 2 ^ Config.paBits w) (v : Byte) :
    Memory.wf w (update m k v) = true :=
  memoryAbove_update h (fun _ hl => by cases hl) hk v

theorem physKey_lt (w : PaWidth) (pa : DWord) : physKey w pa < 2 ^ Config.paBits w := Nat.mod_lt _ (Nat.two_pow_pos _)

/-! ### Every memory operation keeps the canonical form -/

theorem wf_writeByte {m : Memory} (h : Memory.wf w m = true) (pa : DWord) (v : Byte) : Memory.wf w (writeByte w m pa v) = true :=
  wf_update h (physKey_lt w pa) v

theorem wf_writeBE {m : Memory} (h : Memory.wf w m = true) (pa v : DWord) (n : Nat) : Memory.wf w (writeBE w m pa v n) = true := by
  induction n generalizing m pa with
  | zero => exact h
  | succ n ih => exact ih (wf_writeByte h pa _) _

theorem wf_writeLE {m : Memory} (h : Memory.wf w m = true) (pa v : DWord) (n : Nat) : Memory.wf w (writeLE w m pa v n) = true := by
  induction n generalizing m pa v with
  | zero => exact h
  | succ n ih => exact ih (wf_writeByte h pa _) _ _

theorem wf_writeMem {m : Memory} (h : Memory.wf w m = true) (pa : DWord) (n : Nat) (little : Bool) (v : DWord) :
    Memory.wf w (writeMem w m pa n little v) = true := by
  unfold writeMem
  split
  · exact wf_writeLE h pa v n
  · exact wf_writeBE h pa v n

theorem reset_memory_wf (w : PaWidth) (c : Chip) : Memory.wf w (State.resetOf w c).memory = true := rfl

/-! ### Bytes -/

theorem readByte_writeByte_same {m : Memory} (h : Memory.wf w m = true) {a pa : DWord} (ha : physKey w a = physKey w pa)
    (v : Byte) : readByte w (writeByte w m pa v) a = v := by
  unfold readByte writeByte
  rw [ha]
  exact lookup_update_same h _ v

theorem readByte_writeByte_other {m : Memory} (h : Memory.wf w m = true) {a pa : DWord} (ha : physKey w a ≠ physKey w pa)
    (v : Byte) : readByte w (writeByte w m pa v) a = readByte w m a :=
  lookup_update_other h ha v

end Sys2Proof.Machine
end

