-- ==== Sys2Proof/Laws/Bytes.lean ====
section
/-! SUPPORT. Accesses of several bytes: what a read gives and what a write leaves, byte by byte, in both byte orders. -/

namespace Sys2Proof.Machine

variable {w : PaWidth}

theorem add_ofNat_succ (pa : DWord) (k : Nat) : pa + 1 + BitVec.ofNat 64 k = pa + BitVec.ofNat 64 (k + 1) := by
  rw [BitVec.ofNat_add, add_assoc, add_comm (BitVec.ofNat 64 k)]; rfl

/-! ### Reading -/

theorem toNat_readBE_lt (w : PaWidth) (m : Memory) (n : Nat) (h : n ≤ 8) : ∀ pa, (readBE w m pa n).toNat < 2 ^ (8 * n) := by
  induction n with
  | zero => intro pa; simp [readBE]
  | succ n ih =>
    intro pa
    simp only [readBE, BitVec.toNat_or, BitVec.toNat_shiftLeft, BitVec.toNat_setWidth]
    have := ih (by omega) (pa + 1)
    apply Nat.or_lt_two_pow
    · have hb := (readByte w m pa).isLt
      rw [Nat.mod_eq_of_lt (a := BitVec.toNat _) (by omega), Nat.shiftLeft_eq]
      refine Nat.lt_of_le_of_lt (Nat.mod_le _ _) ?_
      have : 2 ^ (8 * (n + 1)) = 2 ^ 8 * 2 ^ (8 * n) := by rw [← pow_add]; congr 1; omega
      rw [this]
      exact Nat.mul_lt_mul_of_pos_right hb (by positivity)
    · exact lt_of_lt_of_le this (Nat.pow_le_pow_right (by omega) (by omega))

theorem toNat_readLE_lt (w : PaWidth) (m : Memory) (n : Nat) (h : n ≤ 8) : ∀ pa, (readLE w m pa n).toNat < 2 ^ (8 * n) := by
  induction n with
  | zero => intro pa; simp [readLE]
  | succ n ih =>
    intro pa
    simp only [readLE, BitVec.toNat_or, BitVec.toNat_shiftLeft, BitVec.toNat_setWidth]
    have := ih (by omega) (pa + 1)
    have e : 2 ^ (8 * (n + 1)) = 2 ^ (8 * n) * 2 ^ 8 := by rw [← pow_add]; congr 1
    apply Nat.or_lt_two_pow
    · have hb := (readByte w m pa).isLt
      rw [Nat.mod_eq_of_lt (by omega)]
      exact lt_of_lt_of_le hb (Nat.pow_le_pow_right (by omega) (by omega))
    · rw [Nat.shiftLeft_eq]
      refine Nat.lt_of_le_of_lt (Nat.mod_le _ _) ?_
      rw [e]
      exact Nat.mul_lt_mul_of_pos_right this (by norm_num)

theorem getLsbD_readBE (w : PaWidth) (m : Memory) (n : Nat) (h : n ≤ 8) : ∀ pa k, k < n → ∀ j < 8,
    (readBE w m pa n).getLsbD (8 * (n - 1 - k) + j) = (readByte w m (pa + BitVec.ofNat 64 k)).getLsbD j := by
  induction n with
  | zero => intro pa k hk; omega
  | succ n ih =>
    intro pa k hk j hj
    simp only [readBE, BitVec.getLsbD_or, BitVec.getLsbD_shiftLeft, BitVec.getLsbD_setWidth]
    rcases k with _ | k
    · have h0 : (readBE w m (pa + 1) n).getLsbD (8 * (n + 1 - 1 - 0) + j) = false := by
        rw [BitVec.getLsbD]
        exact Nat.testBit_lt_two_pow (lt_of_lt_of_le (toNat_readBE_lt w m n (by omega) _)
          (Nat.pow_le_pow_right (by omega) (by omega)))
      have h1 : 8 * n + j < 64 := by omega
      have h2 : ¬ 8 * n + j < 8 * n := by omega
      have h3 : j < 64 := by omega
      rw [h0]
      simp [h1, h2, h3]
    · have h2 : 8 * (n + 1 - 1 - (k + 1)) + j < 8 * n := by omega
      have e : n + 1 - 1 - (k + 1) = n - 1 - k := by omega
      rw [e] at h2 ⊢
      rw [ih (by omega) (pa + 1) k (by omega) j hj, add_ofNat_succ]
      simp [h2]

theorem getLsbD_readLE (w : PaWidth) (m : Memory) (n : Nat) (h : n ≤ 8) : ∀ pa k, k < n → ∀ j < 8,
    (readLE w m pa n).getLsbD (8 * k + j) = (readByte w m (pa + BitVec.ofNat 64 k)).getLsbD j := by
  induction n with
  | zero => intro pa k hk; omega
  | succ n ih =>
    intro pa k hk j hj
    simp only [readLE, BitVec.getLsbD_or, BitVec.getLsbD_shiftLeft, BitVec.getLsbD_setWidth]
    rcases k with _ | k
    · have h3 : j < 64 := by omega
      simp [hj, h3]
    · have h1 : 8 * (k + 1) + j < 64 := by omega
      have h2 : ¬ 8 * (k + 1) + j < 8 := by omega
      have e : 8 * (k + 1) + j - 8 = 8 * k + j := by omega
      rw [e, ih (by omega) (pa + 1) k (by omega) j hj, add_ofNat_succ, BitVec.getLsbD_of_ge _ (8 * (k + 1) + j) (by omega)]
      simp [h1, h2]

/-- Reading `n` bytes gives the value whose bytes they are, in the byte order given. -/
theorem loaded_readMem (s : State) (pa : DWord) {n : Nat} (h : n ≤ 8) (little : Bool) :
    Loaded s pa n little (readMem s.paWidth s.memory pa n little) := by
  unfold readMem Loaded byteLane
  cases little with
  | false =>
    refine ⟨toNat_readBE_lt _ _ n h pa, fun k hk => ?_⟩
    apply BitVec.eq_of_getLsbD_eq
    intro j hj
    rw [BitVec.getLsbD_extractLsb']
    simpa [hj] using getLsbD_readBE s.paWidth s.memory n h pa k hk j hj
  | true =>
    refine ⟨toNat_readLE_lt _ _ n h pa, fun k hk => ?_⟩
    apply BitVec.eq_of_getLsbD_eq
    intro j hj
    rw [BitVec.getLsbD_extractLsb']
    simpa [hj] using getLsbD_readLE s.paWidth s.memory n h pa k hk j hj

/-! ### Writing -/

/-- Nearby addresses have different keys. -/
theorem physKey_add_ne (pa : DWord) {i j : Nat} (hi : i < 2 ^ 40) (hj : j < 2 ^ 40) (h : i ≠ j) :
    physKey w (pa + BitVec.ofNat 64 i) ≠ physKey w (pa + BitVec.ofNat 64 j) := by
  unfold physKey
  rw [BitVec.toNat_add, BitVec.toNat_add, BitVec.toNat_ofNat, BitVec.toNat_ofNat]
  have h64 : 2 ^ Config.paBits w ∣ 2 ^ 64 := pow_dvd_pow 2 (by unfold Config.paBits; omega)
  have h40 : 2 ^ 40 ≤ 2 ^ Config.paBits w := Nat.pow_le_pow_right (by decide) (by unfold Config.paBits; omega)
  rw [Nat.mod_mod_of_dvd _ h64, Nat.mod_mod_of_dvd _ h64, Nat.mod_eq_of_lt (b := 2 ^ 64) (by omega),
    Nat.mod_eq_of_lt (b := 2 ^ 64) (by omega)]
  intro he
  have := Nat.ModEq.add_left_cancel' pa.toNat (show pa.toNat + i ≡ pa.toNat + j [MOD 2 ^ Config.paBits w] from he)
  exact h (Nat.ModEq.eq_of_lt_of_lt this (by omega) (by omega))

theorem readByte_writeBE_other {m : Memory} (hw : Memory.wf w m = true) (v : DWord) (a : DWord) (n : Nat) :
    ∀ pa, (∀ k < n, physKey w a ≠ physKey w (pa + BitVec.ofNat 64 k)) → readByte w (writeBE w m pa v n) a = readByte w m a := by
  induction n generalizing m with
  | zero => intro _ _; rfl
  | succ n ih =>
    intro pa h
    rw [writeBE, ih (wf_writeByte hw _ _)]
    · exact readByte_writeByte_other hw (by simpa using h 0 (by omega)) _
    · intro k hk
      rw [add_ofNat_succ]
      exact h (k + 1) (by omega)

theorem readByte_writeLE_other {m : Memory} (hw : Memory.wf w m = true) (a : DWord) (n : Nat) :
    ∀ (pa v : DWord), (∀ k < n, physKey w a ≠ physKey w (pa + BitVec.ofNat 64 k)) →
      readByte w (writeLE w m pa v n) a = readByte w m a := by
  induction n generalizing m with
  | zero => intro _ _ _; rfl
  | succ n ih =>
    intro pa v h
    rw [writeLE, ih (wf_writeByte hw _ _)]
    · exact readByte_writeByte_other hw (by simpa using h 0 (by omega)) _
    · intro k hk
      rw [add_ofNat_succ]
      exact h (k + 1) (by omega)

theorem readByte_writeBE_same {m : Memory} (hw : Memory.wf w m = true) (v : DWord) (n : Nat) (hn : n ≤ 8) :
    ∀ pa, ∀ k < n, readByte w (writeBE w m pa v n) (pa + BitVec.ofNat 64 k) = v.extractLsb' (8 * (n - 1 - k)) 8 := by
  induction n generalizing m with
  | zero => intro _ k hk; omega
  | succ n ih =>
    intro pa k hk
    rw [writeBE]
    rcases k with _ | k
    · rw [readByte_writeBE_other (wf_writeByte hw _ _), readByte_writeByte_same hw (by simp)]
      · rfl
      · intro j hj
        rw [add_ofNat_succ]
        exact physKey_add_ne pa (by norm_num) (by omega) (by omega)
    · rw [← add_ofNat_succ, ih (wf_writeByte hw _ _) (by omega) (pa + 1) k (by omega)]
      congr 2; omega

theorem readByte_writeLE_same {m : Memory} (hw : Memory.wf w m = true) (n : Nat) (hn : n ≤ 8) :
    ∀ (pa v : DWord), ∀ k < n, readByte w (writeLE w m pa v n) (pa + BitVec.ofNat 64 k) = v.extractLsb' (8 * k) 8 := by
  induction n generalizing m with
  | zero => intro _ _ k hk; omega
  | succ n ih =>
    intro pa v k hk
    rw [writeLE]
    rcases k with _ | k
    · rw [readByte_writeLE_other (wf_writeByte hw _ _), readByte_writeByte_same hw (by simp)]
      intro j hj
      rw [add_ofNat_succ]
      exact physKey_add_ne pa (by norm_num) (by omega) (by omega)
    · rw [← add_ofNat_succ, ih (wf_writeByte hw _ _) (by omega) (pa + 1) (v >>> 8) k (by omega)]
      apply BitVec.eq_of_getLsbD_eq
      intro j hj
      rw [BitVec.getLsbD_extractLsb', BitVec.getLsbD_extractLsb', BitVec.getLsbD_ushiftRight]
      congr 2; omega

/-- Writing `n` bytes leaves those bytes, in the byte order given, and every other byte as it was. -/
theorem stored_writeMem {s t : State} (hw : Memory.wf s.paWidth s.memory = true) {pa : DWord} {n : Nat} (hn : n ≤ 8) {little : Bool}
    {v : DWord} (ht : t.memory = writeMem s.paWidth s.memory pa n little v)
    (hp : t.paWidth = s.paWidth := by rfl) : Stored s t pa n little v := by
  unfold Stored
  rw [ht, hp]
  refine ⟨rfl, ?_⟩
  unfold writeMem byteLane
  cases little with
  | false => exact ⟨fun k hk => readByte_writeBE_same hw v n hn pa k hk, fun a h => readByte_writeBE_other hw v a n pa h⟩
  | true => exact ⟨fun k hk => readByte_writeLE_same hw n hn pa v k hk, fun a h => readByte_writeLE_other hw a n pa v h⟩

end Sys2Proof.Machine
end

