-- ==== Sys2Proof/Laws/Defaults.lean ====
section
/-! SUPPORT. What the operations that consult a parameter of Config.lean are while the parameter has the spec's default value: no
hardware tablewalk, all physical addresses RAM, unbounded TLBs, no watchpoint, parking at once, no aliased scratchpad register. -/

namespace Sys2Proof.Machine

@[simp] theorem readPhys_eq (s : State) (pa : DWord) (n : Nat) (little : Bool) :
    readPhys s pa n little = readMem s.paWidth s.memory pa n little := rfl

@[simp] theorem writePhys_eq (s : State) (pa : DWord) (n : Nat) (little : Bool) (v : DWord) :
    writePhys s pa n little v = { s with memory := writeMem s.paWidth s.memory pa n little v } := rfl

@[simp] theorem reached_eq (s : State) (t : Target) : reached s t = .ok t := rfl

@[simp] theorem reachedFetch_eq (s : State) (pa : DWord) : reachedFetch s pa = .ok pa := rfl

@[simp] theorem missData_eq (s : State) (acc : Access) (c : Bool) (asi : Byte) (ctx : BitVec 16) (a : DWord) :
    missData s acc c asi ctx a = .error ⟨.fastDataAccessMmuMiss, noteDtag s ⟨false, ctx, a⟩⟩ := rfl

@[simp] theorem missFetch_eq (s : State) (ctx : BitVec 16) (a : DWord) :
    missFetch s ctx a = .error ⟨.fastInstructionAccessMmuMiss, noteItag s ⟨false, ctx, a⟩⟩ := rfl

@[simp] theorem walked_eq (s : State) (acc : Access) (asi : Byte) (a : DWord) : walked s acc asi a = s := rfl

@[simp] theorem vaWatched_eq (s : State) (acc : Access) (asi : Byte) (a : DWord) : vaWatched s acc asi a = false := by
  simp [vaWatched, Config.vaWatch]

@[simp] theorem walkedFetch_eq (s : State) (a : DWord) : walkedFetch s a = s := rfl

@[simp] theorem tlbRoom_itlb (tlb : List TlbEntry) : tlbRoom Config.itlbEntries tlb = tlb := rfl

@[simp] theorem tlbRoom_dtlb (tlb : List TlbEntry) : tlbRoom Config.dtlbEntries tlb = tlb := rfl

@[simp] theorem statusAfter_eq (c : Cmt) (new : DWord) : statusAfter c new = new := rfl

@[simp] theorem cmtWriteIgnored_eq (va : DWord) : cmtWriteIgnored va = false := rfl

@[simp] theorem readHypScratchpad_eq (s : State) (k : BitVec 3) : readHypScratchpad s k = bankRead s.hypScratchpad k := rfl

@[simp] theorem writeHypScratchpad_eq (s : State) (k : BitVec 3) (v : DWord) :
    writeHypScratchpad s k v = { s with hypScratchpad := bankWrite s.hypScratchpad k v } := rfl

end Sys2Proof.Machine
end

