-- ==== Sys2Proof/Laws/State.lean ====
section
/-! SUPPORT. What each update of the state leaves in each field. -/

namespace Sys2Proof.Machine

/-! ### `jump` -/

@[simp] theorem jump_globals (s : State) (pc npc : DWord) (d : Bool) : (jump s pc npc d).globals = s.globals := rfl
@[simp] theorem jump_windows (s : State) (pc npc : DWord) (d : Bool) : (jump s pc npc d).windows = s.windows := rfl
@[simp] theorem jump_pc (s : State) (pc npc : DWord) (d : Bool) : (jump s pc npc d).pc = pc := rfl
@[simp] theorem jump_npc (s : State) (pc npc : DWord) (d : Bool) : (jump s pc npc d).npc = npc := rfl
@[simp] theorem jump_fregs (s : State) (pc npc : DWord) (d : Bool) : (jump s pc npc d).fregs = s.fregs := rfl
@[simp] theorem jump_fsr (s : State) (pc npc : DWord) (d : Bool) : (jump s pc npc d).fsr = s.fsr := rfl
@[simp] theorem jump_y (s : State) (pc npc : DWord) (d : Bool) : (jump s pc npc d).y = s.y := rfl
@[simp] theorem jump_ccr (s : State) (pc npc : DWord) (d : Bool) : (jump s pc npc d).ccr = s.ccr := rfl
@[simp] theorem jump_asi (s : State) (pc npc : DWord) (d : Bool) : (jump s pc npc d).asi = s.asi := rfl
@[simp] theorem jump_tick (s : State) (pc npc : DWord) (d : Bool) : (jump s pc npc d).tick = s.tick := rfl
@[simp] theorem jump_fprs (s : State) (pc npc : DWord) (d : Bool) : (jump s pc npc d).fprs = s.fprs := rfl
@[simp] theorem jump_pcr (s : State) (pc npc : DWord) (d : Bool) : (jump s pc npc d).pcr = s.pcr := rfl
@[simp] theorem jump_pic (s : State) (pc npc : DWord) (d : Bool) : (jump s pc npc d).pic = s.pic := rfl
@[simp] theorem jump_gsr (s : State) (pc npc : DWord) (d : Bool) : (jump s pc npc d).gsr = s.gsr := rfl
@[simp] theorem jump_softint (s : State) (pc npc : DWord) (d : Bool) : (jump s pc npc d).softint = s.softint := rfl
@[simp] theorem jump_tickCmpr (s : State) (pc npc : DWord) (d : Bool) : (jump s pc npc d).tickCmpr = s.tickCmpr := rfl
@[simp] theorem jump_stick (s : State) (pc npc : DWord) (d : Bool) : (jump s pc npc d).stick = s.stick := rfl
@[simp] theorem jump_stickCmpr (s : State) (pc npc : DWord) (d : Bool) : (jump s pc npc d).stickCmpr = s.stickCmpr := rfl
@[simp] theorem jump_win (s : State) (pc npc : DWord) (d : Bool) : (jump s pc npc d).win = s.win := rfl
@[simp] theorem jump_trapStack (s : State) (pc npc : DWord) (d : Bool) : (jump s pc npc d).trapStack = s.trapStack := rfl
@[simp] theorem jump_tba (s : State) (pc npc : DWord) (d : Bool) : (jump s pc npc d).tba = s.tba := rfl
@[simp] theorem jump_pstate (s : State) (pc npc : DWord) (d : Bool) : (jump s pc npc d).pstate = s.pstate := rfl
@[simp] theorem jump_tl (s : State) (pc npc : DWord) (d : Bool) : (jump s pc npc d).tl = s.tl := rfl
@[simp] theorem jump_pil (s : State) (pc npc : DWord) (d : Bool) : (jump s pc npc d).pil = s.pil := rfl
@[simp] theorem jump_gl (s : State) (pc npc : DWord) (d : Bool) : (jump s pc npc d).gl = s.gl := rfl
@[simp] theorem jump_hpstate (s : State) (pc npc : DWord) (d : Bool) : (jump s pc npc d).hpstate = s.hpstate := rfl
@[simp] theorem jump_hsp (s : State) (pc npc : DWord) (d : Bool) : (jump s pc npc d).hsp = s.hsp := rfl
@[simp] theorem jump_htba (s : State) (pc npc : DWord) (d : Bool) : (jump s pc npc d).htba = s.htba := rfl
@[simp] theorem jump_hstickCmpr (s : State) (pc npc : DWord) (d : Bool) : (jump s pc npc d).hstickCmpr = s.hstickCmpr := rfl
@[simp] theorem jump_scratchpad (s : State) (pc npc : DWord) (d : Bool) : (jump s pc npc d).scratchpad = s.scratchpad := rfl
@[simp] theorem jump_hypScratchpad (s : State) (pc npc : DWord) (d : Bool) : (jump s pc npc d).hypScratchpad = s.hypScratchpad := rfl
@[simp] theorem jump_queues (s : State) (pc npc : DWord) (d : Bool) : (jump s pc npc d).queues = s.queues := rfl
@[simp] theorem jump_mmu (s : State) (pc npc : DWord) (d : Bool) : (jump s pc npc d).mmu = s.mmu := rfl
@[simp] theorem jump_cmt (s : State) (pc npc : DWord) (d : Bool) : (jump s pc npc d).cmt = s.cmt := rfl
@[simp] theorem jump_peerIntrIds (s : State) (pc npc : DWord) (d : Bool) : (jump s pc npc d).peerIntrIds = s.peerIntrIds := rfl
@[simp] theorem jump_xirPending (s : State) (pc npc : DWord) (d : Bool) : (jump s pc npc d).xirPending = s.xirPending := rfl
@[simp] theorem jump_errors (s : State) (pc npc : DWord) (d : Bool) : (jump s pc npc d).errors = s.errors := rfl
@[simp] theorem jump_memory (s : State) (pc npc : DWord) (d : Bool) : (jump s pc npc d).memory = s.memory := rfl
@[simp] theorem jump_paWidth (s : State) (pc npc : DWord) (d : Bool) : (jump s pc npc d).paWidth = s.paWidth := rfl
@[simp] theorem jump_chip (s : State) (pc npc : DWord) (d : Bool) : (jump s pc npc d).chip = s.chip := rfl
@[simp] theorem jump_freeCount (s : State) (pc npc : DWord) (d : Bool) : (jump s pc npc d).freeCount = s.freeCount := rfl
@[simp] theorem jump_lastTrap (s : State) (pc npc : DWord) (d : Bool) : (jump s pc npc d).lastTrap = s.lastTrap := rfl
@[simp] theorem jump_delaySlot (s : State) (pc npc : DWord) (d : Bool) : (jump s pc npc d).delaySlot = d := rfl
@[simp] theorem jump_stickWritten (s : State) (pc npc : DWord) (d : Bool) : (jump s pc npc d).stickWritten = s.stickWritten := rfl
@[simp] theorem jump_undefinedCases (s : State) (pc npc : DWord) (d : Bool) : (jump s pc npc d).undefinedCases = s.undefinedCases := rfl

/-! ### `advance` -/

@[simp] theorem advance_globals (s : State) : (advance s).globals = s.globals := rfl
@[simp] theorem advance_windows (s : State) : (advance s).windows = s.windows := rfl
@[simp] theorem advance_pc (s : State) : (advance s).pc = s.npc := rfl
@[simp] theorem advance_npc (s : State) : (advance s).npc = s.npc + 4 := rfl
@[simp] theorem advance_fregs (s : State) : (advance s).fregs = s.fregs := rfl
@[simp] theorem advance_fsr (s : State) : (advance s).fsr = s.fsr := rfl
@[simp] theorem advance_y (s : State) : (advance s).y = s.y := rfl
@[simp] theorem advance_ccr (s : State) : (advance s).ccr = s.ccr := rfl
@[simp] theorem advance_asi (s : State) : (advance s).asi = s.asi := rfl
@[simp] theorem advance_tick (s : State) : (advance s).tick = s.tick := rfl
@[simp] theorem advance_fprs (s : State) : (advance s).fprs = s.fprs := rfl
@[simp] theorem advance_pcr (s : State) : (advance s).pcr = s.pcr := rfl
@[simp] theorem advance_pic (s : State) : (advance s).pic = s.pic := rfl
@[simp] theorem advance_gsr (s : State) : (advance s).gsr = s.gsr := rfl
@[simp] theorem advance_softint (s : State) : (advance s).softint = s.softint := rfl
@[simp] theorem advance_tickCmpr (s : State) : (advance s).tickCmpr = s.tickCmpr := rfl
@[simp] theorem advance_stick (s : State) : (advance s).stick = s.stick := rfl
@[simp] theorem advance_stickCmpr (s : State) : (advance s).stickCmpr = s.stickCmpr := rfl
@[simp] theorem advance_win (s : State) : (advance s).win = s.win := rfl
@[simp] theorem advance_trapStack (s : State) : (advance s).trapStack = s.trapStack := rfl
@[simp] theorem advance_tba (s : State) : (advance s).tba = s.tba := rfl
@[simp] theorem advance_pstate (s : State) : (advance s).pstate = s.pstate := rfl
@[simp] theorem advance_tl (s : State) : (advance s).tl = s.tl := rfl
@[simp] theorem advance_pil (s : State) : (advance s).pil = s.pil := rfl
@[simp] theorem advance_gl (s : State) : (advance s).gl = s.gl := rfl
@[simp] theorem advance_hpstate (s : State) : (advance s).hpstate = s.hpstate := rfl
@[simp] theorem advance_hsp (s : State) : (advance s).hsp = s.hsp := rfl
@[simp] theorem advance_htba (s : State) : (advance s).htba = s.htba := rfl
@[simp] theorem advance_hstickCmpr (s : State) : (advance s).hstickCmpr = s.hstickCmpr := rfl
@[simp] theorem advance_scratchpad (s : State) : (advance s).scratchpad = s.scratchpad := rfl
@[simp] theorem advance_hypScratchpad (s : State) : (advance s).hypScratchpad = s.hypScratchpad := rfl
@[simp] theorem advance_queues (s : State) : (advance s).queues = s.queues := rfl
@[simp] theorem advance_mmu (s : State) : (advance s).mmu = s.mmu := rfl
@[simp] theorem advance_cmt (s : State) : (advance s).cmt = s.cmt := rfl
@[simp] theorem advance_peerIntrIds (s : State) : (advance s).peerIntrIds = s.peerIntrIds := rfl
@[simp] theorem advance_xirPending (s : State) : (advance s).xirPending = s.xirPending := rfl
@[simp] theorem advance_errors (s : State) : (advance s).errors = s.errors := rfl
@[simp] theorem advance_memory (s : State) : (advance s).memory = s.memory := rfl
@[simp] theorem advance_paWidth (s : State) : (advance s).paWidth = s.paWidth := rfl
@[simp] theorem advance_chip (s : State) : (advance s).chip = s.chip := rfl
@[simp] theorem advance_freeCount (s : State) : (advance s).freeCount = s.freeCount := rfl
@[simp] theorem advance_lastTrap (s : State) : (advance s).lastTrap = s.lastTrap := rfl
@[simp] theorem advance_delaySlot (s : State) : (advance s).delaySlot = false := rfl
@[simp] theorem advance_stickWritten (s : State) : (advance s).stickWritten = s.stickWritten := rfl
@[simp] theorem advance_undefinedCases (s : State) : (advance s).undefinedCases = s.undefinedCases := rfl

/-! ### `delayedTransfer` -/

@[simp] theorem delayedTransfer_globals (s : State) (ea : DWord) : (delayedTransfer s ea).globals = s.globals := rfl
@[simp] theorem delayedTransfer_windows (s : State) (ea : DWord) : (delayedTransfer s ea).windows = s.windows := rfl
@[simp] theorem delayedTransfer_pc (s : State) (ea : DWord) : (delayedTransfer s ea).pc = s.npc := rfl
@[simp] theorem delayedTransfer_npc (s : State) (ea : DWord) : (delayedTransfer s ea).npc = ea := rfl
@[simp] theorem delayedTransfer_fregs (s : State) (ea : DWord) : (delayedTransfer s ea).fregs = s.fregs := rfl
@[simp] theorem delayedTransfer_fsr (s : State) (ea : DWord) : (delayedTransfer s ea).fsr = s.fsr := rfl
@[simp] theorem delayedTransfer_y (s : State) (ea : DWord) : (delayedTransfer s ea).y = s.y := rfl
@[simp] theorem delayedTransfer_ccr (s : State) (ea : DWord) : (delayedTransfer s ea).ccr = s.ccr := rfl
@[simp] theorem delayedTransfer_asi (s : State) (ea : DWord) : (delayedTransfer s ea).asi = s.asi := rfl
@[simp] theorem delayedTransfer_tick (s : State) (ea : DWord) : (delayedTransfer s ea).tick = s.tick := rfl
@[simp] theorem delayedTransfer_fprs (s : State) (ea : DWord) : (delayedTransfer s ea).fprs = s.fprs := rfl
@[simp] theorem delayedTransfer_pcr (s : State) (ea : DWord) : (delayedTransfer s ea).pcr = s.pcr := rfl
@[simp] theorem delayedTransfer_pic (s : State) (ea : DWord) : (delayedTransfer s ea).pic = s.pic := rfl
@[simp] theorem delayedTransfer_gsr (s : State) (ea : DWord) : (delayedTransfer s ea).gsr = s.gsr := rfl
@[simp] theorem delayedTransfer_softint (s : State) (ea : DWord) : (delayedTransfer s ea).softint = s.softint := rfl
@[simp] theorem delayedTransfer_tickCmpr (s : State) (ea : DWord) : (delayedTransfer s ea).tickCmpr = s.tickCmpr := rfl
@[simp] theorem delayedTransfer_stick (s : State) (ea : DWord) : (delayedTransfer s ea).stick = s.stick := rfl
@[simp] theorem delayedTransfer_stickCmpr (s : State) (ea : DWord) : (delayedTransfer s ea).stickCmpr = s.stickCmpr := rfl
@[simp] theorem delayedTransfer_win (s : State) (ea : DWord) : (delayedTransfer s ea).win = s.win := rfl
@[simp] theorem delayedTransfer_trapStack (s : State) (ea : DWord) : (delayedTransfer s ea).trapStack = s.trapStack := rfl
@[simp] theorem delayedTransfer_tba (s : State) (ea : DWord) : (delayedTransfer s ea).tba = s.tba := rfl
@[simp] theorem delayedTransfer_pstate (s : State) (ea : DWord) : (delayedTransfer s ea).pstate = s.pstate := rfl
@[simp] theorem delayedTransfer_tl (s : State) (ea : DWord) : (delayedTransfer s ea).tl = s.tl := rfl
@[simp] theorem delayedTransfer_pil (s : State) (ea : DWord) : (delayedTransfer s ea).pil = s.pil := rfl
@[simp] theorem delayedTransfer_gl (s : State) (ea : DWord) : (delayedTransfer s ea).gl = s.gl := rfl
@[simp] theorem delayedTransfer_hpstate (s : State) (ea : DWord) : (delayedTransfer s ea).hpstate = s.hpstate := rfl
@[simp] theorem delayedTransfer_hsp (s : State) (ea : DWord) : (delayedTransfer s ea).hsp = s.hsp := rfl
@[simp] theorem delayedTransfer_htba (s : State) (ea : DWord) : (delayedTransfer s ea).htba = s.htba := rfl
@[simp] theorem delayedTransfer_hstickCmpr (s : State) (ea : DWord) : (delayedTransfer s ea).hstickCmpr = s.hstickCmpr := rfl
@[simp] theorem delayedTransfer_scratchpad (s : State) (ea : DWord) : (delayedTransfer s ea).scratchpad = s.scratchpad := rfl
@[simp] theorem delayedTransfer_hypScratchpad (s : State) (ea : DWord) : (delayedTransfer s ea).hypScratchpad = s.hypScratchpad := rfl
@[simp] theorem delayedTransfer_queues (s : State) (ea : DWord) : (delayedTransfer s ea).queues = s.queues := rfl
@[simp] theorem delayedTransfer_mmu (s : State) (ea : DWord) : (delayedTransfer s ea).mmu = s.mmu := rfl
@[simp] theorem delayedTransfer_cmt (s : State) (ea : DWord) : (delayedTransfer s ea).cmt = s.cmt := rfl
@[simp] theorem delayedTransfer_peerIntrIds (s : State) (ea : DWord) : (delayedTransfer s ea).peerIntrIds = s.peerIntrIds := rfl
@[simp] theorem delayedTransfer_xirPending (s : State) (ea : DWord) : (delayedTransfer s ea).xirPending = s.xirPending := rfl
@[simp] theorem delayedTransfer_errors (s : State) (ea : DWord) : (delayedTransfer s ea).errors = s.errors := rfl
@[simp] theorem delayedTransfer_memory (s : State) (ea : DWord) : (delayedTransfer s ea).memory = s.memory := rfl
@[simp] theorem delayedTransfer_paWidth (s : State) (ea : DWord) : (delayedTransfer s ea).paWidth = s.paWidth := rfl
@[simp] theorem delayedTransfer_chip (s : State) (ea : DWord) : (delayedTransfer s ea).chip = s.chip := rfl
@[simp] theorem delayedTransfer_freeCount (s : State) (ea : DWord) : (delayedTransfer s ea).freeCount = s.freeCount := rfl
@[simp] theorem delayedTransfer_lastTrap (s : State) (ea : DWord) : (delayedTransfer s ea).lastTrap = s.lastTrap := rfl
@[simp] theorem delayedTransfer_delaySlot (s : State) (ea : DWord) : (delayedTransfer s ea).delaySlot = true := rfl
@[simp] theorem delayedTransfer_stickWritten (s : State) (ea : DWord) : (delayedTransfer s ea).stickWritten = s.stickWritten := rfl
@[simp] theorem delayedTransfer_undefinedCases (s : State) (ea : DWord) : (delayedTransfer s ea).undefinedCases = s.undefinedCases := rfl

/-! ### `setR` -/

@[simp] theorem setR_pc (s : State) (rd : BitVec 5) (v : DWord) : (setR s rd v).pc = s.pc := by unfold setR; split <;> [rfl; split <;> rfl]
@[simp] theorem setR_npc (s : State) (rd : BitVec 5) (v : DWord) : (setR s rd v).npc = s.npc := by unfold setR; split <;> [rfl; split <;> rfl]
@[simp] theorem setR_fregs (s : State) (rd : BitVec 5) (v : DWord) : (setR s rd v).fregs = s.fregs := by unfold setR; split <;> [rfl; split <;> rfl]
@[simp] theorem setR_fsr (s : State) (rd : BitVec 5) (v : DWord) : (setR s rd v).fsr = s.fsr := by unfold setR; split <;> [rfl; split <;> rfl]
@[simp] theorem setR_y (s : State) (rd : BitVec 5) (v : DWord) : (setR s rd v).y = s.y := by unfold setR; split <;> [rfl; split <;> rfl]
@[simp] theorem setR_ccr (s : State) (rd : BitVec 5) (v : DWord) : (setR s rd v).ccr = s.ccr := by unfold setR; split <;> [rfl; split <;> rfl]
@[simp] theorem setR_asi (s : State) (rd : BitVec 5) (v : DWord) : (setR s rd v).asi = s.asi := by unfold setR; split <;> [rfl; split <;> rfl]
@[simp] theorem setR_tick (s : State) (rd : BitVec 5) (v : DWord) : (setR s rd v).tick = s.tick := by unfold setR; split <;> [rfl; split <;> rfl]
@[simp] theorem setR_fprs (s : State) (rd : BitVec 5) (v : DWord) : (setR s rd v).fprs = s.fprs := by unfold setR; split <;> [rfl; split <;> rfl]
@[simp] theorem setR_pcr (s : State) (rd : BitVec 5) (v : DWord) : (setR s rd v).pcr = s.pcr := by unfold setR; split <;> [rfl; split <;> rfl]
@[simp] theorem setR_pic (s : State) (rd : BitVec 5) (v : DWord) : (setR s rd v).pic = s.pic := by unfold setR; split <;> [rfl; split <;> rfl]
@[simp] theorem setR_gsr (s : State) (rd : BitVec 5) (v : DWord) : (setR s rd v).gsr = s.gsr := by unfold setR; split <;> [rfl; split <;> rfl]
@[simp] theorem setR_softint (s : State) (rd : BitVec 5) (v : DWord) : (setR s rd v).softint = s.softint := by unfold setR; split <;> [rfl; split <;> rfl]
@[simp] theorem setR_tickCmpr (s : State) (rd : BitVec 5) (v : DWord) : (setR s rd v).tickCmpr = s.tickCmpr := by unfold setR; split <;> [rfl; split <;> rfl]
@[simp] theorem setR_stick (s : State) (rd : BitVec 5) (v : DWord) : (setR s rd v).stick = s.stick := by unfold setR; split <;> [rfl; split <;> rfl]
@[simp] theorem setR_stickCmpr (s : State) (rd : BitVec 5) (v : DWord) : (setR s rd v).stickCmpr = s.stickCmpr := by unfold setR; split <;> [rfl; split <;> rfl]
@[simp] theorem setR_win (s : State) (rd : BitVec 5) (v : DWord) : (setR s rd v).win = s.win := by unfold setR; split <;> [rfl; split <;> rfl]
@[simp] theorem setR_trapStack (s : State) (rd : BitVec 5) (v : DWord) : (setR s rd v).trapStack = s.trapStack := by unfold setR; split <;> [rfl; split <;> rfl]
@[simp] theorem setR_tba (s : State) (rd : BitVec 5) (v : DWord) : (setR s rd v).tba = s.tba := by unfold setR; split <;> [rfl; split <;> rfl]
@[simp] theorem setR_pstate (s : State) (rd : BitVec 5) (v : DWord) : (setR s rd v).pstate = s.pstate := by unfold setR; split <;> [rfl; split <;> rfl]
@[simp] theorem setR_tl (s : State) (rd : BitVec 5) (v : DWord) : (setR s rd v).tl = s.tl := by unfold setR; split <;> [rfl; split <;> rfl]
@[simp] theorem setR_pil (s : State) (rd : BitVec 5) (v : DWord) : (setR s rd v).pil = s.pil := by unfold setR; split <;> [rfl; split <;> rfl]
@[simp] theorem setR_gl (s : State) (rd : BitVec 5) (v : DWord) : (setR s rd v).gl = s.gl := by unfold setR; split <;> [rfl; split <;> rfl]
@[simp] theorem setR_hpstate (s : State) (rd : BitVec 5) (v : DWord) : (setR s rd v).hpstate = s.hpstate := by unfold setR; split <;> [rfl; split <;> rfl]
@[simp] theorem setR_hsp (s : State) (rd : BitVec 5) (v : DWord) : (setR s rd v).hsp = s.hsp := by unfold setR; split <;> [rfl; split <;> rfl]
@[simp] theorem setR_htba (s : State) (rd : BitVec 5) (v : DWord) : (setR s rd v).htba = s.htba := by unfold setR; split <;> [rfl; split <;> rfl]
@[simp] theorem setR_hstickCmpr (s : State) (rd : BitVec 5) (v : DWord) : (setR s rd v).hstickCmpr = s.hstickCmpr := by unfold setR; split <;> [rfl; split <;> rfl]
@[simp] theorem setR_scratchpad (s : State) (rd : BitVec 5) (v : DWord) : (setR s rd v).scratchpad = s.scratchpad := by unfold setR; split <;> [rfl; split <;> rfl]
@[simp] theorem setR_hypScratchpad (s : State) (rd : BitVec 5) (v : DWord) : (setR s rd v).hypScratchpad = s.hypScratchpad := by unfold setR; split <;> [rfl; split <;> rfl]
@[simp] theorem setR_queues (s : State) (rd : BitVec 5) (v : DWord) : (setR s rd v).queues = s.queues := by unfold setR; split <;> [rfl; split <;> rfl]
@[simp] theorem setR_mmu (s : State) (rd : BitVec 5) (v : DWord) : (setR s rd v).mmu = s.mmu := by unfold setR; split <;> [rfl; split <;> rfl]
@[simp] theorem setR_cmt (s : State) (rd : BitVec 5) (v : DWord) : (setR s rd v).cmt = s.cmt := by unfold setR; split <;> [rfl; split <;> rfl]
@[simp] theorem setR_peerIntrIds (s : State) (rd : BitVec 5) (v : DWord) : (setR s rd v).peerIntrIds = s.peerIntrIds := by unfold setR; split <;> [rfl; split <;> rfl]
@[simp] theorem setR_xirPending (s : State) (rd : BitVec 5) (v : DWord) : (setR s rd v).xirPending = s.xirPending := by unfold setR; split <;> [rfl; split <;> rfl]
@[simp] theorem setR_errors (s : State) (rd : BitVec 5) (v : DWord) : (setR s rd v).errors = s.errors := by unfold setR; split <;> [rfl; split <;> rfl]
@[simp] theorem setR_memory (s : State) (rd : BitVec 5) (v : DWord) : (setR s rd v).memory = s.memory := by unfold setR; split <;> [rfl; split <;> rfl]
@[simp] theorem setR_paWidth (s : State) (rd : BitVec 5) (v : DWord) : (setR s rd v).paWidth = s.paWidth := by unfold setR; split <;> [rfl; split <;> rfl]
@[simp] theorem setR_chip (s : State) (rd : BitVec 5) (v : DWord) : (setR s rd v).chip = s.chip := by unfold setR; split <;> [rfl; split <;> rfl]
@[simp] theorem setR_freeCount (s : State) (rd : BitVec 5) (v : DWord) : (setR s rd v).freeCount = s.freeCount := by unfold setR; split <;> [rfl; split <;> rfl]
@[simp] theorem setR_lastTrap (s : State) (rd : BitVec 5) (v : DWord) : (setR s rd v).lastTrap = s.lastTrap := by unfold setR; split <;> [rfl; split <;> rfl]
@[simp] theorem setR_delaySlot (s : State) (rd : BitVec 5) (v : DWord) : (setR s rd v).delaySlot = s.delaySlot := by unfold setR; split <;> [rfl; split <;> rfl]
@[simp] theorem setR_stickWritten (s : State) (rd : BitVec 5) (v : DWord) : (setR s rd v).stickWritten = s.stickWritten := by unfold setR; split <;> [rfl; split <;> rfl]
@[simp] theorem setR_undefinedCases (s : State) (rd : BitVec 5) (v : DWord) : (setR s rd v).undefinedCases = s.undefinedCases := by unfold setR; split <;> [rfl; split <;> rfl]

/-! ### `setCcr` -/

@[simp] theorem setCcr_globals (s : State) (c : Ccr) : (setCcr s c).globals = s.globals := rfl
@[simp] theorem setCcr_windows (s : State) (c : Ccr) : (setCcr s c).windows = s.windows := rfl
@[simp] theorem setCcr_pc (s : State) (c : Ccr) : (setCcr s c).pc = s.pc := rfl
@[simp] theorem setCcr_npc (s : State) (c : Ccr) : (setCcr s c).npc = s.npc := rfl
@[simp] theorem setCcr_fregs (s : State) (c : Ccr) : (setCcr s c).fregs = s.fregs := rfl
@[simp] theorem setCcr_fsr (s : State) (c : Ccr) : (setCcr s c).fsr = s.fsr := rfl
@[simp] theorem setCcr_y (s : State) (c : Ccr) : (setCcr s c).y = s.y := rfl
@[simp] theorem setCcr_ccr (s : State) (c : Ccr) : (setCcr s c).ccr = c := rfl
@[simp] theorem setCcr_asi (s : State) (c : Ccr) : (setCcr s c).asi = s.asi := rfl
@[simp] theorem setCcr_tick (s : State) (c : Ccr) : (setCcr s c).tick = s.tick := rfl
@[simp] theorem setCcr_fprs (s : State) (c : Ccr) : (setCcr s c).fprs = s.fprs := rfl
@[simp] theorem setCcr_pcr (s : State) (c : Ccr) : (setCcr s c).pcr = s.pcr := rfl
@[simp] theorem setCcr_pic (s : State) (c : Ccr) : (setCcr s c).pic = s.pic := rfl
@[simp] theorem setCcr_gsr (s : State) (c : Ccr) : (setCcr s c).gsr = s.gsr := rfl
@[simp] theorem setCcr_softint (s : State) (c : Ccr) : (setCcr s c).softint = s.softint := rfl
@[simp] theorem setCcr_tickCmpr (s : State) (c : Ccr) : (setCcr s c).tickCmpr = s.tickCmpr := rfl
@[simp] theorem setCcr_stick (s : State) (c : Ccr) : (setCcr s c).stick = s.stick := rfl
@[simp] theorem setCcr_stickCmpr (s : State) (c : Ccr) : (setCcr s c).stickCmpr = s.stickCmpr := rfl
@[simp] theorem setCcr_win (s : State) (c : Ccr) : (setCcr s c).win = s.win := rfl
@[simp] theorem setCcr_trapStack (s : State) (c : Ccr) : (setCcr s c).trapStack = s.trapStack := rfl
@[simp] theorem setCcr_tba (s : State) (c : Ccr) : (setCcr s c).tba = s.tba := rfl
@[simp] theorem setCcr_pstate (s : State) (c : Ccr) : (setCcr s c).pstate = s.pstate := rfl
@[simp] theorem setCcr_tl (s : State) (c : Ccr) : (setCcr s c).tl = s.tl := rfl
@[simp] theorem setCcr_pil (s : State) (c : Ccr) : (setCcr s c).pil = s.pil := rfl
@[simp] theorem setCcr_gl (s : State) (c : Ccr) : (setCcr s c).gl = s.gl := rfl
@[simp] theorem setCcr_hpstate (s : State) (c : Ccr) : (setCcr s c).hpstate = s.hpstate := rfl
@[simp] theorem setCcr_hsp (s : State) (c : Ccr) : (setCcr s c).hsp = s.hsp := rfl
@[simp] theorem setCcr_htba (s : State) (c : Ccr) : (setCcr s c).htba = s.htba := rfl
@[simp] theorem setCcr_hstickCmpr (s : State) (c : Ccr) : (setCcr s c).hstickCmpr = s.hstickCmpr := rfl
@[simp] theorem setCcr_scratchpad (s : State) (c : Ccr) : (setCcr s c).scratchpad = s.scratchpad := rfl
@[simp] theorem setCcr_hypScratchpad (s : State) (c : Ccr) : (setCcr s c).hypScratchpad = s.hypScratchpad := rfl
@[simp] theorem setCcr_queues (s : State) (c : Ccr) : (setCcr s c).queues = s.queues := rfl
@[simp] theorem setCcr_mmu (s : State) (c : Ccr) : (setCcr s c).mmu = s.mmu := rfl
@[simp] theorem setCcr_cmt (s : State) (c : Ccr) : (setCcr s c).cmt = s.cmt := rfl
@[simp] theorem setCcr_peerIntrIds (s : State) (c : Ccr) : (setCcr s c).peerIntrIds = s.peerIntrIds := rfl
@[simp] theorem setCcr_xirPending (s : State) (c : Ccr) : (setCcr s c).xirPending = s.xirPending := rfl
@[simp] theorem setCcr_errors (s : State) (c : Ccr) : (setCcr s c).errors = s.errors := rfl
@[simp] theorem setCcr_memory (s : State) (c : Ccr) : (setCcr s c).memory = s.memory := rfl
@[simp] theorem setCcr_paWidth (s : State) (c : Ccr) : (setCcr s c).paWidth = s.paWidth := rfl
@[simp] theorem setCcr_chip (s : State) (c : Ccr) : (setCcr s c).chip = s.chip := rfl
@[simp] theorem setCcr_freeCount (s : State) (c : Ccr) : (setCcr s c).freeCount = s.freeCount := rfl
@[simp] theorem setCcr_lastTrap (s : State) (c : Ccr) : (setCcr s c).lastTrap = s.lastTrap := rfl
@[simp] theorem setCcr_delaySlot (s : State) (c : Ccr) : (setCcr s c).delaySlot = s.delaySlot := rfl
@[simp] theorem setCcr_stickWritten (s : State) (c : Ccr) : (setCcr s c).stickWritten = s.stickWritten := rfl
@[simp] theorem setCcr_undefinedCases (s : State) (c : Ccr) : (setCcr s c).undefinedCases = s.undefinedCases := rfl

/-! ### `setY` -/

@[simp] theorem setY_globals (s : State) (v : Word) : (setY s v).globals = s.globals := rfl
@[simp] theorem setY_windows (s : State) (v : Word) : (setY s v).windows = s.windows := rfl
@[simp] theorem setY_pc (s : State) (v : Word) : (setY s v).pc = s.pc := rfl
@[simp] theorem setY_npc (s : State) (v : Word) : (setY s v).npc = s.npc := rfl
@[simp] theorem setY_fregs (s : State) (v : Word) : (setY s v).fregs = s.fregs := rfl
@[simp] theorem setY_fsr (s : State) (v : Word) : (setY s v).fsr = s.fsr := rfl
@[simp] theorem setY_y (s : State) (v : Word) : (setY s v).y = v := rfl
@[simp] theorem setY_ccr (s : State) (v : Word) : (setY s v).ccr = s.ccr := rfl
@[simp] theorem setY_asi (s : State) (v : Word) : (setY s v).asi = s.asi := rfl
@[simp] theorem setY_tick (s : State) (v : Word) : (setY s v).tick = s.tick := rfl
@[simp] theorem setY_fprs (s : State) (v : Word) : (setY s v).fprs = s.fprs := rfl
@[simp] theorem setY_pcr (s : State) (v : Word) : (setY s v).pcr = s.pcr := rfl
@[simp] theorem setY_pic (s : State) (v : Word) : (setY s v).pic = s.pic := rfl
@[simp] theorem setY_gsr (s : State) (v : Word) : (setY s v).gsr = s.gsr := rfl
@[simp] theorem setY_softint (s : State) (v : Word) : (setY s v).softint = s.softint := rfl
@[simp] theorem setY_tickCmpr (s : State) (v : Word) : (setY s v).tickCmpr = s.tickCmpr := rfl
@[simp] theorem setY_stick (s : State) (v : Word) : (setY s v).stick = s.stick := rfl
@[simp] theorem setY_stickCmpr (s : State) (v : Word) : (setY s v).stickCmpr = s.stickCmpr := rfl
@[simp] theorem setY_win (s : State) (v : Word) : (setY s v).win = s.win := rfl
@[simp] theorem setY_trapStack (s : State) (v : Word) : (setY s v).trapStack = s.trapStack := rfl
@[simp] theorem setY_tba (s : State) (v : Word) : (setY s v).tba = s.tba := rfl
@[simp] theorem setY_pstate (s : State) (v : Word) : (setY s v).pstate = s.pstate := rfl
@[simp] theorem setY_tl (s : State) (v : Word) : (setY s v).tl = s.tl := rfl
@[simp] theorem setY_pil (s : State) (v : Word) : (setY s v).pil = s.pil := rfl
@[simp] theorem setY_gl (s : State) (v : Word) : (setY s v).gl = s.gl := rfl
@[simp] theorem setY_hpstate (s : State) (v : Word) : (setY s v).hpstate = s.hpstate := rfl
@[simp] theorem setY_hsp (s : State) (v : Word) : (setY s v).hsp = s.hsp := rfl
@[simp] theorem setY_htba (s : State) (v : Word) : (setY s v).htba = s.htba := rfl
@[simp] theorem setY_hstickCmpr (s : State) (v : Word) : (setY s v).hstickCmpr = s.hstickCmpr := rfl
@[simp] theorem setY_scratchpad (s : State) (v : Word) : (setY s v).scratchpad = s.scratchpad := rfl
@[simp] theorem setY_hypScratchpad (s : State) (v : Word) : (setY s v).hypScratchpad = s.hypScratchpad := rfl
@[simp] theorem setY_queues (s : State) (v : Word) : (setY s v).queues = s.queues := rfl
@[simp] theorem setY_mmu (s : State) (v : Word) : (setY s v).mmu = s.mmu := rfl
@[simp] theorem setY_cmt (s : State) (v : Word) : (setY s v).cmt = s.cmt := rfl
@[simp] theorem setY_peerIntrIds (s : State) (v : Word) : (setY s v).peerIntrIds = s.peerIntrIds := rfl
@[simp] theorem setY_xirPending (s : State) (v : Word) : (setY s v).xirPending = s.xirPending := rfl
@[simp] theorem setY_errors (s : State) (v : Word) : (setY s v).errors = s.errors := rfl
@[simp] theorem setY_memory (s : State) (v : Word) : (setY s v).memory = s.memory := rfl
@[simp] theorem setY_paWidth (s : State) (v : Word) : (setY s v).paWidth = s.paWidth := rfl
@[simp] theorem setY_chip (s : State) (v : Word) : (setY s v).chip = s.chip := rfl
@[simp] theorem setY_freeCount (s : State) (v : Word) : (setY s v).freeCount = s.freeCount := rfl
@[simp] theorem setY_lastTrap (s : State) (v : Word) : (setY s v).lastTrap = s.lastTrap := rfl
@[simp] theorem setY_delaySlot (s : State) (v : Word) : (setY s v).delaySlot = s.delaySlot := rfl
@[simp] theorem setY_stickWritten (s : State) (v : Word) : (setY s v).stickWritten = s.stickWritten := rfl
@[simp] theorem setY_undefinedCases (s : State) (v : Word) : (setY s v).undefinedCases = s.undefinedCases := rfl

/-! ### `markFS` -/

@[simp] theorem markFS_globals (s : State) : (markFS s).globals = s.globals := rfl
@[simp] theorem markFS_windows (s : State) : (markFS s).windows = s.windows := rfl
@[simp] theorem markFS_pc (s : State) : (markFS s).pc = s.pc := rfl
@[simp] theorem markFS_npc (s : State) : (markFS s).npc = s.npc := rfl
@[simp] theorem markFS_fregs (s : State) : (markFS s).fregs = s.fregs := rfl
@[simp] theorem markFS_fsr (s : State) : (markFS s).fsr = s.fsr := rfl
@[simp] theorem markFS_y (s : State) : (markFS s).y = s.y := rfl
@[simp] theorem markFS_ccr (s : State) : (markFS s).ccr = s.ccr := rfl
@[simp] theorem markFS_asi (s : State) : (markFS s).asi = s.asi := rfl
@[simp] theorem markFS_tick (s : State) : (markFS s).tick = s.tick := rfl
@[simp] theorem markFS_fprs (s : State) : (markFS s).fprs = { s.fprs with dl := true } := rfl
@[simp] theorem markFS_pcr (s : State) : (markFS s).pcr = s.pcr := rfl
@[simp] theorem markFS_pic (s : State) : (markFS s).pic = s.pic := rfl
@[simp] theorem markFS_gsr (s : State) : (markFS s).gsr = s.gsr := rfl
@[simp] theorem markFS_softint (s : State) : (markFS s).softint = s.softint := rfl
@[simp] theorem markFS_tickCmpr (s : State) : (markFS s).tickCmpr = s.tickCmpr := rfl
@[simp] theorem markFS_stick (s : State) : (markFS s).stick = s.stick := rfl
@[simp] theorem markFS_stickCmpr (s : State) : (markFS s).stickCmpr = s.stickCmpr := rfl
@[simp] theorem markFS_win (s : State) : (markFS s).win = s.win := rfl
@[simp] theorem markFS_trapStack (s : State) : (markFS s).trapStack = s.trapStack := rfl
@[simp] theorem markFS_tba (s : State) : (markFS s).tba = s.tba := rfl
@[simp] theorem markFS_pstate (s : State) : (markFS s).pstate = s.pstate := rfl
@[simp] theorem markFS_tl (s : State) : (markFS s).tl = s.tl := rfl
@[simp] theorem markFS_pil (s : State) : (markFS s).pil = s.pil := rfl
@[simp] theorem markFS_gl (s : State) : (markFS s).gl = s.gl := rfl
@[simp] theorem markFS_hpstate (s : State) : (markFS s).hpstate = s.hpstate := rfl
@[simp] theorem markFS_hsp (s : State) : (markFS s).hsp = s.hsp := rfl
@[simp] theorem markFS_htba (s : State) : (markFS s).htba = s.htba := rfl
@[simp] theorem markFS_hstickCmpr (s : State) : (markFS s).hstickCmpr = s.hstickCmpr := rfl
@[simp] theorem markFS_scratchpad (s : State) : (markFS s).scratchpad = s.scratchpad := rfl
@[simp] theorem markFS_hypScratchpad (s : State) : (markFS s).hypScratchpad = s.hypScratchpad := rfl
@[simp] theorem markFS_queues (s : State) : (markFS s).queues = s.queues := rfl
@[simp] theorem markFS_mmu (s : State) : (markFS s).mmu = s.mmu := rfl
@[simp] theorem markFS_cmt (s : State) : (markFS s).cmt = s.cmt := rfl
@[simp] theorem markFS_peerIntrIds (s : State) : (markFS s).peerIntrIds = s.peerIntrIds := rfl
@[simp] theorem markFS_xirPending (s : State) : (markFS s).xirPending = s.xirPending := rfl
@[simp] theorem markFS_errors (s : State) : (markFS s).errors = s.errors := rfl
@[simp] theorem markFS_memory (s : State) : (markFS s).memory = s.memory := rfl
@[simp] theorem markFS_paWidth (s : State) : (markFS s).paWidth = s.paWidth := rfl
@[simp] theorem markFS_chip (s : State) : (markFS s).chip = s.chip := rfl
@[simp] theorem markFS_freeCount (s : State) : (markFS s).freeCount = s.freeCount := rfl
@[simp] theorem markFS_lastTrap (s : State) : (markFS s).lastTrap = s.lastTrap := rfl
@[simp] theorem markFS_delaySlot (s : State) : (markFS s).delaySlot = s.delaySlot := rfl
@[simp] theorem markFS_stickWritten (s : State) : (markFS s).stickWritten = s.stickWritten := rfl
@[simp] theorem markFS_undefinedCases (s : State) : (markFS s).undefinedCases = s.undefinedCases := rfl

/-! ### `markFD` -/

@[simp] theorem markFD_globals (s : State) (rd : BitVec 5) : (markFD s rd).globals = s.globals := by unfold markFD markFDn; split <;> rfl
@[simp] theorem markFD_windows (s : State) (rd : BitVec 5) : (markFD s rd).windows = s.windows := by unfold markFD markFDn; split <;> rfl
@[simp] theorem markFD_pc (s : State) (rd : BitVec 5) : (markFD s rd).pc = s.pc := by unfold markFD markFDn; split <;> rfl
@[simp] theorem markFD_npc (s : State) (rd : BitVec 5) : (markFD s rd).npc = s.npc := by unfold markFD markFDn; split <;> rfl
@[simp] theorem markFD_fregs (s : State) (rd : BitVec 5) : (markFD s rd).fregs = s.fregs := by unfold markFD markFDn; split <;> rfl
@[simp] theorem markFD_fsr (s : State) (rd : BitVec 5) : (markFD s rd).fsr = s.fsr := by unfold markFD markFDn; split <;> rfl
@[simp] theorem markFD_y (s : State) (rd : BitVec 5) : (markFD s rd).y = s.y := by unfold markFD markFDn; split <;> rfl
@[simp] theorem markFD_ccr (s : State) (rd : BitVec 5) : (markFD s rd).ccr = s.ccr := by unfold markFD markFDn; split <;> rfl
@[simp] theorem markFD_asi (s : State) (rd : BitVec 5) : (markFD s rd).asi = s.asi := by unfold markFD markFDn; split <;> rfl
@[simp] theorem markFD_tick (s : State) (rd : BitVec 5) : (markFD s rd).tick = s.tick := by unfold markFD markFDn; split <;> rfl
@[simp] theorem markFD_pcr (s : State) (rd : BitVec 5) : (markFD s rd).pcr = s.pcr := by unfold markFD markFDn; split <;> rfl
@[simp] theorem markFD_pic (s : State) (rd : BitVec 5) : (markFD s rd).pic = s.pic := by unfold markFD markFDn; split <;> rfl
@[simp] theorem markFD_gsr (s : State) (rd : BitVec 5) : (markFD s rd).gsr = s.gsr := by unfold markFD markFDn; split <;> rfl
@[simp] theorem markFD_softint (s : State) (rd : BitVec 5) : (markFD s rd).softint = s.softint := by unfold markFD markFDn; split <;> rfl
@[simp] theorem markFD_tickCmpr (s : State) (rd : BitVec 5) : (markFD s rd).tickCmpr = s.tickCmpr := by unfold markFD markFDn; split <;> rfl
@[simp] theorem markFD_stick (s : State) (rd : BitVec 5) : (markFD s rd).stick = s.stick := by unfold markFD markFDn; split <;> rfl
@[simp] theorem markFD_stickCmpr (s : State) (rd : BitVec 5) : (markFD s rd).stickCmpr = s.stickCmpr := by unfold markFD markFDn; split <;> rfl
@[simp] theorem markFD_win (s : State) (rd : BitVec 5) : (markFD s rd).win = s.win := by unfold markFD markFDn; split <;> rfl
@[simp] theorem markFD_trapStack (s : State) (rd : BitVec 5) : (markFD s rd).trapStack = s.trapStack := by unfold markFD markFDn; split <;> rfl
@[simp] theorem markFD_tba (s : State) (rd : BitVec 5) : (markFD s rd).tba = s.tba := by unfold markFD markFDn; split <;> rfl
@[simp] theorem markFD_pstate (s : State) (rd : BitVec 5) : (markFD s rd).pstate = s.pstate := by unfold markFD markFDn; split <;> rfl
@[simp] theorem markFD_tl (s : State) (rd : BitVec 5) : (markFD s rd).tl = s.tl := by unfold markFD markFDn; split <;> rfl
@[simp] theorem markFD_pil (s : State) (rd : BitVec 5) : (markFD s rd).pil = s.pil := by unfold markFD markFDn; split <;> rfl
@[simp] theorem markFD_gl (s : State) (rd : BitVec 5) : (markFD s rd).gl = s.gl := by unfold markFD markFDn; split <;> rfl
@[simp] theorem markFD_hpstate (s : State) (rd : BitVec 5) : (markFD s rd).hpstate = s.hpstate := by unfold markFD markFDn; split <;> rfl
@[simp] theorem markFD_hsp (s : State) (rd : BitVec 5) : (markFD s rd).hsp = s.hsp := by unfold markFD markFDn; split <;> rfl
@[simp] theorem markFD_htba (s : State) (rd : BitVec 5) : (markFD s rd).htba = s.htba := by unfold markFD markFDn; split <;> rfl
@[simp] theorem markFD_hstickCmpr (s : State) (rd : BitVec 5) : (markFD s rd).hstickCmpr = s.hstickCmpr := by unfold markFD markFDn; split <;> rfl
@[simp] theorem markFD_scratchpad (s : State) (rd : BitVec 5) : (markFD s rd).scratchpad = s.scratchpad := by unfold markFD markFDn; split <;> rfl
@[simp] theorem markFD_hypScratchpad (s : State) (rd : BitVec 5) : (markFD s rd).hypScratchpad = s.hypScratchpad := by unfold markFD markFDn; split <;> rfl
@[simp] theorem markFD_queues (s : State) (rd : BitVec 5) : (markFD s rd).queues = s.queues := by unfold markFD markFDn; split <;> rfl
@[simp] theorem markFD_mmu (s : State) (rd : BitVec 5) : (markFD s rd).mmu = s.mmu := by unfold markFD markFDn; split <;> rfl
@[simp] theorem markFD_cmt (s : State) (rd : BitVec 5) : (markFD s rd).cmt = s.cmt := by unfold markFD markFDn; split <;> rfl
@[simp] theorem markFD_peerIntrIds (s : State) (rd : BitVec 5) : (markFD s rd).peerIntrIds = s.peerIntrIds := by unfold markFD markFDn; split <;> rfl
@[simp] theorem markFD_xirPending (s : State) (rd : BitVec 5) : (markFD s rd).xirPending = s.xirPending := by unfold markFD markFDn; split <;> rfl
@[simp] theorem markFD_errors (s : State) (rd : BitVec 5) : (markFD s rd).errors = s.errors := by unfold markFD markFDn; split <;> rfl
@[simp] theorem markFD_memory (s : State) (rd : BitVec 5) : (markFD s rd).memory = s.memory := by unfold markFD markFDn; split <;> rfl
@[simp] theorem markFD_paWidth (s : State) (rd : BitVec 5) : (markFD s rd).paWidth = s.paWidth := by unfold markFD markFDn; split <;> rfl
@[simp] theorem markFD_chip (s : State) (rd : BitVec 5) : (markFD s rd).chip = s.chip := by unfold markFD markFDn; split <;> rfl
@[simp] theorem markFD_freeCount (s : State) (rd : BitVec 5) : (markFD s rd).freeCount = s.freeCount := by unfold markFD markFDn; split <;> rfl
@[simp] theorem markFD_lastTrap (s : State) (rd : BitVec 5) : (markFD s rd).lastTrap = s.lastTrap := by unfold markFD markFDn; split <;> rfl
@[simp] theorem markFD_delaySlot (s : State) (rd : BitVec 5) : (markFD s rd).delaySlot = s.delaySlot := by unfold markFD markFDn; split <;> rfl
@[simp] theorem markFD_stickWritten (s : State) (rd : BitVec 5) : (markFD s rd).stickWritten = s.stickWritten := by unfold markFD markFDn; split <;> rfl
@[simp] theorem markFD_undefinedCases (s : State) (rd : BitVec 5) : (markFD s rd).undefinedCases = s.undefinedCases := by unfold markFD markFDn; split <;> rfl

/-! ### `setFS` -/

@[simp] theorem setFS_globals (s : State) (rd : BitVec 5) (v : Word) : (setFS s rd v).globals = s.globals := rfl
@[simp] theorem setFS_windows (s : State) (rd : BitVec 5) (v : Word) : (setFS s rd v).windows = s.windows := rfl
@[simp] theorem setFS_pc (s : State) (rd : BitVec 5) (v : Word) : (setFS s rd v).pc = s.pc := rfl
@[simp] theorem setFS_npc (s : State) (rd : BitVec 5) (v : Word) : (setFS s rd v).npc = s.npc := rfl
@[simp] theorem setFS_fregs (s : State) (rd : BitVec 5) (v : Word) : (setFS s rd v).fregs = bankWrite s.fregs (0#1 ++ rd) v := rfl
@[simp] theorem setFS_fsr (s : State) (rd : BitVec 5) (v : Word) : (setFS s rd v).fsr = s.fsr := rfl
@[simp] theorem setFS_y (s : State) (rd : BitVec 5) (v : Word) : (setFS s rd v).y = s.y := rfl
@[simp] theorem setFS_ccr (s : State) (rd : BitVec 5) (v : Word) : (setFS s rd v).ccr = s.ccr := rfl
@[simp] theorem setFS_asi (s : State) (rd : BitVec 5) (v : Word) : (setFS s rd v).asi = s.asi := rfl
@[simp] theorem setFS_tick (s : State) (rd : BitVec 5) (v : Word) : (setFS s rd v).tick = s.tick := rfl
@[simp] theorem setFS_fprs (s : State) (rd : BitVec 5) (v : Word) : (setFS s rd v).fprs = { s.fprs with dl := true } := rfl
@[simp] theorem setFS_pcr (s : State) (rd : BitVec 5) (v : Word) : (setFS s rd v).pcr = s.pcr := rfl
@[simp] theorem setFS_pic (s : State) (rd : BitVec 5) (v : Word) : (setFS s rd v).pic = s.pic := rfl
@[simp] theorem setFS_gsr (s : State) (rd : BitVec 5) (v : Word) : (setFS s rd v).gsr = s.gsr := rfl
@[simp] theorem setFS_softint (s : State) (rd : BitVec 5) (v : Word) : (setFS s rd v).softint = s.softint := rfl
@[simp] theorem setFS_tickCmpr (s : State) (rd : BitVec 5) (v : Word) : (setFS s rd v).tickCmpr = s.tickCmpr := rfl
@[simp] theorem setFS_stick (s : State) (rd : BitVec 5) (v : Word) : (setFS s rd v).stick = s.stick := rfl
@[simp] theorem setFS_stickCmpr (s : State) (rd : BitVec 5) (v : Word) : (setFS s rd v).stickCmpr = s.stickCmpr := rfl
@[simp] theorem setFS_win (s : State) (rd : BitVec 5) (v : Word) : (setFS s rd v).win = s.win := rfl
@[simp] theorem setFS_trapStack (s : State) (rd : BitVec 5) (v : Word) : (setFS s rd v).trapStack = s.trapStack := rfl
@[simp] theorem setFS_tba (s : State) (rd : BitVec 5) (v : Word) : (setFS s rd v).tba = s.tba := rfl
@[simp] theorem setFS_pstate (s : State) (rd : BitVec 5) (v : Word) : (setFS s rd v).pstate = s.pstate := rfl
@[simp] theorem setFS_tl (s : State) (rd : BitVec 5) (v : Word) : (setFS s rd v).tl = s.tl := rfl
@[simp] theorem setFS_pil (s : State) (rd : BitVec 5) (v : Word) : (setFS s rd v).pil = s.pil := rfl
@[simp] theorem setFS_gl (s : State) (rd : BitVec 5) (v : Word) : (setFS s rd v).gl = s.gl := rfl
@[simp] theorem setFS_hpstate (s : State) (rd : BitVec 5) (v : Word) : (setFS s rd v).hpstate = s.hpstate := rfl
@[simp] theorem setFS_hsp (s : State) (rd : BitVec 5) (v : Word) : (setFS s rd v).hsp = s.hsp := rfl
@[simp] theorem setFS_htba (s : State) (rd : BitVec 5) (v : Word) : (setFS s rd v).htba = s.htba := rfl
@[simp] theorem setFS_hstickCmpr (s : State) (rd : BitVec 5) (v : Word) : (setFS s rd v).hstickCmpr = s.hstickCmpr := rfl
@[simp] theorem setFS_scratchpad (s : State) (rd : BitVec 5) (v : Word) : (setFS s rd v).scratchpad = s.scratchpad := rfl
@[simp] theorem setFS_hypScratchpad (s : State) (rd : BitVec 5) (v : Word) : (setFS s rd v).hypScratchpad = s.hypScratchpad := rfl
@[simp] theorem setFS_queues (s : State) (rd : BitVec 5) (v : Word) : (setFS s rd v).queues = s.queues := rfl
@[simp] theorem setFS_mmu (s : State) (rd : BitVec 5) (v : Word) : (setFS s rd v).mmu = s.mmu := rfl
@[simp] theorem setFS_cmt (s : State) (rd : BitVec 5) (v : Word) : (setFS s rd v).cmt = s.cmt := rfl
@[simp] theorem setFS_peerIntrIds (s : State) (rd : BitVec 5) (v : Word) : (setFS s rd v).peerIntrIds = s.peerIntrIds := rfl
@[simp] theorem setFS_xirPending (s : State) (rd : BitVec 5) (v : Word) : (setFS s rd v).xirPending = s.xirPending := rfl
@[simp] theorem setFS_errors (s : State) (rd : BitVec 5) (v : Word) : (setFS s rd v).errors = s.errors := rfl
@[simp] theorem setFS_memory (s : State) (rd : BitVec 5) (v : Word) : (setFS s rd v).memory = s.memory := rfl
@[simp] theorem setFS_paWidth (s : State) (rd : BitVec 5) (v : Word) : (setFS s rd v).paWidth = s.paWidth := rfl
@[simp] theorem setFS_chip (s : State) (rd : BitVec 5) (v : Word) : (setFS s rd v).chip = s.chip := rfl
@[simp] theorem setFS_freeCount (s : State) (rd : BitVec 5) (v : Word) : (setFS s rd v).freeCount = s.freeCount := rfl
@[simp] theorem setFS_lastTrap (s : State) (rd : BitVec 5) (v : Word) : (setFS s rd v).lastTrap = s.lastTrap := rfl
@[simp] theorem setFS_delaySlot (s : State) (rd : BitVec 5) (v : Word) : (setFS s rd v).delaySlot = s.delaySlot := rfl
@[simp] theorem setFS_stickWritten (s : State) (rd : BitVec 5) (v : Word) : (setFS s rd v).stickWritten = s.stickWritten := rfl
@[simp] theorem setFS_undefinedCases (s : State) (rd : BitVec 5) (v : Word) : (setFS s rd v).undefinedCases = s.undefinedCases := rfl

/-! ### `setFDn` -/

@[simp] theorem setFDn_globals (s : State) (d : BitVec 5) (v : DWord) : (setFDn s d v).globals = s.globals := by unfold setFDn markFDn; split <;> rfl
@[simp] theorem setFDn_windows (s : State) (d : BitVec 5) (v : DWord) : (setFDn s d v).windows = s.windows := by unfold setFDn markFDn; split <;> rfl
@[simp] theorem setFDn_pc (s : State) (d : BitVec 5) (v : DWord) : (setFDn s d v).pc = s.pc := by unfold setFDn markFDn; split <;> rfl
@[simp] theorem setFDn_npc (s : State) (d : BitVec 5) (v : DWord) : (setFDn s d v).npc = s.npc := by unfold setFDn markFDn; split <;> rfl
@[simp] theorem setFDn_fregs (s : State) (d : BitVec 5) (v : DWord) : (setFDn s d v).fregs = bankWrite (bankWrite s.fregs (d ++ 0#1) (v.extractLsb' 32 32)) (d ++ 1#1) (v.extractLsb' 0 32) := by unfold setFDn markFDn; split <;> rfl
@[simp] theorem setFDn_fsr (s : State) (d : BitVec 5) (v : DWord) : (setFDn s d v).fsr = s.fsr := by unfold setFDn markFDn; split <;> rfl
@[simp] theorem setFDn_y (s : State) (d : BitVec 5) (v : DWord) : (setFDn s d v).y = s.y := by unfold setFDn markFDn; split <;> rfl
@[simp] theorem setFDn_ccr (s : State) (d : BitVec 5) (v : DWord) : (setFDn s d v).ccr = s.ccr := by unfold setFDn markFDn; split <;> rfl
@[simp] theorem setFDn_asi (s : State) (d : BitVec 5) (v : DWord) : (setFDn s d v).asi = s.asi := by unfold setFDn markFDn; split <;> rfl
@[simp] theorem setFDn_tick (s : State) (d : BitVec 5) (v : DWord) : (setFDn s d v).tick = s.tick := by unfold setFDn markFDn; split <;> rfl
@[simp] theorem setFDn_pcr (s : State) (d : BitVec 5) (v : DWord) : (setFDn s d v).pcr = s.pcr := by unfold setFDn markFDn; split <;> rfl
@[simp] theorem setFDn_pic (s : State) (d : BitVec 5) (v : DWord) : (setFDn s d v).pic = s.pic := by unfold setFDn markFDn; split <;> rfl
@[simp] theorem setFDn_gsr (s : State) (d : BitVec 5) (v : DWord) : (setFDn s d v).gsr = s.gsr := by unfold setFDn markFDn; split <;> rfl
@[simp] theorem setFDn_softint (s : State) (d : BitVec 5) (v : DWord) : (setFDn s d v).softint = s.softint := by unfold setFDn markFDn; split <;> rfl
@[simp] theorem setFDn_tickCmpr (s : State) (d : BitVec 5) (v : DWord) : (setFDn s d v).tickCmpr = s.tickCmpr := by unfold setFDn markFDn; split <;> rfl
@[simp] theorem setFDn_stick (s : State) (d : BitVec 5) (v : DWord) : (setFDn s d v).stick = s.stick := by unfold setFDn markFDn; split <;> rfl
@[simp] theorem setFDn_stickCmpr (s : State) (d : BitVec 5) (v : DWord) : (setFDn s d v).stickCmpr = s.stickCmpr := by unfold setFDn markFDn; split <;> rfl
@[simp] theorem setFDn_win (s : State) (d : BitVec 5) (v : DWord) : (setFDn s d v).win = s.win := by unfold setFDn markFDn; split <;> rfl
@[simp] theorem setFDn_trapStack (s : State) (d : BitVec 5) (v : DWord) : (setFDn s d v).trapStack = s.trapStack := by unfold setFDn markFDn; split <;> rfl
@[simp] theorem setFDn_tba (s : State) (d : BitVec 5) (v : DWord) : (setFDn s d v).tba = s.tba := by unfold setFDn markFDn; split <;> rfl
@[simp] theorem setFDn_pstate (s : State) (d : BitVec 5) (v : DWord) : (setFDn s d v).pstate = s.pstate := by unfold setFDn markFDn; split <;> rfl
@[simp] theorem setFDn_tl (s : State) (d : BitVec 5) (v : DWord) : (setFDn s d v).tl = s.tl := by unfold setFDn markFDn; split <;> rfl
@[simp] theorem setFDn_pil (s : State) (d : BitVec 5) (v : DWord) : (setFDn s d v).pil = s.pil := by unfold setFDn markFDn; split <;> rfl
@[simp] theorem setFDn_gl (s : State) (d : BitVec 5) (v : DWord) : (setFDn s d v).gl = s.gl := by unfold setFDn markFDn; split <;> rfl
@[simp] theorem setFDn_hpstate (s : State) (d : BitVec 5) (v : DWord) : (setFDn s d v).hpstate = s.hpstate := by unfold setFDn markFDn; split <;> rfl
@[simp] theorem setFDn_hsp (s : State) (d : BitVec 5) (v : DWord) : (setFDn s d v).hsp = s.hsp := by unfold setFDn markFDn; split <;> rfl
@[simp] theorem setFDn_htba (s : State) (d : BitVec 5) (v : DWord) : (setFDn s d v).htba = s.htba := by unfold setFDn markFDn; split <;> rfl
@[simp] theorem setFDn_hstickCmpr (s : State) (d : BitVec 5) (v : DWord) : (setFDn s d v).hstickCmpr = s.hstickCmpr := by unfold setFDn markFDn; split <;> rfl
@[simp] theorem setFDn_scratchpad (s : State) (d : BitVec 5) (v : DWord) : (setFDn s d v).scratchpad = s.scratchpad := by unfold setFDn markFDn; split <;> rfl
@[simp] theorem setFDn_hypScratchpad (s : State) (d : BitVec 5) (v : DWord) : (setFDn s d v).hypScratchpad = s.hypScratchpad := by unfold setFDn markFDn; split <;> rfl
@[simp] theorem setFDn_queues (s : State) (d : BitVec 5) (v : DWord) : (setFDn s d v).queues = s.queues := by unfold setFDn markFDn; split <;> rfl
@[simp] theorem setFDn_mmu (s : State) (d : BitVec 5) (v : DWord) : (setFDn s d v).mmu = s.mmu := by unfold setFDn markFDn; split <;> rfl
@[simp] theorem setFDn_cmt (s : State) (d : BitVec 5) (v : DWord) : (setFDn s d v).cmt = s.cmt := by unfold setFDn markFDn; split <;> rfl
@[simp] theorem setFDn_peerIntrIds (s : State) (d : BitVec 5) (v : DWord) : (setFDn s d v).peerIntrIds = s.peerIntrIds := by unfold setFDn markFDn; split <;> rfl
@[simp] theorem setFDn_xirPending (s : State) (d : BitVec 5) (v : DWord) : (setFDn s d v).xirPending = s.xirPending := by unfold setFDn markFDn; split <;> rfl
@[simp] theorem setFDn_errors (s : State) (d : BitVec 5) (v : DWord) : (setFDn s d v).errors = s.errors := by unfold setFDn markFDn; split <;> rfl
@[simp] theorem setFDn_memory (s : State) (d : BitVec 5) (v : DWord) : (setFDn s d v).memory = s.memory := by unfold setFDn markFDn; split <;> rfl
@[simp] theorem setFDn_paWidth (s : State) (d : BitVec 5) (v : DWord) : (setFDn s d v).paWidth = s.paWidth := by unfold setFDn markFDn; split <;> rfl
@[simp] theorem setFDn_chip (s : State) (d : BitVec 5) (v : DWord) : (setFDn s d v).chip = s.chip := by unfold setFDn markFDn; split <;> rfl
@[simp] theorem setFDn_freeCount (s : State) (d : BitVec 5) (v : DWord) : (setFDn s d v).freeCount = s.freeCount := by unfold setFDn markFDn; split <;> rfl
@[simp] theorem setFDn_lastTrap (s : State) (d : BitVec 5) (v : DWord) : (setFDn s d v).lastTrap = s.lastTrap := by unfold setFDn markFDn; split <;> rfl
@[simp] theorem setFDn_delaySlot (s : State) (d : BitVec 5) (v : DWord) : (setFDn s d v).delaySlot = s.delaySlot := by unfold setFDn markFDn; split <;> rfl
@[simp] theorem setFDn_stickWritten (s : State) (d : BitVec 5) (v : DWord) : (setFDn s d v).stickWritten = s.stickWritten := by unfold setFDn markFDn; split <;> rfl
@[simp] theorem setFDn_undefinedCases (s : State) (d : BitVec 5) (v : DWord) : (setFDn s d v).undefinedCases = s.undefinedCases := by unfold setFDn markFDn; split <;> rfl

/-! ### `setFD` -/

@[simp] theorem setFD_globals (s : State) (rd : BitVec 5) (v : DWord) : (setFD s rd v).globals = s.globals := by unfold setFD setFDn markFDn; split <;> rfl
@[simp] theorem setFD_windows (s : State) (rd : BitVec 5) (v : DWord) : (setFD s rd v).windows = s.windows := by unfold setFD setFDn markFDn; split <;> rfl
@[simp] theorem setFD_pc (s : State) (rd : BitVec 5) (v : DWord) : (setFD s rd v).pc = s.pc := by unfold setFD setFDn markFDn; split <;> rfl
@[simp] theorem setFD_npc (s : State) (rd : BitVec 5) (v : DWord) : (setFD s rd v).npc = s.npc := by unfold setFD setFDn markFDn; split <;> rfl
@[simp] theorem setFD_fsr (s : State) (rd : BitVec 5) (v : DWord) : (setFD s rd v).fsr = s.fsr := by unfold setFD setFDn markFDn; split <;> rfl
@[simp] theorem setFD_y (s : State) (rd : BitVec 5) (v : DWord) : (setFD s rd v).y = s.y := by unfold setFD setFDn markFDn; split <;> rfl
@[simp] theorem setFD_ccr (s : State) (rd : BitVec 5) (v : DWord) : (setFD s rd v).ccr = s.ccr := by unfold setFD setFDn markFDn; split <;> rfl
@[simp] theorem setFD_asi (s : State) (rd : BitVec 5) (v : DWord) : (setFD s rd v).asi = s.asi := by unfold setFD setFDn markFDn; split <;> rfl
@[simp] theorem setFD_tick (s : State) (rd : BitVec 5) (v : DWord) : (setFD s rd v).tick = s.tick := by unfold setFD setFDn markFDn; split <;> rfl
@[simp] theorem setFD_pcr (s : State) (rd : BitVec 5) (v : DWord) : (setFD s rd v).pcr = s.pcr := by unfold setFD setFDn markFDn; split <;> rfl
@[simp] theorem setFD_pic (s : State) (rd : BitVec 5) (v : DWord) : (setFD s rd v).pic = s.pic := by unfold setFD setFDn markFDn; split <;> rfl
@[simp] theorem setFD_gsr (s : State) (rd : BitVec 5) (v : DWord) : (setFD s rd v).gsr = s.gsr := by unfold setFD setFDn markFDn; split <;> rfl
@[simp] theorem setFD_softint (s : State) (rd : BitVec 5) (v : DWord) : (setFD s rd v).softint = s.softint := by unfold setFD setFDn markFDn; split <;> rfl
@[simp] theorem setFD_tickCmpr (s : State) (rd : BitVec 5) (v : DWord) : (setFD s rd v).tickCmpr = s.tickCmpr := by unfold setFD setFDn markFDn; split <;> rfl
@[simp] theorem setFD_stick (s : State) (rd : BitVec 5) (v : DWord) : (setFD s rd v).stick = s.stick := by unfold setFD setFDn markFDn; split <;> rfl
@[simp] theorem setFD_stickCmpr (s : State) (rd : BitVec 5) (v : DWord) : (setFD s rd v).stickCmpr = s.stickCmpr := by unfold setFD setFDn markFDn; split <;> rfl
@[simp] theorem setFD_win (s : State) (rd : BitVec 5) (v : DWord) : (setFD s rd v).win = s.win := by unfold setFD setFDn markFDn; split <;> rfl
@[simp] theorem setFD_trapStack (s : State) (rd : BitVec 5) (v : DWord) : (setFD s rd v).trapStack = s.trapStack := by unfold setFD setFDn markFDn; split <;> rfl
@[simp] theorem setFD_tba (s : State) (rd : BitVec 5) (v : DWord) : (setFD s rd v).tba = s.tba := by unfold setFD setFDn markFDn; split <;> rfl
@[simp] theorem setFD_pstate (s : State) (rd : BitVec 5) (v : DWord) : (setFD s rd v).pstate = s.pstate := by unfold setFD setFDn markFDn; split <;> rfl
@[simp] theorem setFD_tl (s : State) (rd : BitVec 5) (v : DWord) : (setFD s rd v).tl = s.tl := by unfold setFD setFDn markFDn; split <;> rfl
@[simp] theorem setFD_pil (s : State) (rd : BitVec 5) (v : DWord) : (setFD s rd v).pil = s.pil := by unfold setFD setFDn markFDn; split <;> rfl
@[simp] theorem setFD_gl (s : State) (rd : BitVec 5) (v : DWord) : (setFD s rd v).gl = s.gl := by unfold setFD setFDn markFDn; split <;> rfl
@[simp] theorem setFD_hpstate (s : State) (rd : BitVec 5) (v : DWord) : (setFD s rd v).hpstate = s.hpstate := by unfold setFD setFDn markFDn; split <;> rfl
@[simp] theorem setFD_hsp (s : State) (rd : BitVec 5) (v : DWord) : (setFD s rd v).hsp = s.hsp := by unfold setFD setFDn markFDn; split <;> rfl
@[simp] theorem setFD_htba (s : State) (rd : BitVec 5) (v : DWord) : (setFD s rd v).htba = s.htba := by unfold setFD setFDn markFDn; split <;> rfl
@[simp] theorem setFD_hstickCmpr (s : State) (rd : BitVec 5) (v : DWord) : (setFD s rd v).hstickCmpr = s.hstickCmpr := by unfold setFD setFDn markFDn; split <;> rfl
@[simp] theorem setFD_scratchpad (s : State) (rd : BitVec 5) (v : DWord) : (setFD s rd v).scratchpad = s.scratchpad := by unfold setFD setFDn markFDn; split <;> rfl
@[simp] theorem setFD_hypScratchpad (s : State) (rd : BitVec 5) (v : DWord) : (setFD s rd v).hypScratchpad = s.hypScratchpad := by unfold setFD setFDn markFDn; split <;> rfl
@[simp] theorem setFD_queues (s : State) (rd : BitVec 5) (v : DWord) : (setFD s rd v).queues = s.queues := by unfold setFD setFDn markFDn; split <;> rfl
@[simp] theorem setFD_mmu (s : State) (rd : BitVec 5) (v : DWord) : (setFD s rd v).mmu = s.mmu := by unfold setFD setFDn markFDn; split <;> rfl
@[simp] theorem setFD_cmt (s : State) (rd : BitVec 5) (v : DWord) : (setFD s rd v).cmt = s.cmt := by unfold setFD setFDn markFDn; split <;> rfl
@[simp] theorem setFD_peerIntrIds (s : State) (rd : BitVec 5) (v : DWord) : (setFD s rd v).peerIntrIds = s.peerIntrIds := by unfold setFD setFDn markFDn; split <;> rfl
@[simp] theorem setFD_xirPending (s : State) (rd : BitVec 5) (v : DWord) : (setFD s rd v).xirPending = s.xirPending := by unfold setFD setFDn markFDn; split <;> rfl
@[simp] theorem setFD_errors (s : State) (rd : BitVec 5) (v : DWord) : (setFD s rd v).errors = s.errors := by unfold setFD setFDn markFDn; split <;> rfl
@[simp] theorem setFD_memory (s : State) (rd : BitVec 5) (v : DWord) : (setFD s rd v).memory = s.memory := by unfold setFD setFDn markFDn; split <;> rfl
@[simp] theorem setFD_paWidth (s : State) (rd : BitVec 5) (v : DWord) : (setFD s rd v).paWidth = s.paWidth := by unfold setFD setFDn markFDn; split <;> rfl
@[simp] theorem setFD_chip (s : State) (rd : BitVec 5) (v : DWord) : (setFD s rd v).chip = s.chip := by unfold setFD setFDn markFDn; split <;> rfl
@[simp] theorem setFD_freeCount (s : State) (rd : BitVec 5) (v : DWord) : (setFD s rd v).freeCount = s.freeCount := by unfold setFD setFDn markFDn; split <;> rfl
@[simp] theorem setFD_lastTrap (s : State) (rd : BitVec 5) (v : DWord) : (setFD s rd v).lastTrap = s.lastTrap := by unfold setFD setFDn markFDn; split <;> rfl
@[simp] theorem setFD_delaySlot (s : State) (rd : BitVec 5) (v : DWord) : (setFD s rd v).delaySlot = s.delaySlot := by unfold setFD setFDn markFDn; split <;> rfl
@[simp] theorem setFD_stickWritten (s : State) (rd : BitVec 5) (v : DWord) : (setFD s rd v).stickWritten = s.stickWritten := by unfold setFD setFDn markFDn; split <;> rfl
@[simp] theorem setFD_undefinedCases (s : State) (rd : BitVec 5) (v : DWord) : (setFD s rd v).undefinedCases = s.undefinedCases := by unfold setFD setFDn markFDn; split <;> rfl

/-! ### `drawn` -/

@[simp] theorem drawn_globals (s : State) : (drawn s).globals = s.globals := rfl
@[simp] theorem drawn_windows (s : State) : (drawn s).windows = s.windows := rfl
@[simp] theorem drawn_pc (s : State) : (drawn s).pc = s.pc := rfl
@[simp] theorem drawn_npc (s : State) : (drawn s).npc = s.npc := rfl
@[simp] theorem drawn_fregs (s : State) : (drawn s).fregs = s.fregs := rfl
@[simp] theorem drawn_fsr (s : State) : (drawn s).fsr = s.fsr := rfl
@[simp] theorem drawn_y (s : State) : (drawn s).y = s.y := rfl
@[simp] theorem drawn_ccr (s : State) : (drawn s).ccr = s.ccr := rfl
@[simp] theorem drawn_asi (s : State) : (drawn s).asi = s.asi := rfl
@[simp] theorem drawn_tick (s : State) : (drawn s).tick = s.tick := rfl
@[simp] theorem drawn_fprs (s : State) : (drawn s).fprs = s.fprs := rfl
@[simp] theorem drawn_pcr (s : State) : (drawn s).pcr = s.pcr := rfl
@[simp] theorem drawn_pic (s : State) : (drawn s).pic = s.pic := rfl
@[simp] theorem drawn_gsr (s : State) : (drawn s).gsr = s.gsr := rfl
@[simp] theorem drawn_softint (s : State) : (drawn s).softint = s.softint := rfl
@[simp] theorem drawn_tickCmpr (s : State) : (drawn s).tickCmpr = s.tickCmpr := rfl
@[simp] theorem drawn_stick (s : State) : (drawn s).stick = s.stick := rfl
@[simp] theorem drawn_stickCmpr (s : State) : (drawn s).stickCmpr = s.stickCmpr := rfl
@[simp] theorem drawn_win (s : State) : (drawn s).win = s.win := rfl
@[simp] theorem drawn_trapStack (s : State) : (drawn s).trapStack = s.trapStack := rfl
@[simp] theorem drawn_tba (s : State) : (drawn s).tba = s.tba := rfl
@[simp] theorem drawn_pstate (s : State) : (drawn s).pstate = s.pstate := rfl
@[simp] theorem drawn_tl (s : State) : (drawn s).tl = s.tl := rfl
@[simp] theorem drawn_pil (s : State) : (drawn s).pil = s.pil := rfl
@[simp] theorem drawn_gl (s : State) : (drawn s).gl = s.gl := rfl
@[simp] theorem drawn_hpstate (s : State) : (drawn s).hpstate = s.hpstate := rfl
@[simp] theorem drawn_hsp (s : State) : (drawn s).hsp = s.hsp := rfl
@[simp] theorem drawn_htba (s : State) : (drawn s).htba = s.htba := rfl
@[simp] theorem drawn_hstickCmpr (s : State) : (drawn s).hstickCmpr = s.hstickCmpr := rfl
@[simp] theorem drawn_scratchpad (s : State) : (drawn s).scratchpad = s.scratchpad := rfl
@[simp] theorem drawn_hypScratchpad (s : State) : (drawn s).hypScratchpad = s.hypScratchpad := rfl
@[simp] theorem drawn_queues (s : State) : (drawn s).queues = s.queues := rfl
@[simp] theorem drawn_mmu (s : State) : (drawn s).mmu = s.mmu := rfl
@[simp] theorem drawn_cmt (s : State) : (drawn s).cmt = s.cmt := rfl
@[simp] theorem drawn_peerIntrIds (s : State) : (drawn s).peerIntrIds = s.peerIntrIds := rfl
@[simp] theorem drawn_xirPending (s : State) : (drawn s).xirPending = s.xirPending := rfl
@[simp] theorem drawn_errors (s : State) : (drawn s).errors = s.errors := rfl
@[simp] theorem drawn_memory (s : State) : (drawn s).memory = s.memory := rfl
@[simp] theorem drawn_paWidth (s : State) : (drawn s).paWidth = s.paWidth := rfl
@[simp] theorem drawn_chip (s : State) : (drawn s).chip = s.chip := rfl
@[simp] theorem drawn_freeCount (s : State) : (drawn s).freeCount = s.freeCount + 1 := rfl
@[simp] theorem drawn_lastTrap (s : State) : (drawn s).lastTrap = s.lastTrap := rfl
@[simp] theorem drawn_delaySlot (s : State) : (drawn s).delaySlot = s.delaySlot := rfl
@[simp] theorem drawn_stickWritten (s : State) : (drawn s).stickWritten = s.stickWritten := rfl
@[simp] theorem drawn_undefinedCases (s : State) : (drawn s).undefinedCases = s.undefinedCases := rfl

/-! ### `setFrame` -/

@[simp] theorem setFrame_globals (s : State) (n : BitVec 3) (f : TrapFrame) : (setFrame s n f).globals = s.globals := rfl
@[simp] theorem setFrame_windows (s : State) (n : BitVec 3) (f : TrapFrame) : (setFrame s n f).windows = s.windows := rfl
@[simp] theorem setFrame_pc (s : State) (n : BitVec 3) (f : TrapFrame) : (setFrame s n f).pc = s.pc := rfl
@[simp] theorem setFrame_npc (s : State) (n : BitVec 3) (f : TrapFrame) : (setFrame s n f).npc = s.npc := rfl
@[simp] theorem setFrame_fregs (s : State) (n : BitVec 3) (f : TrapFrame) : (setFrame s n f).fregs = s.fregs := rfl
@[simp] theorem setFrame_fsr (s : State) (n : BitVec 3) (f : TrapFrame) : (setFrame s n f).fsr = s.fsr := rfl
@[simp] theorem setFrame_y (s : State) (n : BitVec 3) (f : TrapFrame) : (setFrame s n f).y = s.y := rfl
@[simp] theorem setFrame_ccr (s : State) (n : BitVec 3) (f : TrapFrame) : (setFrame s n f).ccr = s.ccr := rfl
@[simp] theorem setFrame_asi (s : State) (n : BitVec 3) (f : TrapFrame) : (setFrame s n f).asi = s.asi := rfl
@[simp] theorem setFrame_tick (s : State) (n : BitVec 3) (f : TrapFrame) : (setFrame s n f).tick = s.tick := rfl
@[simp] theorem setFrame_fprs (s : State) (n : BitVec 3) (f : TrapFrame) : (setFrame s n f).fprs = s.fprs := rfl
@[simp] theorem setFrame_pcr (s : State) (n : BitVec 3) (f : TrapFrame) : (setFrame s n f).pcr = s.pcr := rfl
@[simp] theorem setFrame_pic (s : State) (n : BitVec 3) (f : TrapFrame) : (setFrame s n f).pic = s.pic := rfl
@[simp] theorem setFrame_gsr (s : State) (n : BitVec 3) (f : TrapFrame) : (setFrame s n f).gsr = s.gsr := rfl
@[simp] theorem setFrame_softint (s : State) (n : BitVec 3) (f : TrapFrame) : (setFrame s n f).softint = s.softint := rfl
@[simp] theorem setFrame_tickCmpr (s : State) (n : BitVec 3) (f : TrapFrame) : (setFrame s n f).tickCmpr = s.tickCmpr := rfl
@[simp] theorem setFrame_stick (s : State) (n : BitVec 3) (f : TrapFrame) : (setFrame s n f).stick = s.stick := rfl
@[simp] theorem setFrame_stickCmpr (s : State) (n : BitVec 3) (f : TrapFrame) : (setFrame s n f).stickCmpr = s.stickCmpr := rfl
@[simp] theorem setFrame_win (s : State) (n : BitVec 3) (f : TrapFrame) : (setFrame s n f).win = s.win := rfl
@[simp] theorem setFrame_trapStack (s : State) (n : BitVec 3) (f : TrapFrame) : (setFrame s n f).trapStack = s.trapStack.set n.toNat f n.isLt := rfl
@[simp] theorem setFrame_tba (s : State) (n : BitVec 3) (f : TrapFrame) : (setFrame s n f).tba = s.tba := rfl
@[simp] theorem setFrame_pstate (s : State) (n : BitVec 3) (f : TrapFrame) : (setFrame s n f).pstate = s.pstate := rfl
@[simp] theorem setFrame_tl (s : State) (n : BitVec 3) (f : TrapFrame) : (setFrame s n f).tl = s.tl := rfl
@[simp] theorem setFrame_pil (s : State) (n : BitVec 3) (f : TrapFrame) : (setFrame s n f).pil = s.pil := rfl
@[simp] theorem setFrame_gl (s : State) (n : BitVec 3) (f : TrapFrame) : (setFrame s n f).gl = s.gl := rfl
@[simp] theorem setFrame_hpstate (s : State) (n : BitVec 3) (f : TrapFrame) : (setFrame s n f).hpstate = s.hpstate := rfl
@[simp] theorem setFrame_hsp (s : State) (n : BitVec 3) (f : TrapFrame) : (setFrame s n f).hsp = s.hsp := rfl
@[simp] theorem setFrame_htba (s : State) (n : BitVec 3) (f : TrapFrame) : (setFrame s n f).htba = s.htba := rfl
@[simp] theorem setFrame_hstickCmpr (s : State) (n : BitVec 3) (f : TrapFrame) : (setFrame s n f).hstickCmpr = s.hstickCmpr := rfl
@[simp] theorem setFrame_scratchpad (s : State) (n : BitVec 3) (f : TrapFrame) : (setFrame s n f).scratchpad = s.scratchpad := rfl
@[simp] theorem setFrame_hypScratchpad (s : State) (n : BitVec 3) (f : TrapFrame) : (setFrame s n f).hypScratchpad = s.hypScratchpad := rfl
@[simp] theorem setFrame_queues (s : State) (n : BitVec 3) (f : TrapFrame) : (setFrame s n f).queues = s.queues := rfl
@[simp] theorem setFrame_mmu (s : State) (n : BitVec 3) (f : TrapFrame) : (setFrame s n f).mmu = s.mmu := rfl
@[simp] theorem setFrame_cmt (s : State) (n : BitVec 3) (f : TrapFrame) : (setFrame s n f).cmt = s.cmt := rfl
@[simp] theorem setFrame_peerIntrIds (s : State) (n : BitVec 3) (f : TrapFrame) : (setFrame s n f).peerIntrIds = s.peerIntrIds := rfl
@[simp] theorem setFrame_xirPending (s : State) (n : BitVec 3) (f : TrapFrame) : (setFrame s n f).xirPending = s.xirPending := rfl
@[simp] theorem setFrame_errors (s : State) (n : BitVec 3) (f : TrapFrame) : (setFrame s n f).errors = s.errors := rfl
@[simp] theorem setFrame_memory (s : State) (n : BitVec 3) (f : TrapFrame) : (setFrame s n f).memory = s.memory := rfl
@[simp] theorem setFrame_paWidth (s : State) (n : BitVec 3) (f : TrapFrame) : (setFrame s n f).paWidth = s.paWidth := rfl
@[simp] theorem setFrame_chip (s : State) (n : BitVec 3) (f : TrapFrame) : (setFrame s n f).chip = s.chip := rfl
@[simp] theorem setFrame_freeCount (s : State) (n : BitVec 3) (f : TrapFrame) : (setFrame s n f).freeCount = s.freeCount := rfl
@[simp] theorem setFrame_lastTrap (s : State) (n : BitVec 3) (f : TrapFrame) : (setFrame s n f).lastTrap = s.lastTrap := rfl
@[simp] theorem setFrame_delaySlot (s : State) (n : BitVec 3) (f : TrapFrame) : (setFrame s n f).delaySlot = s.delaySlot := rfl
@[simp] theorem setFrame_stickWritten (s : State) (n : BitVec 3) (f : TrapFrame) : (setFrame s n f).stickWritten = s.stickWritten := rfl
@[simp] theorem setFrame_undefinedCases (s : State) (n : BitVec 3) (f : TrapFrame) : (setFrame s n f).undefinedCases = s.undefinedCases := rfl

/-! ### `noteDsfar` -/

@[simp] theorem noteDsfar_globals (s : State) (a : DWord) : (noteDsfar s a).globals = s.globals := rfl
@[simp] theorem noteDsfar_windows (s : State) (a : DWord) : (noteDsfar s a).windows = s.windows := rfl
@[simp] theorem noteDsfar_pc (s : State) (a : DWord) : (noteDsfar s a).pc = s.pc := rfl
@[simp] theorem noteDsfar_npc (s : State) (a : DWord) : (noteDsfar s a).npc = s.npc := rfl
@[simp] theorem noteDsfar_fregs (s : State) (a : DWord) : (noteDsfar s a).fregs = s.fregs := rfl
@[simp] theorem noteDsfar_fsr (s : State) (a : DWord) : (noteDsfar s a).fsr = s.fsr := rfl
@[simp] theorem noteDsfar_y (s : State) (a : DWord) : (noteDsfar s a).y = s.y := rfl
@[simp] theorem noteDsfar_ccr (s : State) (a : DWord) : (noteDsfar s a).ccr = s.ccr := rfl
@[simp] theorem noteDsfar_asi (s : State) (a : DWord) : (noteDsfar s a).asi = s.asi := rfl
@[simp] theorem noteDsfar_tick (s : State) (a : DWord) : (noteDsfar s a).tick = s.tick := rfl
@[simp] theorem noteDsfar_fprs (s : State) (a : DWord) : (noteDsfar s a).fprs = s.fprs := rfl
@[simp] theorem noteDsfar_pcr (s : State) (a : DWord) : (noteDsfar s a).pcr = s.pcr := rfl
@[simp] theorem noteDsfar_pic (s : State) (a : DWord) : (noteDsfar s a).pic = s.pic := rfl
@[simp] theorem noteDsfar_gsr (s : State) (a : DWord) : (noteDsfar s a).gsr = s.gsr := rfl
@[simp] theorem noteDsfar_softint (s : State) (a : DWord) : (noteDsfar s a).softint = s.softint := rfl
@[simp] theorem noteDsfar_tickCmpr (s : State) (a : DWord) : (noteDsfar s a).tickCmpr = s.tickCmpr := rfl
@[simp] theorem noteDsfar_stick (s : State) (a : DWord) : (noteDsfar s a).stick = s.stick := rfl
@[simp] theorem noteDsfar_stickCmpr (s : State) (a : DWord) : (noteDsfar s a).stickCmpr = s.stickCmpr := rfl
@[simp] theorem noteDsfar_win (s : State) (a : DWord) : (noteDsfar s a).win = s.win := rfl
@[simp] theorem noteDsfar_trapStack (s : State) (a : DWord) : (noteDsfar s a).trapStack = s.trapStack := rfl
@[simp] theorem noteDsfar_tba (s : State) (a : DWord) : (noteDsfar s a).tba = s.tba := rfl
@[simp] theorem noteDsfar_pstate (s : State) (a : DWord) : (noteDsfar s a).pstate = s.pstate := rfl
@[simp] theorem noteDsfar_tl (s : State) (a : DWord) : (noteDsfar s a).tl = s.tl := rfl
@[simp] theorem noteDsfar_pil (s : State) (a : DWord) : (noteDsfar s a).pil = s.pil := rfl
@[simp] theorem noteDsfar_gl (s : State) (a : DWord) : (noteDsfar s a).gl = s.gl := rfl
@[simp] theorem noteDsfar_hpstate (s : State) (a : DWord) : (noteDsfar s a).hpstate = s.hpstate := rfl
@[simp] theorem noteDsfar_hsp (s : State) (a : DWord) : (noteDsfar s a).hsp = s.hsp := rfl
@[simp] theorem noteDsfar_htba (s : State) (a : DWord) : (noteDsfar s a).htba = s.htba := rfl
@[simp] theorem noteDsfar_hstickCmpr (s : State) (a : DWord) : (noteDsfar s a).hstickCmpr = s.hstickCmpr := rfl
@[simp] theorem noteDsfar_scratchpad (s : State) (a : DWord) : (noteDsfar s a).scratchpad = s.scratchpad := rfl
@[simp] theorem noteDsfar_hypScratchpad (s : State) (a : DWord) : (noteDsfar s a).hypScratchpad = s.hypScratchpad := rfl
@[simp] theorem noteDsfar_queues (s : State) (a : DWord) : (noteDsfar s a).queues = s.queues := rfl
@[simp] theorem noteDsfar_mmu (s : State) (a : DWord) : (noteDsfar s a).mmu = { s.mmu with dsfar := a } := rfl
@[simp] theorem noteDsfar_cmt (s : State) (a : DWord) : (noteDsfar s a).cmt = s.cmt := rfl
@[simp] theorem noteDsfar_peerIntrIds (s : State) (a : DWord) : (noteDsfar s a).peerIntrIds = s.peerIntrIds := rfl
@[simp] theorem noteDsfar_xirPending (s : State) (a : DWord) : (noteDsfar s a).xirPending = s.xirPending := rfl
@[simp] theorem noteDsfar_errors (s : State) (a : DWord) : (noteDsfar s a).errors = s.errors := rfl
@[simp] theorem noteDsfar_memory (s : State) (a : DWord) : (noteDsfar s a).memory = s.memory := rfl
@[simp] theorem noteDsfar_paWidth (s : State) (a : DWord) : (noteDsfar s a).paWidth = s.paWidth := rfl
@[simp] theorem noteDsfar_chip (s : State) (a : DWord) : (noteDsfar s a).chip = s.chip := rfl
@[simp] theorem noteDsfar_freeCount (s : State) (a : DWord) : (noteDsfar s a).freeCount = s.freeCount := rfl
@[simp] theorem noteDsfar_lastTrap (s : State) (a : DWord) : (noteDsfar s a).lastTrap = s.lastTrap := rfl
@[simp] theorem noteDsfar_delaySlot (s : State) (a : DWord) : (noteDsfar s a).delaySlot = s.delaySlot := rfl
@[simp] theorem noteDsfar_stickWritten (s : State) (a : DWord) : (noteDsfar s a).stickWritten = s.stickWritten := rfl
@[simp] theorem noteDsfar_undefinedCases (s : State) (a : DWord) : (noteDsfar s a).undefinedCases = s.undefinedCases := rfl

/-! ### `noteDtag` -/

@[simp] theorem noteDtag_globals (s : State) (g : TlbTag) : (noteDtag s g).globals = s.globals := rfl
@[simp] theorem noteDtag_windows (s : State) (g : TlbTag) : (noteDtag s g).windows = s.windows := rfl
@[simp] theorem noteDtag_pc (s : State) (g : TlbTag) : (noteDtag s g).pc = s.pc := rfl
@[simp] theorem noteDtag_npc (s : State) (g : TlbTag) : (noteDtag s g).npc = s.npc := rfl
@[simp] theorem noteDtag_fregs (s : State) (g : TlbTag) : (noteDtag s g).fregs = s.fregs := rfl
@[simp] theorem noteDtag_fsr (s : State) (g : TlbTag) : (noteDtag s g).fsr = s.fsr := rfl
@[simp] theorem noteDtag_y (s : State) (g : TlbTag) : (noteDtag s g).y = s.y := rfl
@[simp] theorem noteDtag_ccr (s : State) (g : TlbTag) : (noteDtag s g).ccr = s.ccr := rfl
@[simp] theorem noteDtag_asi (s : State) (g : TlbTag) : (noteDtag s g).asi = s.asi := rfl
@[simp] theorem noteDtag_tick (s : State) (g : TlbTag) : (noteDtag s g).tick = s.tick := rfl
@[simp] theorem noteDtag_fprs (s : State) (g : TlbTag) : (noteDtag s g).fprs = s.fprs := rfl
@[simp] theorem noteDtag_pcr (s : State) (g : TlbTag) : (noteDtag s g).pcr = s.pcr := rfl
@[simp] theorem noteDtag_pic (s : State) (g : TlbTag) : (noteDtag s g).pic = s.pic := rfl
@[simp] theorem noteDtag_gsr (s : State) (g : TlbTag) : (noteDtag s g).gsr = s.gsr := rfl
@[simp] theorem noteDtag_softint (s : State) (g : TlbTag) : (noteDtag s g).softint = s.softint := rfl
@[simp] theorem noteDtag_tickCmpr (s : State) (g : TlbTag) : (noteDtag s g).tickCmpr = s.tickCmpr := rfl
@[simp] theorem noteDtag_stick (s : State) (g : TlbTag) : (noteDtag s g).stick = s.stick := rfl
@[simp] theorem noteDtag_stickCmpr (s : State) (g : TlbTag) : (noteDtag s g).stickCmpr = s.stickCmpr := rfl
@[simp] theorem noteDtag_win (s : State) (g : TlbTag) : (noteDtag s g).win = s.win := rfl
@[simp] theorem noteDtag_trapStack (s : State) (g : TlbTag) : (noteDtag s g).trapStack = s.trapStack := rfl
@[simp] theorem noteDtag_tba (s : State) (g : TlbTag) : (noteDtag s g).tba = s.tba := rfl
@[simp] theorem noteDtag_pstate (s : State) (g : TlbTag) : (noteDtag s g).pstate = s.pstate := rfl
@[simp] theorem noteDtag_tl (s : State) (g : TlbTag) : (noteDtag s g).tl = s.tl := rfl
@[simp] theorem noteDtag_pil (s : State) (g : TlbTag) : (noteDtag s g).pil = s.pil := rfl
@[simp] theorem noteDtag_gl (s : State) (g : TlbTag) : (noteDtag s g).gl = s.gl := rfl
@[simp] theorem noteDtag_hpstate (s : State) (g : TlbTag) : (noteDtag s g).hpstate = s.hpstate := rfl
@[simp] theorem noteDtag_hsp (s : State) (g : TlbTag) : (noteDtag s g).hsp = s.hsp := rfl
@[simp] theorem noteDtag_htba (s : State) (g : TlbTag) : (noteDtag s g).htba = s.htba := rfl
@[simp] theorem noteDtag_hstickCmpr (s : State) (g : TlbTag) : (noteDtag s g).hstickCmpr = s.hstickCmpr := rfl
@[simp] theorem noteDtag_scratchpad (s : State) (g : TlbTag) : (noteDtag s g).scratchpad = s.scratchpad := rfl
@[simp] theorem noteDtag_hypScratchpad (s : State) (g : TlbTag) : (noteDtag s g).hypScratchpad = s.hypScratchpad := rfl
@[simp] theorem noteDtag_queues (s : State) (g : TlbTag) : (noteDtag s g).queues = s.queues := rfl
@[simp] theorem noteDtag_mmu (s : State) (g : TlbTag) : (noteDtag s g).mmu = { s.mmu with dsfar := g.address, dtagAccess := Config.tagAccessEncode g } := rfl
@[simp] theorem noteDtag_cmt (s : State) (g : TlbTag) : (noteDtag s g).cmt = s.cmt := rfl
@[simp] theorem noteDtag_peerIntrIds (s : State) (g : TlbTag) : (noteDtag s g).peerIntrIds = s.peerIntrIds := rfl
@[simp] theorem noteDtag_xirPending (s : State) (g : TlbTag) : (noteDtag s g).xirPending = s.xirPending := rfl
@[simp] theorem noteDtag_errors (s : State) (g : TlbTag) : (noteDtag s g).errors = s.errors := rfl
@[simp] theorem noteDtag_memory (s : State) (g : TlbTag) : (noteDtag s g).memory = s.memory := rfl
@[simp] theorem noteDtag_paWidth (s : State) (g : TlbTag) : (noteDtag s g).paWidth = s.paWidth := rfl
@[simp] theorem noteDtag_chip (s : State) (g : TlbTag) : (noteDtag s g).chip = s.chip := rfl
@[simp] theorem noteDtag_freeCount (s : State) (g : TlbTag) : (noteDtag s g).freeCount = s.freeCount := rfl
@[simp] theorem noteDtag_lastTrap (s : State) (g : TlbTag) : (noteDtag s g).lastTrap = s.lastTrap := rfl
@[simp] theorem noteDtag_delaySlot (s : State) (g : TlbTag) : (noteDtag s g).delaySlot = s.delaySlot := rfl
@[simp] theorem noteDtag_stickWritten (s : State) (g : TlbTag) : (noteDtag s g).stickWritten = s.stickWritten := rfl
@[simp] theorem noteDtag_undefinedCases (s : State) (g : TlbTag) : (noteDtag s g).undefinedCases = s.undefinedCases := rfl

/-! ### `noteTarget` -/

@[simp] theorem noteTarget_globals (s : State) (a : DWord) : (noteTarget s a).globals = s.globals := rfl
@[simp] theorem noteTarget_windows (s : State) (a : DWord) : (noteTarget s a).windows = s.windows := rfl
@[simp] theorem noteTarget_pc (s : State) (a : DWord) : (noteTarget s a).pc = s.pc := rfl
@[simp] theorem noteTarget_npc (s : State) (a : DWord) : (noteTarget s a).npc = s.npc := rfl
@[simp] theorem noteTarget_fregs (s : State) (a : DWord) : (noteTarget s a).fregs = s.fregs := rfl
@[simp] theorem noteTarget_fsr (s : State) (a : DWord) : (noteTarget s a).fsr = s.fsr := rfl
@[simp] theorem noteTarget_y (s : State) (a : DWord) : (noteTarget s a).y = s.y := rfl
@[simp] theorem noteTarget_ccr (s : State) (a : DWord) : (noteTarget s a).ccr = s.ccr := rfl
@[simp] theorem noteTarget_asi (s : State) (a : DWord) : (noteTarget s a).asi = s.asi := rfl
@[simp] theorem noteTarget_tick (s : State) (a : DWord) : (noteTarget s a).tick = s.tick := rfl
@[simp] theorem noteTarget_fprs (s : State) (a : DWord) : (noteTarget s a).fprs = s.fprs := rfl
@[simp] theorem noteTarget_pcr (s : State) (a : DWord) : (noteTarget s a).pcr = s.pcr := rfl
@[simp] theorem noteTarget_pic (s : State) (a : DWord) : (noteTarget s a).pic = s.pic := rfl
@[simp] theorem noteTarget_gsr (s : State) (a : DWord) : (noteTarget s a).gsr = s.gsr := rfl
@[simp] theorem noteTarget_softint (s : State) (a : DWord) : (noteTarget s a).softint = s.softint := rfl
@[simp] theorem noteTarget_tickCmpr (s : State) (a : DWord) : (noteTarget s a).tickCmpr = s.tickCmpr := rfl
@[simp] theorem noteTarget_stick (s : State) (a : DWord) : (noteTarget s a).stick = s.stick := rfl
@[simp] theorem noteTarget_stickCmpr (s : State) (a : DWord) : (noteTarget s a).stickCmpr = s.stickCmpr := rfl
@[simp] theorem noteTarget_win (s : State) (a : DWord) : (noteTarget s a).win = s.win := rfl
@[simp] theorem noteTarget_trapStack (s : State) (a : DWord) : (noteTarget s a).trapStack = s.trapStack := rfl
@[simp] theorem noteTarget_tba (s : State) (a : DWord) : (noteTarget s a).tba = s.tba := rfl
@[simp] theorem noteTarget_pstate (s : State) (a : DWord) : (noteTarget s a).pstate = s.pstate := rfl
@[simp] theorem noteTarget_tl (s : State) (a : DWord) : (noteTarget s a).tl = s.tl := rfl
@[simp] theorem noteTarget_pil (s : State) (a : DWord) : (noteTarget s a).pil = s.pil := rfl
@[simp] theorem noteTarget_gl (s : State) (a : DWord) : (noteTarget s a).gl = s.gl := rfl
@[simp] theorem noteTarget_hpstate (s : State) (a : DWord) : (noteTarget s a).hpstate = s.hpstate := rfl
@[simp] theorem noteTarget_hsp (s : State) (a : DWord) : (noteTarget s a).hsp = s.hsp := rfl
@[simp] theorem noteTarget_htba (s : State) (a : DWord) : (noteTarget s a).htba = s.htba := rfl
@[simp] theorem noteTarget_hstickCmpr (s : State) (a : DWord) : (noteTarget s a).hstickCmpr = s.hstickCmpr := rfl
@[simp] theorem noteTarget_scratchpad (s : State) (a : DWord) : (noteTarget s a).scratchpad = s.scratchpad := rfl
@[simp] theorem noteTarget_hypScratchpad (s : State) (a : DWord) : (noteTarget s a).hypScratchpad = s.hypScratchpad := rfl
@[simp] theorem noteTarget_queues (s : State) (a : DWord) : (noteTarget s a).queues = s.queues := rfl
@[simp] theorem noteTarget_mmu (s : State) (a : DWord) : (noteTarget s a).mmu = { s.mmu with dsfar := if Config.dsfarOnMisalign then maskAm s a else s.mmu.dsfar } := rfl
@[simp] theorem noteTarget_cmt (s : State) (a : DWord) : (noteTarget s a).cmt = s.cmt := rfl
@[simp] theorem noteTarget_peerIntrIds (s : State) (a : DWord) : (noteTarget s a).peerIntrIds = s.peerIntrIds := rfl
@[simp] theorem noteTarget_xirPending (s : State) (a : DWord) : (noteTarget s a).xirPending = s.xirPending := rfl
@[simp] theorem noteTarget_errors (s : State) (a : DWord) : (noteTarget s a).errors = s.errors := rfl
@[simp] theorem noteTarget_memory (s : State) (a : DWord) : (noteTarget s a).memory = s.memory := rfl
@[simp] theorem noteTarget_paWidth (s : State) (a : DWord) : (noteTarget s a).paWidth = s.paWidth := rfl
@[simp] theorem noteTarget_chip (s : State) (a : DWord) : (noteTarget s a).chip = s.chip := rfl
@[simp] theorem noteTarget_freeCount (s : State) (a : DWord) : (noteTarget s a).freeCount = s.freeCount := rfl
@[simp] theorem noteTarget_lastTrap (s : State) (a : DWord) : (noteTarget s a).lastTrap = s.lastTrap := rfl
@[simp] theorem noteTarget_delaySlot (s : State) (a : DWord) : (noteTarget s a).delaySlot = s.delaySlot := rfl
@[simp] theorem noteTarget_stickWritten (s : State) (a : DWord) : (noteTarget s a).stickWritten = s.stickWritten := rfl
@[simp] theorem noteTarget_undefinedCases (s : State) (a : DWord) : (noteTarget s a).undefinedCases = s.undefinedCases := rfl

/-! ### `noteItag` -/

@[simp] theorem noteItag_globals (s : State) (g : TlbTag) : (noteItag s g).globals = s.globals := rfl
@[simp] theorem noteItag_windows (s : State) (g : TlbTag) : (noteItag s g).windows = s.windows := rfl
@[simp] theorem noteItag_pc (s : State) (g : TlbTag) : (noteItag s g).pc = s.pc := rfl
@[simp] theorem noteItag_npc (s : State) (g : TlbTag) : (noteItag s g).npc = s.npc := rfl
@[simp] theorem noteItag_fregs (s : State) (g : TlbTag) : (noteItag s g).fregs = s.fregs := rfl
@[simp] theorem noteItag_fsr (s : State) (g : TlbTag) : (noteItag s g).fsr = s.fsr := rfl
@[simp] theorem noteItag_y (s : State) (g : TlbTag) : (noteItag s g).y = s.y := rfl
@[simp] theorem noteItag_ccr (s : State) (g : TlbTag) : (noteItag s g).ccr = s.ccr := rfl
@[simp] theorem noteItag_asi (s : State) (g : TlbTag) : (noteItag s g).asi = s.asi := rfl
@[simp] theorem noteItag_tick (s : State) (g : TlbTag) : (noteItag s g).tick = s.tick := rfl
@[simp] theorem noteItag_fprs (s : State) (g : TlbTag) : (noteItag s g).fprs = s.fprs := rfl
@[simp] theorem noteItag_pcr (s : State) (g : TlbTag) : (noteItag s g).pcr = s.pcr := rfl
@[simp] theorem noteItag_pic (s : State) (g : TlbTag) : (noteItag s g).pic = s.pic := rfl
@[simp] theorem noteItag_gsr (s : State) (g : TlbTag) : (noteItag s g).gsr = s.gsr := rfl
@[simp] theorem noteItag_softint (s : State) (g : TlbTag) : (noteItag s g).softint = s.softint := rfl
@[simp] theorem noteItag_tickCmpr (s : State) (g : TlbTag) : (noteItag s g).tickCmpr = s.tickCmpr := rfl
@[simp] theorem noteItag_stick (s : State) (g : TlbTag) : (noteItag s g).stick = s.stick := rfl
@[simp] theorem noteItag_stickCmpr (s : State) (g : TlbTag) : (noteItag s g).stickCmpr = s.stickCmpr := rfl
@[simp] theorem noteItag_win (s : State) (g : TlbTag) : (noteItag s g).win = s.win := rfl
@[simp] theorem noteItag_trapStack (s : State) (g : TlbTag) : (noteItag s g).trapStack = s.trapStack := rfl
@[simp] theorem noteItag_tba (s : State) (g : TlbTag) : (noteItag s g).tba = s.tba := rfl
@[simp] theorem noteItag_pstate (s : State) (g : TlbTag) : (noteItag s g).pstate = s.pstate := rfl
@[simp] theorem noteItag_tl (s : State) (g : TlbTag) : (noteItag s g).tl = s.tl := rfl
@[simp] theorem noteItag_pil (s : State) (g : TlbTag) : (noteItag s g).pil = s.pil := rfl
@[simp] theorem noteItag_gl (s : State) (g : TlbTag) : (noteItag s g).gl = s.gl := rfl
@[simp] theorem noteItag_hpstate (s : State) (g : TlbTag) : (noteItag s g).hpstate = s.hpstate := rfl
@[simp] theorem noteItag_hsp (s : State) (g : TlbTag) : (noteItag s g).hsp = s.hsp := rfl
@[simp] theorem noteItag_htba (s : State) (g : TlbTag) : (noteItag s g).htba = s.htba := rfl
@[simp] theorem noteItag_hstickCmpr (s : State) (g : TlbTag) : (noteItag s g).hstickCmpr = s.hstickCmpr := rfl
@[simp] theorem noteItag_scratchpad (s : State) (g : TlbTag) : (noteItag s g).scratchpad = s.scratchpad := rfl
@[simp] theorem noteItag_hypScratchpad (s : State) (g : TlbTag) : (noteItag s g).hypScratchpad = s.hypScratchpad := rfl
@[simp] theorem noteItag_queues (s : State) (g : TlbTag) : (noteItag s g).queues = s.queues := rfl
@[simp] theorem noteItag_mmu (s : State) (g : TlbTag) : (noteItag s g).mmu = { s.mmu with itagAccess := Config.tagAccessEncode g } := rfl
@[simp] theorem noteItag_cmt (s : State) (g : TlbTag) : (noteItag s g).cmt = s.cmt := rfl
@[simp] theorem noteItag_peerIntrIds (s : State) (g : TlbTag) : (noteItag s g).peerIntrIds = s.peerIntrIds := rfl
@[simp] theorem noteItag_xirPending (s : State) (g : TlbTag) : (noteItag s g).xirPending = s.xirPending := rfl
@[simp] theorem noteItag_errors (s : State) (g : TlbTag) : (noteItag s g).errors = s.errors := rfl
@[simp] theorem noteItag_memory (s : State) (g : TlbTag) : (noteItag s g).memory = s.memory := rfl
@[simp] theorem noteItag_paWidth (s : State) (g : TlbTag) : (noteItag s g).paWidth = s.paWidth := rfl
@[simp] theorem noteItag_chip (s : State) (g : TlbTag) : (noteItag s g).chip = s.chip := rfl
@[simp] theorem noteItag_freeCount (s : State) (g : TlbTag) : (noteItag s g).freeCount = s.freeCount := rfl
@[simp] theorem noteItag_lastTrap (s : State) (g : TlbTag) : (noteItag s g).lastTrap = s.lastTrap := rfl
@[simp] theorem noteItag_delaySlot (s : State) (g : TlbTag) : (noteItag s g).delaySlot = s.delaySlot := rfl
@[simp] theorem noteItag_stickWritten (s : State) (g : TlbTag) : (noteItag s g).stickWritten = s.stickWritten := rfl
@[simp] theorem noteItag_undefinedCases (s : State) (g : TlbTag) : (noteItag s g).undefinedCases = s.undefinedCases := rfl

/-! ### `noteDae` -/

@[simp] theorem noteDae_globals (s : State) (r : Bool) (a : DWord) (c : DaeCause) : (noteDae s r a c).globals = s.globals := rfl
@[simp] theorem noteDae_windows (s : State) (r : Bool) (a : DWord) (c : DaeCause) : (noteDae s r a c).windows = s.windows := rfl
@[simp] theorem noteDae_pc (s : State) (r : Bool) (a : DWord) (c : DaeCause) : (noteDae s r a c).pc = s.pc := rfl
@[simp] theorem noteDae_npc (s : State) (r : Bool) (a : DWord) (c : DaeCause) : (noteDae s r a c).npc = s.npc := rfl
@[simp] theorem noteDae_fregs (s : State) (r : Bool) (a : DWord) (c : DaeCause) : (noteDae s r a c).fregs = s.fregs := rfl
@[simp] theorem noteDae_fsr (s : State) (r : Bool) (a : DWord) (c : DaeCause) : (noteDae s r a c).fsr = s.fsr := rfl
@[simp] theorem noteDae_y (s : State) (r : Bool) (a : DWord) (c : DaeCause) : (noteDae s r a c).y = s.y := rfl
@[simp] theorem noteDae_ccr (s : State) (r : Bool) (a : DWord) (c : DaeCause) : (noteDae s r a c).ccr = s.ccr := rfl
@[simp] theorem noteDae_asi (s : State) (r : Bool) (a : DWord) (c : DaeCause) : (noteDae s r a c).asi = s.asi := rfl
@[simp] theorem noteDae_tick (s : State) (r : Bool) (a : DWord) (c : DaeCause) : (noteDae s r a c).tick = s.tick := rfl
@[simp] theorem noteDae_fprs (s : State) (r : Bool) (a : DWord) (c : DaeCause) : (noteDae s r a c).fprs = s.fprs := rfl
@[simp] theorem noteDae_pcr (s : State) (r : Bool) (a : DWord) (c : DaeCause) : (noteDae s r a c).pcr = s.pcr := rfl
@[simp] theorem noteDae_pic (s : State) (r : Bool) (a : DWord) (c : DaeCause) : (noteDae s r a c).pic = s.pic := rfl
@[simp] theorem noteDae_gsr (s : State) (r : Bool) (a : DWord) (c : DaeCause) : (noteDae s r a c).gsr = s.gsr := rfl
@[simp] theorem noteDae_softint (s : State) (r : Bool) (a : DWord) (c : DaeCause) : (noteDae s r a c).softint = s.softint := rfl
@[simp] theorem noteDae_tickCmpr (s : State) (r : Bool) (a : DWord) (c : DaeCause) : (noteDae s r a c).tickCmpr = s.tickCmpr := rfl
@[simp] theorem noteDae_stick (s : State) (r : Bool) (a : DWord) (c : DaeCause) : (noteDae s r a c).stick = s.stick := rfl
@[simp] theorem noteDae_stickCmpr (s : State) (r : Bool) (a : DWord) (c : DaeCause) : (noteDae s r a c).stickCmpr = s.stickCmpr := rfl
@[simp] theorem noteDae_win (s : State) (r : Bool) (a : DWord) (c : DaeCause) : (noteDae s r a c).win = s.win := rfl
@[simp] theorem noteDae_trapStack (s : State) (r : Bool) (a : DWord) (c : DaeCause) : (noteDae s r a c).trapStack = s.trapStack := rfl
@[simp] theorem noteDae_tba (s : State) (r : Bool) (a : DWord) (c : DaeCause) : (noteDae s r a c).tba = s.tba := rfl
@[simp] theorem noteDae_pstate (s : State) (r : Bool) (a : DWord) (c : DaeCause) : (noteDae s r a c).pstate = s.pstate := rfl
@[simp] theorem noteDae_tl (s : State) (r : Bool) (a : DWord) (c : DaeCause) : (noteDae s r a c).tl = s.tl := rfl
@[simp] theorem noteDae_pil (s : State) (r : Bool) (a : DWord) (c : DaeCause) : (noteDae s r a c).pil = s.pil := rfl
@[simp] theorem noteDae_gl (s : State) (r : Bool) (a : DWord) (c : DaeCause) : (noteDae s r a c).gl = s.gl := rfl
@[simp] theorem noteDae_hpstate (s : State) (r : Bool) (a : DWord) (c : DaeCause) : (noteDae s r a c).hpstate = s.hpstate := rfl
@[simp] theorem noteDae_hsp (s : State) (r : Bool) (a : DWord) (c : DaeCause) : (noteDae s r a c).hsp = s.hsp := rfl
@[simp] theorem noteDae_htba (s : State) (r : Bool) (a : DWord) (c : DaeCause) : (noteDae s r a c).htba = s.htba := rfl
@[simp] theorem noteDae_hstickCmpr (s : State) (r : Bool) (a : DWord) (c : DaeCause) : (noteDae s r a c).hstickCmpr = s.hstickCmpr := rfl
@[simp] theorem noteDae_scratchpad (s : State) (r : Bool) (a : DWord) (c : DaeCause) : (noteDae s r a c).scratchpad = s.scratchpad := rfl
@[simp] theorem noteDae_hypScratchpad (s : State) (r : Bool) (a : DWord) (c : DaeCause) : (noteDae s r a c).hypScratchpad = s.hypScratchpad := rfl
@[simp] theorem noteDae_queues (s : State) (r : Bool) (a : DWord) (c : DaeCause) : (noteDae s r a c).queues = s.queues := rfl
@[simp] theorem noteDae_cmt (s : State) (r : Bool) (a : DWord) (c : DaeCause) : (noteDae s r a c).cmt = s.cmt := rfl
@[simp] theorem noteDae_peerIntrIds (s : State) (r : Bool) (a : DWord) (c : DaeCause) : (noteDae s r a c).peerIntrIds = s.peerIntrIds := rfl
@[simp] theorem noteDae_xirPending (s : State) (r : Bool) (a : DWord) (c : DaeCause) : (noteDae s r a c).xirPending = s.xirPending := rfl
@[simp] theorem noteDae_errors (s : State) (r : Bool) (a : DWord) (c : DaeCause) : (noteDae s r a c).errors = s.errors := rfl
@[simp] theorem noteDae_memory (s : State) (r : Bool) (a : DWord) (c : DaeCause) : (noteDae s r a c).memory = s.memory := rfl
@[simp] theorem noteDae_paWidth (s : State) (r : Bool) (a : DWord) (c : DaeCause) : (noteDae s r a c).paWidth = s.paWidth := rfl
@[simp] theorem noteDae_chip (s : State) (r : Bool) (a : DWord) (c : DaeCause) : (noteDae s r a c).chip = s.chip := rfl
@[simp] theorem noteDae_freeCount (s : State) (r : Bool) (a : DWord) (c : DaeCause) : (noteDae s r a c).freeCount = s.freeCount + 1 := rfl
@[simp] theorem noteDae_lastTrap (s : State) (r : Bool) (a : DWord) (c : DaeCause) : (noteDae s r a c).lastTrap = s.lastTrap := rfl
@[simp] theorem noteDae_delaySlot (s : State) (r : Bool) (a : DWord) (c : DaeCause) : (noteDae s r a c).delaySlot = s.delaySlot := rfl
@[simp] theorem noteDae_stickWritten (s : State) (r : Bool) (a : DWord) (c : DaeCause) : (noteDae s r a c).stickWritten = s.stickWritten := rfl
@[simp] theorem noteDae_undefinedCases (s : State) (r : Bool) (a : DWord) (c : DaeCause) : (noteDae s r a c).undefinedCases = s.undefinedCases := rfl

/-! ### `parkComplete` -/

@[simp] theorem parkComplete_globals (s : State) : (parkComplete s).globals = s.globals := rfl
@[simp] theorem parkComplete_windows (s : State) : (parkComplete s).windows = s.windows := rfl
@[simp] theorem parkComplete_pc (s : State) : (parkComplete s).pc = s.pc := rfl
@[simp] theorem parkComplete_npc (s : State) : (parkComplete s).npc = s.npc := rfl
@[simp] theorem parkComplete_fregs (s : State) : (parkComplete s).fregs = s.fregs := rfl
@[simp] theorem parkComplete_fsr (s : State) : (parkComplete s).fsr = s.fsr := rfl
@[simp] theorem parkComplete_y (s : State) : (parkComplete s).y = s.y := rfl
@[simp] theorem parkComplete_ccr (s : State) : (parkComplete s).ccr = s.ccr := rfl
@[simp] theorem parkComplete_asi (s : State) : (parkComplete s).asi = s.asi := rfl
@[simp] theorem parkComplete_tick (s : State) : (parkComplete s).tick = s.tick := rfl
@[simp] theorem parkComplete_fprs (s : State) : (parkComplete s).fprs = s.fprs := rfl
@[simp] theorem parkComplete_pcr (s : State) : (parkComplete s).pcr = s.pcr := rfl
@[simp] theorem parkComplete_pic (s : State) : (parkComplete s).pic = s.pic := rfl
@[simp] theorem parkComplete_gsr (s : State) : (parkComplete s).gsr = s.gsr := rfl
@[simp] theorem parkComplete_softint (s : State) : (parkComplete s).softint = s.softint := rfl
@[simp] theorem parkComplete_tickCmpr (s : State) : (parkComplete s).tickCmpr = s.tickCmpr := rfl
@[simp] theorem parkComplete_stick (s : State) : (parkComplete s).stick = s.stick := rfl
@[simp] theorem parkComplete_stickCmpr (s : State) : (parkComplete s).stickCmpr = s.stickCmpr := rfl
@[simp] theorem parkComplete_win (s : State) : (parkComplete s).win = s.win := rfl
@[simp] theorem parkComplete_trapStack (s : State) : (parkComplete s).trapStack = s.trapStack := rfl
@[simp] theorem parkComplete_tba (s : State) : (parkComplete s).tba = s.tba := rfl
@[simp] theorem parkComplete_pstate (s : State) : (parkComplete s).pstate = s.pstate := rfl
@[simp] theorem parkComplete_tl (s : State) : (parkComplete s).tl = s.tl := rfl
@[simp] theorem parkComplete_pil (s : State) : (parkComplete s).pil = s.pil := rfl
@[simp] theorem parkComplete_gl (s : State) : (parkComplete s).gl = s.gl := rfl
@[simp] theorem parkComplete_hpstate (s : State) : (parkComplete s).hpstate = s.hpstate := rfl
@[simp] theorem parkComplete_hsp (s : State) : (parkComplete s).hsp = s.hsp := rfl
@[simp] theorem parkComplete_htba (s : State) : (parkComplete s).htba = s.htba := rfl
@[simp] theorem parkComplete_hstickCmpr (s : State) : (parkComplete s).hstickCmpr = s.hstickCmpr := rfl
@[simp] theorem parkComplete_scratchpad (s : State) : (parkComplete s).scratchpad = s.scratchpad := rfl
@[simp] theorem parkComplete_hypScratchpad (s : State) : (parkComplete s).hypScratchpad = s.hypScratchpad := rfl
@[simp] theorem parkComplete_queues (s : State) : (parkComplete s).queues = s.queues := rfl
@[simp] theorem parkComplete_mmu (s : State) : (parkComplete s).mmu = s.mmu := rfl
@[simp] theorem parkComplete_cmt (s : State) : (parkComplete s).cmt = parkOwn s.chip s.cmt := rfl
@[simp] theorem parkComplete_peerIntrIds (s : State) : (parkComplete s).peerIntrIds = s.peerIntrIds := rfl
@[simp] theorem parkComplete_xirPending (s : State) : (parkComplete s).xirPending = s.xirPending := rfl
@[simp] theorem parkComplete_errors (s : State) : (parkComplete s).errors = s.errors := rfl
@[simp] theorem parkComplete_memory (s : State) : (parkComplete s).memory = s.memory := rfl
@[simp] theorem parkComplete_paWidth (s : State) : (parkComplete s).paWidth = s.paWidth := rfl
@[simp] theorem parkComplete_chip (s : State) : (parkComplete s).chip = s.chip := rfl
@[simp] theorem parkComplete_freeCount (s : State) : (parkComplete s).freeCount = s.freeCount := rfl
@[simp] theorem parkComplete_lastTrap (s : State) : (parkComplete s).lastTrap = s.lastTrap := rfl
@[simp] theorem parkComplete_delaySlot (s : State) : (parkComplete s).delaySlot = s.delaySlot := rfl
@[simp] theorem parkComplete_stickWritten (s : State) : (parkComplete s).stickWritten = s.stickWritten := rfl
@[simp] theorem parkComplete_undefinedCases (s : State) : (parkComplete s).undefinedCases = s.undefinedCases := rfl

end Sys2Proof.Machine
end

