-- ==== Sys2Proof/Laws/Effects.lean ====
section
/-! SUPPORT. The shared operations of loads and stores: what each can answer. -/

namespace Sys2Proof.Machine

/-! ### Effects -/

/-- An instruction's outcome: its own effect, or the trap it took. -/
theorem complete_next {e : Effect State} {t : State} (h : complete e = .next t) :
    e = .ok t ∨ ∃ x, e = .error x ∧ t = takeTrap x.state x.trap := by
  cases e with
  | ok s => exact .inl (by rw [complete] at h; cases h; rfl)
  | error x => exact .inr ⟨x, rfl, by rw [complete] at h; cases h; rfl⟩

/-- An instruction built from an effect always has a next state. -/
theorem complete_is_next (e : Effect State) : ∃ t, complete e = .next t := by
  cases e with
  | ok s => exact ⟨s, rfl⟩
  | error x => exact ⟨_, rfl⟩

@[simp] theorem complete_ok (s : State) : complete (.ok s) = .next s := rfl
@[simp] theorem complete_error (x : Stop) : complete (.error x) = .next (takeTrap x.state x.trap) := rfl

theorem bind_ok {α β : Type} {e : Effect α} {f : α → Effect β} {b : β} (h : (e >>= f) = .ok b) :
    ∃ a, e = .ok a ∧ f a = .ok b := by
  cases e with
  | ok a => exact ⟨a, rfl, h⟩
  | error x => cases h

theorem bind_error {α β : Type} {e : Effect α} {f : α → Effect β} {x : Stop} (h : (e >>= f) = .error x) :
    e = .error x ∨ ∃ a, e = .ok a ∧ f a = .error x := by
  cases e with
  | ok a => exact .inr ⟨a, rfl, h⟩
  | error y => exact .inl (by cases h; rfl)

@[simp] theorem ok_bind {α β : Type} (a : α) (f : α → Effect β) : ((Except.ok a : Effect α) >>= f) = f a := rfl
@[simp] theorem error_bind {α β : Type} (x : Stop) (f : α → Effect β) :
    ((Except.error x : Effect α) >>= f) = .error x := rfl
@[simp] theorem pure_effect {α : Type} (a : α) : (pure a : Effect α) = .ok a := rfl

/-! ### Checks -/

theorem requireAligned_of {s : State} {a : DWord} {n : Nat} (h : alignedTo a n = true) : requireAligned s a n = .ok () := by
  unfold requireAligned; rw [if_pos h]

theorem requireAligned_not {s : State} {a : DWord} {n : Nat} (h : alignedTo a n = false) :
    requireAligned s a n = .error ⟨.memAddressNotAligned, noteDsfar s (maskAm s a)⟩ := by
  unfold requireAligned; rw [if_neg (by simp [h])]

theorem requirePermitted_of {s : State} {asi : Byte} {a : DWord} (h : asiPermitted s asi = true) :
    requirePermitted s asi a = .ok () := by
  unfold requirePermitted; rw [if_pos h]

/-- No watchpoint holds by default: the exception of an invalid ASI is data_access_exception (assumption log entry 9). -/
@[simp] theorem refuseAsi_eq {α : Type} (s : State) (acc : Access) (asi : Byte) (a : DWord) :
    (refuseAsi s acc asi a : Effect α) = invalidAsi s a := by
  unfold refuseAsi; rw [vaWatched_eq, Bool.and_false]; rfl

/-- The checks of an alternate-space access pass: the ASI is permitted and valid for the instruction, and the alignment
check passes where it is made. -/
theorem requireAsi_ok {s : State} {acc : Access} {asi : Byte} {a : DWord} {align : Effect Unit} {admits : AsiClass → Bool}
    (h : requireAsi s acc asi a align admits = .ok ()) :
    asiPermitted s asi = true ∧ admits (asiClass asi) = true ∧ (isSpecialClass (asiClass asi) = true ∨ align = .ok ()) := by
  unfold requireAsi at h
  rw [refuseAsi_eq] at h
  obtain ⟨u, h1, h⟩ := bind_ok h
  obtain ⟨v, h2, h3⟩ := bind_ok h
  refine ⟨?_, ?_, ?_⟩
  · unfold requirePermitted at h2
    split at h2
    · assumption
    · cases h2
  · split at h3
    · assumption
    · cases h3
  · split at h1
    · exact .inl (by assumption)
    · exact .inr h1

theorem requireFpu_of {s : State} (h : fpuEnabled s = true) : requireFpu s = .ok () := by
  unfold requireFpu; rw [if_pos h]

theorem requireFpuMarking_of {s : State} {mark : State → State} (h : fpuEnabled s = true) :
    requireFpuMarking s mark = .ok () := by
  unfold requireFpuMarking; rw [if_pos h]

theorem requireFpu_of_disabled {s : State} (h : fpuEnabled s = false) : requireFpu s = raise s .fpDisabled := by
  unfold requireFpu; rw [if_neg (by simp [h])]

/-- With the FPU disabled the exception is raised in the state that has the destination marked (rule R68). -/
theorem requireFpuMarking_of_disabled {s : State} {mark : State → State} (h : fpuEnabled s = false) :
    requireFpuMarking s mark = .error ⟨.fpDisabled, mark s⟩ := by
  unfold requireFpuMarking; rw [if_neg (by simp [h])]

theorem unimplementedFPop_of {s : State} {mark : State → State} (h : fpuEnabled s = true) :
    unimplementedFPop s mark = trapTo (setFtt s 3) .fpExceptionOther := by
  unfold unimplementedFPop; rw [if_pos h]

theorem unimplementedFPop_of_disabled {s : State} {mark : State → State} (h : fpuEnabled s = false) :
    unimplementedFPop s mark = trapTo (mark s) .fpDisabled := by
  unfold unimplementedFPop; rw [if_neg (by simp [h])]

/-! ### Translation -/

/-- In hyperprivileged mode an ordinary data access is physical, in the byte order the ASI names (rule R1377). -/
theorem translate_physical {s : State} {acc : Access} {c : Bool} {asi : Byte} {a : DWord} (h : isPhysical s asi = true) :
    translate s acc c asi a = .ok ⟨a, littleEndian s asi false⟩ := by
  unfold translate
  rw [if_pos h]
  simp [Config.paWatch]

/-- A data access that hits the TLB goes to the page's physical address, after the page's checks (rules R1377, R1378). -/
theorem translate_hit {s : State} {acc : Access} {c : Bool} {asi : Byte} {a : DWord} {e : TlbEntry}
    (hp : isPhysical s asi = false)
    (hf : s.mmu.dtlb.find? (tlbMatches s.mmu.partitionId (contextOf s (lookupSpace s asi)) a) = some e) :
    translate s acc c asi a = throughEntry s acc c asi a e := by
  unfold translate
  rw [if_neg (by simp [hp])]
  rw [if_neg (by simp)]
  cases hc : contextOf s (lookupSpace s asi) with
  | none => simp only [hc] at hf ⊢; rw [hf]
  | some ctx => simp only [hc] at hf ⊢; rw [hf]

/-! ### One access -/

theorem loadAt_ok {s : State} {asi : Byte} {a v : DWord} {n : Nat} (h : loadAt s asi a n = .ok v) :
    ∃ t, translate s .load false asi (maskAm s a) = .ok t ∧ v = readMem s.paWidth s.memory t.pa n t.little := by
  obtain ⟨t, h1, h2⟩ := bind_ok h
  exact ⟨t, h1, by cases h2; rfl⟩

theorem loadAt_of {s : State} {asi : Byte} {a : DWord} {n : Nat} {t : Target}
    (h : translate s .load false asi (maskAm s a) = .ok t) : loadAt s asi a n = .ok (readMem s.paWidth s.memory t.pa n t.little) := by
  unfold loadAt; rw [h]; rfl

theorem storeAt_ok {s u : State} {asi : Byte} {a v : DWord} {n : Nat} (h : storeAt s asi a n v = .ok u) :
    ∃ t, translate s .store false asi (maskAm s a) = .ok t
      ∧ u = { s with memory := writeMem s.paWidth s.memory t.pa n t.little v } := by
  obtain ⟨t, h1, h2⟩ := bind_ok h
  exact ⟨t, h1, by cases h2; rfl⟩

theorem storeAt_of {s : State} {asi : Byte} {a v : DWord} {n : Nat} {t : Target}
    (h : translate s .store false asi (maskAm s a) = .ok t) :
    storeAt s asi a n v = .ok { s with memory := writeMem s.paWidth s.memory t.pa n t.little v } := by
  simp only [storeAt, walked_eq, writePhys_eq, h]; rfl

/-- An atomic access reads the old value, and writes what `new` makes of it where it makes anything. -/
theorem atomicAt_of {s : State} {asi : Byte} {a : DWord} {n : Nat} {new : DWord → Option DWord} {t : Target}
    (h : translate s .atomic false asi (maskAm s a) = .ok t) :
    atomicAt s asi a n new = .ok (readMem s.paWidth s.memory t.pa n t.little,
      match new (readMem s.paWidth s.memory t.pa n t.little) with
      | none => s
      | some v => { s with memory := writeMem s.paWidth s.memory t.pa n t.little v }) := by
  simp only [atomicAt, walked_eq, h, ok_bind, readPhys_eq, writePhys_eq]
  cases new (readMem s.paWidth s.memory t.pa n t.little) <;> rfl

/-- A store keeps the canonical form of memory. -/
theorem storeAt_wf {s u : State} {asi : Byte} {a v : DWord} {n : Nat} (hw : Memory.wf s.paWidth s.memory = true)
    (h : storeAt s asi a n v = .ok u) : Memory.wf u.paWidth u.memory = true := by
  obtain ⟨t, -, rfl⟩ := storeAt_ok h
  exact wf_writeMem hw _ _ _ _

/-! ### What a raised exception leaves: the registers the rules of Machine/Mmu.lean write, and memory as it was -/

/-- An exception of a check or a translation changes nothing but the MMU's fault registers and the counter of free values. -/
def OnlyFaultRegisters (s u : State) : Prop :=
  u = { s with mmu := u.mmu, freeCount := u.freeCount } ∧ u.mmu.itlb = s.mmu.itlb ∧ u.mmu.dtlb = s.mmu.dtlb

theorem onlyFaultRegisters_refl (s : State) : OnlyFaultRegisters s s := ⟨rfl, rfl, rfl⟩

theorem requireAligned_error {s : State} {a : DWord} {n : Nat} {x : Stop} (h : requireAligned s a n = .error x) :
    x.trap = .memAddressNotAligned ∧ OnlyFaultRegisters s x.state := by
  unfold requireAligned at h
  split at h
  · cases h
  · cases h; exact ⟨rfl, rfl, rfl, rfl⟩

theorem requirePermitted_error {s : State} {asi : Byte} {a : DWord} {x : Stop} (h : requirePermitted s asi a = .error x) :
    x.trap = .privilegedAction ∧ OnlyFaultRegisters s x.state := by
  unfold requirePermitted at h
  split at h
  · cases h
  · cases h; exact ⟨rfl, rfl, rfl, rfl⟩

theorem invalidAsi_error {α : Type} {s : State} {a : DWord} {x : Stop} (h : (invalidAsi s a : Effect α) = .error x) :
    x.trap = .dataAccessException ∧ OnlyFaultRegisters s x.state := by
  cases h; exact ⟨rfl, rfl, rfl, rfl⟩

theorem throughEntry_error {s : State} {acc : Access} {c : Bool} {asi : Byte} {a : DWord} {e : TlbEntry} {x : Stop}
    (h : throughEntry s acc c asi a e = .error x) : OnlyFaultRegisters s x.state := by
  unfold throughEntry at h
  split at h
  · cases h; exact ⟨rfl, rfl, rfl⟩
  · split at h
    · cases h; exact ⟨rfl, rfl, rfl⟩
    · split at h
      · cases h; exact ⟨rfl, rfl, rfl⟩
      · cases h

theorem translate_error {s : State} {acc : Access} {c : Bool} {asi : Byte} {a : DWord} {x : Stop}
    (h : translate s acc c asi a = .error x) : OnlyFaultRegisters s x.state := by
  unfold translate at h
  split at h
  · split at h
    · cases h; exact ⟨rfl, rfl, rfl⟩
    · cases h
  · split at h
    · cases h; exact ⟨rfl, rfl, rfl⟩
    · split at h
      · split at h
        · cases h; exact ⟨rfl, rfl, rfl⟩
        · exact throughEntry_error h
      · split at h
        · cases h; exact ⟨rfl, rfl, rfl⟩
        · exact throughEntry_error h

theorem loadAt_error {s : State} {asi : Byte} {a : DWord} {n : Nat} {x : Stop} (h : loadAt s asi a n = .error x) :
    OnlyFaultRegisters s x.state := by
  rcases bind_error h with h | ⟨t, -, h⟩
  · exact translate_error h
  · cases h

theorem storeAt_error {s : State} {asi : Byte} {a v : DWord} {n : Nat} {x : Stop} (h : storeAt s asi a n v = .error x) :
    OnlyFaultRegisters s x.state := by
  rcases bind_error h with h | ⟨t, -, h⟩
  · exact translate_error h
  · cases h

theorem atomicAt_error {s : State} {asi : Byte} {a : DWord} {n : Nat} {new : DWord → Option DWord} {x : Stop}
    (h : atomicAt s asi a n new = .error x) : OnlyFaultRegisters s x.state := by
  rcases bind_error h with h | ⟨t, -, h⟩
  · exact translate_error h
  · simp only at h
    split at h <;> cases h

end Sys2Proof.Machine
end

