-- ==== Sys2Proof/Laws/Registers.lean ====
section
/-! SUPPORT. The register files: reading after writing, and what one write leaves of every register. -/

namespace Sys2Proof.Machine

/-! ### Banks -/

theorem bankRead_bankWrite {w k : Nat} (b : Bank w k) (i j : BitVec k) (v : BitVec w) :
    bankRead (bankWrite b i v) j = if j = i then v else bankRead b j := by
  unfold bankRead bankWrite
  rw [Vector.getElem_set]
  by_cases h : j = i
  · subst h; simp
  · rw [if_neg h, if_neg]
    exact fun e => h (BitVec.eq_of_toNat_eq e.symm)

/-- Two banks that read the same everywhere are equal. -/
theorem bank_ext {w k : Nat} {a b : Bank w k} (h : ∀ i, bankRead a i = bankRead b i) : a = b := by
  apply Vector.ext
  intro i hi
  simpa [bankRead, Nat.mod_eq_of_lt hi] using h (BitVec.ofNat k i)

/-! ### Integer registers -/

/-- The high bits of a register number say which group it is in. -/
theorem group_of_number (r : BitVec 5) : r.extractLsb' 3 2 = 0 ↔ r.toNat < 8 := by
  revert r; decide

/-- A write of R[rd] changes that register and no other of any window or global set. -/
theorem wroteR_setR (s : State) (rd : BitVec 5) (v : DWord) : WroteR s (setR s rd v) rd v := by
  unfold setR
  by_cases h0 : rd = 0
  · subst h0
    exact ⟨fun i => by simp, fun i => by simp⟩
  · rw [if_neg h0]
    by_cases h8 : rd.extractLsb' 3 2 = 0
    · have h8' := (group_of_number rd).mp h8
      rw [if_pos h8]
      refine ⟨fun i => ?_, fun i => ?_⟩
      · simp only [bankRead_bankWrite, globalSlot, h0, h8', ne_eq, not_false_eq_true, true_and]
      · rw [if_neg (by omega)]
    · have h8' : ¬ rd.toNat < 8 := fun e => h8 ((group_of_number rd).mpr e)
      rw [if_neg h8]
      refine ⟨fun i => ?_, fun i => ?_⟩
      · rw [if_neg (by omega)]
      · have h8'' : 8 ≤ rd.toNat := by omega
        simp only [bankRead_bankWrite, h8'', true_and]

/-- A state with the same memory and the same width reads the same bytes. -/
theorem sameBytes_of {s t : State} (hm : t.memory = s.memory) (hw : t.paWidth = s.paWidth) : SameBytes s t :=
  ⟨hw, fun a => by rw [hm, hw]⟩

/-- The state after `setR` is the state with other register files. -/
theorem setR_eq (s : State) (rd : BitVec 5) (v : DWord) :
    setR s rd v = { s with globals := (setR s rd v).globals, windows := (setR s rd v).windows } := by
  unfold setR; split <;> [rfl; split <;> rfl]

/-- An instruction that ends with `writeR` writes that register and nothing else. -/
theorem resultR_setR (s : State) (rd : BitVec 5) (v : DWord) : ResultR s (advance (setR s rd v)) rd v := by
  refine ⟨wroteR_setR s rd v, sameBytes_of (by simp) (by simp), ?_⟩
  conv_lhs => rw [setR_eq]
  rfl

theorem resultRC_setR (s : State) (rd : BitVec 5) (v : DWord) (c : Ccr) :
    ResultRC s (advance (setCcr (setR s rd v) c)) rd v c := by
  refine ⟨wroteR_setR s rd v, sameBytes_of (by simp) (by simp), ?_⟩
  conv_lhs => rw [setR_eq]
  rfl

/-- `R[r]` after a write: R[0] is always zero. -/
theorem windowSlot_inj (w : BitVec 3) (a b : BitVec 5) (ha : ¬ a.toNat < 8) (hb : ¬ b.toNat < 8)
    (h : windowSlot w a = windowSlot w b) : a = b := by
  revert w a b; decide

theorem getR_setR (s : State) (rd r : BitVec 5) (v : DWord) :
    getR (setR s rd v) r = if r = 0 then 0 else if r = rd then v else getR s r := by
  obtain ⟨hg, hw⟩ := wroteR_setR s rd v
  unfold getR
  by_cases h0 : r = 0
  · rw [if_pos h0, if_pos h0]
  rw [if_neg h0, if_neg h0, if_neg h0]
  by_cases h8 : r.extractLsb' 3 2 = 0
  · have h8' := (group_of_number r).mp h8
    rw [if_pos h8, if_pos h8, setR_gl, hg]
    by_cases hr : r = rd
    · subst hr; rw [if_pos ⟨h0, h8', rfl⟩, if_pos rfl]
    · rw [if_neg hr, if_neg]
      rintro ⟨-, hrd, e⟩
      apply hr
      have : r.extractLsb' 0 3 = rd.extractLsb' 0 3 := by
        have := congrArg (BitVec.extractLsb' 0 3) e
        rwa [globalSlot, BitVec.extractLsb'_append_eq_of_add_le (by decide),
          BitVec.extractLsb'_append_eq_of_add_le (by decide), BitVec.extractLsb'_eq_self,
          BitVec.extractLsb'_eq_self] at this
      clear e hg hw
      revert r rd; decide
  · have h8' : ¬ r.toNat < 8 := fun e => h8 ((group_of_number r).mpr e)
    rw [if_neg h8, if_neg h8, setR_win, hw]
    by_cases hr : r = rd
    · subst hr; rw [if_pos ⟨by omega, rfl⟩, if_pos rfl]
    · rw [if_neg hr, if_neg]
      rintro ⟨hrd, e⟩
      exact hr (windowSlot_inj _ _ _ h8' (by omega) e)

/-! ### Floating-point registers -/

theorem wroteFS_setFS (s : State) (rd : BitVec 5) (v : Word) : WroteFS s (setFS s rd v) rd v := fun i => by
  rw [setFS_fregs, bankRead_bankWrite]

/-- The two halves of a double register are different registers. -/
theorem halves_ne (d : BitVec 5) : d ++ 0#1 ≠ d ++ 1#1 := by revert d; decide

theorem wroteFD_setFD (s : State) (rd : BitVec 5) (v : DWord) : WroteFD s (setFD s rd v) rd v := fun i => by
  unfold setFD
  rw [setFDn_fregs, bankRead_bankWrite, bankRead_bankWrite]
  by_cases h1 : i = doubleNumber rd ++ 1#1
  · subst h1
    rw [if_pos rfl, if_neg (halves_ne _).symm, if_pos rfl]
  · rw [if_neg h1, if_neg h1]

/-- FPRS after a double register is written. -/
theorem setFD_fprs (s : State) (rd : BitVec 5) (v : DWord) : (setFD s rd v).fprs = dirtyDouble s.fprs rd := by
  have h : flagAt (doubleNumber rd) 4 = true ↔ rd.extractLsb' 0 1 = 1 := by revert rd; decide
  unfold setFD setFDn markFDn dirtyDouble
  by_cases hb : flagAt (doubleNumber rd) 4 = true
  · rw [if_pos hb, if_pos (h.mp hb)]
  · rw [if_neg hb, if_neg (fun e => hb (h.mpr e))]

/-! The dirty bit that fp_disabled leaves set for a destination (rule R68). -/

theorem markFS_eq (s : State) : markFS s = { s with fprs := dirtyLower s.fprs } := rfl

theorem markFD_eq (s : State) (rd : BitVec 5) : markFD s rd = { s with fprs := dirtyDouble s.fprs rd } := by
  have h : flagAt (doubleNumber rd) 4 = true ↔ rd.extractLsb' 0 1 = 1 := by revert rd; decide
  unfold markFD markFDn dirtyDouble
  by_cases hb : flagAt (doubleNumber rd) 4 = true
  · rw [if_pos hb, if_pos (h.mp hb)]
  · rw [if_neg hb, if_neg (fun e => hb (h.mpr e))]

theorem markFQ_eq (s : State) (rd : BitVec 5) : markFQ s rd = { s with fprs := dirtyDouble s.fprs rd } := markFD_eq s rd

theorem setFD_eq (s : State) (rd : BitVec 5) (v : DWord) :
    setFD s rd v = { s with fregs := (setFD s rd v).fregs, fprs := (setFD s rd v).fprs } := by
  unfold setFD setFDn markFDn; split <;> rfl

theorem resultFD_setFD (s : State) (rd : BitVec 5) (v : DWord) (f : Fsr) :
    ResultFD s (advance (setFD { s with fsr := f } rd v)) rd v f := by
  refine ⟨wroteFD_setFD { s with fsr := f } rd v, sameBytes_of (by simp) (by simp), ?_⟩
  conv_lhs => rw [setFD_eq, setFD_fprs]
  rfl

theorem resultFS_setFS (s : State) (rd : BitVec 5) (v : Word) (f : Fsr) :
    ResultFS s (advance (setFS { s with fsr := f } rd v)) rd v f :=
  ⟨wroteFS_setFS { s with fsr := f } rd v, sameBytes_of rfl rfl, rfl⟩

end Sys2Proof.Machine
end

