-- ==== Sys2Proof/Laws/Access.lean ====
section
/-! SUPPORT. The whole loads, stores and atomics of Machine/Access.lean: what each answers where its checks pass, and the trap each
takes where one fails. -/

namespace Sys2Proof.Machine

theorem alignedTo_iff (a : DWord) (n : Nat) : alignedTo a n = true ↔ a.toNat % n = 0 := by simp [alignedTo]

theorem not_alignedTo_iff (a : DWord) (n : Nat) : alignedTo a n = false ↔ a.toNat % n ≠ 0 := by simp [alignedTo]

/-! ### The checks, passed and failed -/

theorem requireAsi_of {s : State} {acc : Access} {asi : Byte} {a : DWord} {align : Effect Unit} {admits : AsiClass → Bool}
    (h1 : asiPermitted s asi = true) (h2 : admits (asiClass asi) = true) (h3 : align = .ok ()) :
    requireAsi s acc asi a align admits = .ok () := by
  unfold requireAsi
  rw [h3, requirePermitted_of h1, h2]
  split <;> rfl

theorem requireAsi_misaligned {s : State} {acc : Access} {asi : Byte} {a : DWord} {n : Nat} {admits : AsiClass → Bool}
    (h1 : isSpecialClass (asiClass asi) = false) (h2 : alignedTo a n = false) :
    requireAsi s acc asi a (requireAligned s a n) admits = .error ⟨.memAddressNotAligned, noteDsfar s (maskAm s a)⟩ := by
  unfold requireAsi; rw [h1, requireAligned_not h2]; rfl

theorem requireAsi_denied {s : State} {acc : Access} {asi : Byte} {a : DWord} {align : Effect Unit} {admits : AsiClass → Bool}
    (h1 : align = .ok ()) (h2 : asiPermitted s asi = false) :
    requireAsi s acc asi a align admits = .error ⟨.privilegedAction, noteDsfar s (maskAm s a)⟩ := by
  unfold requireAsi requirePermitted; rw [h1, h2]
  split <;> rfl

theorem requireAsi_invalid {s : State} {acc : Access} {asi : Byte} {a : DWord} {align : Effect Unit} {admits : AsiClass → Bool}
    (h1 : align = .ok ()) (h2 : asiPermitted s asi = true) (h3 : admits (asiClass asi) = false) :
    requireAsi s acc asi a align admits = .error ⟨.dataAccessException, noteDae s false (maskAm s a) .invalidAsi⟩ := by
  unfold requireAsi; rw [h1, requirePermitted_of h2, h3, refuseAsi_eq]
  split <;> rfl

theorem reported_noteDsfar (s : State) (a : DWord) : Reported s (noteDsfar s a) := rfl

theorem reported_noteDae (s : State) (real : Bool) (a : DWord) (c : DaeCause) : Reported s (noteDae s real a c) := rfl

/-! ### Loads -/

theorem loadR_next {s : State} {rd rs1 : BitVec 5} {op2 : RegOrImm13} {n : Nat} {ext : DWord → DWord} {g : Target}
    (hn : n ≤ 8) (ha : alignedTo (effectiveAddress s rs1 op2) n = true)
    (ht : translate s .load false (implicitAsi s) (maskAm s (effectiveAddress s rs1 op2)) = .ok g) :
    ∃ t v, loadR s rd rs1 op2 n ext = .next t ∧ Loaded s g.pa n g.little v ∧ ResultR s t rd (ext v) := by
  refine ⟨_, _, ?_, loaded_readMem s g.pa hn g.little, resultR_setR _ _ _⟩
  unfold loadR
  rw [requireAligned_of ha, ok_bind]
  simp only [walked_eq, loadAt_of ht]; rfl

theorem loadAlternateR_next {s : State} {rd rs1 : BitVec 5} {ea : AsiOperand} {n : Nat} {ext : DWord → DWord} {g : Target}
    (hn : n ≤ 8) (ha : alignedTo (asiAddress s rs1 ea) n = true) (h1 : asiPermitted s (asiNumber s ea) = true)
    (h2 : admitsLoad (asiClass (asiNumber s ea)) = true)
    (ht : translate s .load false (asiNumber s ea) (maskAm s (asiAddress s rs1 ea)) = .ok g) :
    ∃ t v, loadAlternateR s rd rs1 ea n ext = .next t ∧ Loaded s g.pa n g.little v ∧ ResultR s t rd (ext v) := by
  refine ⟨_, _, ?_, loaded_readMem s g.pa hn g.little, resultR_setR _ _ _⟩
  unfold loadAlternateR
  rw [requireAsi_of h1 h2 (requireAligned_of ha), ok_bind]
  simp only [walked_eq, loadAt_of ht]; rfl

/-- Where the ASI admits loads, the eight-byte alternate load is the memory load. -/
theorem loadAlternate8_memory {s : State} {asi : Byte} {a : DWord} {align : Effect Unit}
    (h : admitsLoad (asiClass asi) = true) :
    loadAlternate8 s asi a align = (do requireAsi s .load asi a align admitsLoad; let v ← loadAt s asi a 8; return (v, s)) := by
  unfold loadAlternate8
  rw [if_neg]
  · rfl
  · intro hc; rw [hc] at h; cases h

/-! ### Stores -/

theorem storeR_next {s : State} {rd rs1 : BitVec 5} {op2 : RegOrImm13} {n : Nat} {g : Target}
    (hw : Memory.wf s.paWidth s.memory = true) (hn : n ≤ 8) (ha : alignedTo (effectiveAddress s rs1 op2) n = true)
    (ht : translate s .store false (implicitAsi s) (maskAm s (effectiveAddress s rs1 op2)) = .ok g) :
    ∃ t, storeR s rd rs1 op2 n = .next t ∧ ResultStore s t g.pa n g.little (getR s rd) := by
  refine ⟨advance { s with memory := writeMem s.paWidth s.memory g.pa n g.little (getR s rd) }, ?_, stored_writeMem hw hn rfl, rfl⟩
  unfold storeR
  rw [requireAligned_of ha, ok_bind, storeAt_of ht]; rfl

theorem storeAlternateR_next {s : State} {rd rs1 : BitVec 5} {ea : AsiOperand} {n : Nat} {g : Target}
    (hw : Memory.wf s.paWidth s.memory = true) (hn : n ≤ 8) (ha : alignedTo (asiAddress s rs1 ea) n = true)
    (h1 : asiPermitted s (asiNumber s ea) = true) (h2 : admitsStore (asiClass (asiNumber s ea)) = true)
    (ht : translate s .store false (asiNumber s ea) (maskAm s (asiAddress s rs1 ea)) = .ok g) :
    ∃ t, storeAlternateR s rd rs1 ea n = .next t ∧ ResultStore s t g.pa n g.little (getR s rd) := by
  refine ⟨advance { s with memory := writeMem s.paWidth s.memory g.pa n g.little (getR s rd) }, ?_, stored_writeMem hw hn rfl, rfl⟩
  unfold storeAlternateR
  rw [requireAsi_of h1 h2 (requireAligned_of ha), ok_bind, storeAt_of ht]; rfl

/-- Where the ASI admits stores, the eight-byte alternate store is the memory store. -/
theorem storeAlternate8_memory {s : State} {asi : Byte} {a v : DWord} {align : Effect Unit}
    (h : admitsStore (asiClass asi) = true) :
    storeAlternate8 s asi a v align = (do requireAsi s .store asi a align admitsStore; storeAt s asi a 8 v) := by
  unfold storeAlternate8
  rw [if_neg]
  intro hc; rw [hc] at h; cases h

/-! ### Atomics -/

/-- The state after an atomic that stores `new`. -/
theorem resultAtomic_write {s : State} (hw : Memory.wf s.paWidth s.memory = true) (rd : BitVec 5) (g : Target) {n : Nat}
    (hn : n ≤ 8) (old new : DWord) :
    ResultAtomic s (advance (setR { s with memory := writeMem s.paWidth s.memory g.pa n g.little new } rd old)) rd old g.pa n
      g.little new := by
  refine ⟨wroteR_setR { s with memory := writeMem s.paWidth s.memory g.pa n g.little new } _ _, stored_writeMem hw hn ?_ (by simp), ?_⟩
  · simp
  · conv_lhs => rw [setR_eq]
    simp

theorem atomicR_next {s : State} {rd rs1 : BitVec 5} {op2 : RegOrImm13} {n : Nat} {new : DWord → Option DWord} {v : DWord}
    {g : Target} (hw : Memory.wf s.paWidth s.memory = true) (hn : n ≤ 8) (ha : alignedTo (effectiveAddress s rs1 op2) n = true)
    (ht : translate s .atomic false (implicitAsi s) (maskAm s (effectiveAddress s rs1 op2)) = .ok g)
    (hv : new (readMem s.paWidth s.memory g.pa n g.little) = some v) :
    ∃ t old, atomicR s rd rs1 op2 n new = .next t ∧ Loaded s g.pa n g.little old
      ∧ ResultAtomic s t rd old g.pa n g.little v := by
  refine ⟨_, _, ?_, loaded_readMem s g.pa hn g.little, resultAtomic_write hw rd g hn _ v⟩
  unfold atomicR
  rw [requireAligned_of ha, ok_bind, atomicAt_of ht, hv]; rfl

theorem atomicAlternateR_next {s : State} {rd : BitVec 5} {asi : Byte} {a : DWord} {n : Nat} {new : DWord → Option DWord}
    {g : Target} (hw : Memory.wf s.paWidth s.memory = true) (hn : n ≤ 8) (ha : alignedTo a n = true) (h1 : asiPermitted s asi = true)
    (h2 : admitsAtomic (asiClass asi) = true) (ht : translate s .atomic false asi (maskAm s a) = .ok g) :
    ∃ t old, atomicAlternateR s rd asi a n new = .next t ∧ Loaded s g.pa n g.little old
      ∧ old = readMem s.paWidth s.memory g.pa n g.little
      ∧ (∀ v, new old = some v → ResultAtomic s t rd old g.pa n g.little v) ∧ (new old = none → ResultR s t rd old) := by
  refine ⟨advance (setR (match new (readMem s.paWidth s.memory g.pa n g.little) with
      | none => s
      | some v => { s with memory := writeMem s.paWidth s.memory g.pa n g.little v }) rd (readMem s.paWidth s.memory g.pa n g.little)),
    _, ?_, loaded_readMem s g.pa hn g.little, rfl, ?_, ?_⟩
  · unfold atomicAlternateR
    rw [requireAsi_of h1 h2 (requireAligned_of ha), ok_bind, atomicAt_of ht, ok_bind]; rfl
  · intro v hv
    simp only [hv]
    exact resultAtomic_write hw rd g hn _ v
  · intro hv
    simp only [hv]
    exact resultR_setR _ _ _

end Sys2Proof.Machine
end

