-- ==== Sys2Proof/Laws/Chip.lean ====
section
/-! SUPPORT. What the operations on masks of strands, the parking of the model's own strand and a store to an MMU register can do. -/

namespace Sys2Proof.Machine

/-! ### Masks of strands -/

/-- The own mask has the bit of the own strand and no other. -/
theorem getLsbD_ownMask (c : Chip) (n : Nat) : (ownMask c).getLsbD n = decide (n = c.strand.toNat) := by
  have hs : c.strand.toNat < 64 := c.strand.isLt
  simp only [ownMask, BitVec.getLsbD_shiftLeft, BitVec.getLsbD_one]
  by_cases h : n = c.strand.toNat
  · simp [h, hs]
  · simp [h]; omega

theorem namesOwn_eq (c : Chip) (m : DWord) : namesOwn c m = m.getLsbD c.strand.toNat := by
  unfold namesOwn
  by_cases h : m.getLsbD c.strand.toNat = true
  · rw [h, bne_iff_ne]
    intro h0
    have := congrArg (BitVec.getLsbD · c.strand.toNat) h0
    simp [BitVec.getLsbD_and, getLsbD_ownMask, h] at this
  · rw [Bool.not_eq_true] at h
    rw [h, bne_eq_false_iff_eq]
    refine BitVec.eq_of_getLsbD_eq fun n _ => ?_
    rw [BitVec.getLsbD_and, getLsbD_ownMask]
    by_cases hn : n = c.strand.toNat
    · simp [hn, h]
    · simp [hn]

/-- The lowest bit of a mask is the one that has no lower one. -/
theorem getLsbD_lowestBit (v : DWord) (n : Nat) :
    (lowestBit v).getLsbD n = (v.getLsbD n && !decide (∃ m < n, v.getLsbD m = true)) := by
  rw [lowestBit, BitVec.getLsbD_and, BitVec.getLsbD_neg]
  by_cases h : v.getLsbD n = true
  · rw [h]
    simp only [BitVec.lt_of_getLsbD h, decide_true, Bool.true_and, Bool.true_xor]
  · rw [Bool.not_eq_true] at h
    rw [h, Bool.false_and, Bool.false_and]

theorem lowestBit_available (v : DWord) : lowestBit v &&& ~~~v = 0 := by
  rw [lowestBit, BitVec.and_assoc, BitVec.and_comm (-v), ← BitVec.and_assoc, BitVec.and_not_self]
  exact BitVec.zero_and

theorem lowestBit_ne_zero {v : DWord} (h : v ≠ 0) : lowestBit v ≠ 0 := by
  intro h0
  refine h (BitVec.eq_of_getLsbD_eq fun n _ => ?_)
  have hb : ∀ n, (∀ m < n, v.getLsbD m = false) → v.getLsbD n = false := by
    intro n hm
    have h1 := getLsbD_lowestBit v n
    have h2 : ¬∃ m < n, v.getLsbD m = true := fun ⟨m, hl, hv⟩ => by simp [hm m hl] at hv
    rw [h0, decide_eq_false h2, Bool.not_false, Bool.and_true] at h1
    exact h1.symm.trans BitVec.getLsbD_zero
  have : ∀ n, v.getLsbD n = false := fun n => Nat.strongRecOn n hb
  simp [this]

/-- A value ENABLE_ZERO_VALUE may have (rule R1406): some of the available strands, and at least one where any is. -/
theorem enableZeroValue_spec (c : Chip) :
    enableZeroValue c &&& ~~~c.available = 0 ∧ (c.available ≠ 0 → enableZeroValue c ≠ 0) := by
  unfold enableZeroValue
  split
  · exact ⟨lowestBit_available _, lowestBit_ne_zero⟩
  · rename_i h
    exact ⟨by rw [BitVec.and_assoc, BitVec.and_not_self]; exact BitVec.and_zero, fun _ => h⟩

/-! ### Parking -/

/-- All that ParkComplete does: it clears the own strand's bit of STRAND_RUNNING_STATUS where STRAND_RUNNING has it clear. -/
theorem parkOwn_spec (h : Chip) (c : Cmt) :
    parkOwn h c = { c with runningStatus := (parkOwn h c).runningStatus }
      ∧ ∀ n : Nat, (parkOwn h c).runningStatus.getLsbD n =
          (c.runningStatus.getLsbD n && (decide (n ≠ h.strand.toNat) || c.running.getLsbD n)) := by
  unfold parkOwn
  rw [namesOwn_eq]
  by_cases hr : c.running.getLsbD h.strand.toNat = true
  · rw [if_pos hr]
    refine ⟨rfl, fun n => ?_⟩
    by_cases hn : n = h.strand.toNat
    · simp [hn, hr]
    · simp [hn]
  · rw [if_neg hr]
    refine ⟨rfl, fun n => ?_⟩
    rw [Bool.not_eq_true] at hr
    simp only [BitVec.getLsbD_and, BitVec.getLsbD_not, getLsbD_ownMask]
    by_cases hn : n = h.strand.toNat
    · simp [hn, hr]
    · by_cases hl : n < 64
      · simp [hn, hl]
      · simp [BitVec.getLsbD_of_ge _ _ (Nat.le_of_not_lt hl)]

/-- A strand that STRAND_RUNNING names is not parked: FLUSH has no effect on it. -/
theorem parkComplete_of_running {s : State} (h : s.cmt.running.getLsbD s.chip.strand.toNat = true) : parkComplete s = s := by
  unfold parkComplete parkOwn
  rw [namesOwn_eq, if_pos h]

/-! ### A store to an MMU register -/

/-- All that STXA to an MMU register can do: write a context or the partition ID, or what the platform makes of it. -/
theorem mmuWrite_some {m n : Mmu} {asi : Byte} {va v : DWord} (h : mmuWrite m asi va v = some n) :
    (asi = 0x21 ∧ va = 0x8 ∧ n = { m with primaryContext := v.extractLsb' 0 16 })
    ∨ (asi = 0x21 ∧ va = 0x10 ∧ n = { m with secondaryContext := v.extractLsb' 0 16 })
    ∨ (asi = 0x58 ∧ va = 0x80 ∧ n = { m with partitionId := v &&& Config.partitionIdMask })
    ∨ ((mmuReadWrite asi va = true ∨ mmuWriteOnly asi va = true)
        ∧ ∃ k, Config.mmuStxa m asi va v = some k ∧ n = k.val) := by
  unfold mmuWrite at h
  split at h
  · split at h
    · cases h; exact .inl ⟨by assumption, by assumption, rfl⟩
    · split at h
      · cases h; exact .inr (.inl ⟨by assumption, by assumption, rfl⟩)
      · cases h
  · split at h
    · rename_i hp
      cases h
      simp only [Bool.and_eq_true, decide_eq_true_eq] at hp
      exact .inr (.inr (.inl ⟨hp.1, hp.2, rfl⟩))
    · split at h
      · rename_i hp
        obtain ⟨k, hk, rfl⟩ := Option.map_eq_some_iff.mp h
        exact .inr (.inr (.inr ⟨by simpa using hp, k, hk, rfl⟩))
      · cases h

end Sys2Proof.Machine
end

