-- ==== Sys2Proof/Laws/Encoding.lean ====
section
/-! SUPPORT. The fields of an encoded word, and what each operand field decodes to. -/

namespace Sys2Proof.Laws

/-! ### Fields of a concatenation -/

theorem field_left {v w : Nat} (x : BitVec v) (y : BitVec w) (lo n : Nat) (h : w ≤ lo) :
    (x ++ y).extractLsb' lo n = x.extractLsb' (lo - w) n :=
  BitVec.extractLsb'_append_eq_of_le h

theorem field_right {v w : Nat} (x : BitVec v) (y : BitVec w) (lo n : Nat) (h : lo + n ≤ w) :
    (x ++ y).extractLsb' lo n = y.extractLsb' lo n :=
  BitVec.extractLsb'_append_eq_of_add_le h

theorem field_all {w : Nat} (x : BitVec w) : x.extractLsb' 0 w = x := BitVec.extractLsb'_eq_self

/-! ### Formats -/

theorem enc3_op (op rd op3 rs1 low) : (enc3 op rd op3 rs1 low).extractLsb' 30 2 = op := by
  unfold enc3
  rw [field_left _ _ _ _ (by decide), field_left _ _ _ _ (by decide), field_left _ _ _ _ (by decide),
    field_left _ _ _ _ (by decide)]
  exact field_all op

theorem enc3_rd (op rd op3 rs1 low) : (enc3 op rd op3 rs1 low).extractLsb' 25 5 = rd := by
  unfold enc3
  rw [field_left _ _ _ _ (by decide), field_left _ _ _ _ (by decide), field_left _ _ _ _ (by decide),
    field_right _ _ _ _ (by decide)]
  exact field_all rd

theorem enc3_op3 (op rd op3 rs1 low) : (enc3 op rd op3 rs1 low).extractLsb' 19 6 = op3 := by
  unfold enc3
  rw [field_left _ _ _ _ (by decide), field_left _ _ _ _ (by decide), field_right _ _ _ _ (by decide)]
  exact field_all op3

theorem enc3_rs1 (op rd op3 rs1 low) : (enc3 op rd op3 rs1 low).extractLsb' 14 5 = rs1 := by
  unfold enc3
  rw [field_left _ _ _ _ (by decide), field_right _ _ _ _ (by decide)]
  exact field_all rs1

theorem enc3_low (op rd op3 rs1 low) : (enc3 op rd op3 rs1 low).extractLsb' 0 14 = low := by
  unfold enc3
  rw [field_right _ _ _ _ (by decide)]
  exact field_all low

theorem enc2_op (top op2 low) : (enc2 top op2 low).extractLsb' 30 2 = 0#2 := by
  unfold enc2
  rw [field_left _ _ _ _ (by decide), field_left _ _ _ _ (by decide), field_left _ _ _ _ (by decide)]
  exact field_all 0#2

theorem enc2_top (top op2 low) : (enc2 top op2 low).extractLsb' 25 5 = top := by
  unfold enc2
  rw [field_left _ _ _ _ (by decide), field_left _ _ _ _ (by decide), field_right _ _ _ _ (by decide)]
  exact field_all top

theorem enc2_op2 (top op2 low) : (enc2 top op2 low).extractLsb' 22 3 = op2 := by
  unfold enc2
  rw [field_left _ _ _ _ (by decide), field_right _ _ _ _ (by decide)]
  exact field_all op2

theorem enc2_low (top op2 low) : (enc2 top op2 low).extractLsb' 0 22 = low := by
  unfold enc2
  rw [field_right _ _ _ _ (by decide)]
  exact field_all low

/-- A format 2 word decodes by its fields. -/
theorem decode_enc2 (top op2 low) : decode (enc2 top op2 low) = decodeFmt2 top op2 low := by
  simp only [decode, enc2_op, enc2_top, enc2_op2, enc2_low, if_true]

/-- A format 3 word with `op = 2` decodes by its fields. -/
theorem decode_arith (rd op3 rs1 low) : decode (enc3 2#2 rd op3 rs1 low) = decodeArith rd op3 rs1 low := by
  simp only [decode, enc3_op, enc3_rd, enc3_op3, enc3_rs1, enc3_low]
  rfl

/-- A format 3 word with `op = 3` decodes by its fields. -/
theorem decode_mem (rd op3 rs1 low) : decode (enc3 3#2 rd op3 rs1 low) = decodeMem rd op3 rs1 low := by
  simp only [decode, enc3_op, enc3_rd, enc3_op3, enc3_rs1, enc3_low]
  rfl

/-- A CALL word. -/
theorem decode_call (disp30 : BitVec 30) : decode (1#2 ++ disp30) = .ok (.call disp30) := by
  have h : (1#2 ++ disp30).extractLsb' 30 2 = 1#2 := by
    rw [field_left _ _ _ _ (by decide)]; exact field_all 1#2
  have h0 : (1#2 ++ disp30).extractLsb' 0 30 = disp30 := by
    rw [field_right _ _ _ _ (by decide)]; exact field_all disp30
  simp only [decode, h, h0]
  rfl

/-! ### Operand fields -/

theorem encSrc2_reg_13 (rs2 : BitVec 5) : (encSrc2 (.reg rs2)).extractLsb' 13 1 = 0#1 := by
  unfold encSrc2
  rw [field_left _ _ _ _ (by decide), field_left _ _ _ _ (by decide)]
  exact field_all _

theorem encSrc2_reg_5 (rs2 : BitVec 5) : (encSrc2 (.reg rs2)).extractLsb' 5 8 = 0#8 := by
  unfold encSrc2
  rw [field_left _ _ _ _ (by decide), field_right _ _ _ _ (by decide)]
  exact field_all _

theorem encSrc2_reg_0 (rs2 : BitVec 5) : (encSrc2 (.reg rs2)).extractLsb' 0 5 = rs2 := by
  unfold encSrc2
  rw [field_right _ _ _ _ (by decide)]
  exact field_all _

theorem encSrc2_imm_13 (simm13 : BitVec 13) : (encSrc2 (.imm simm13)).extractLsb' 13 1 = 1#1 := by
  unfold encSrc2
  rw [field_left _ _ _ _ (by decide)]
  exact field_all _

theorem encSrc2_imm_0 (simm13 : BitVec 13) : (encSrc2 (.imm simm13)).extractLsb' 0 13 = simm13 := by
  unfold encSrc2
  rw [field_right _ _ _ _ (by decide)]
  exact field_all _

theorem encAsi_reg_13 (rs2 : BitVec 5) (asi : BitVec 8) : (encAsi (.reg rs2 asi)).extractLsb' 13 1 = 0#1 := by
  unfold encAsi
  rw [field_left _ _ _ _ (by decide), field_left _ _ _ _ (by decide)]
  exact field_all _

theorem encAsi_reg_5 (rs2 : BitVec 5) (asi : BitVec 8) : (encAsi (.reg rs2 asi)).extractLsb' 5 8 = asi := by
  unfold encAsi
  rw [field_left _ _ _ _ (by decide), field_right _ _ _ _ (by decide)]
  exact field_all _

theorem encAsi_reg_0 (rs2 : BitVec 5) (asi : BitVec 8) : (encAsi (.reg rs2 asi)).extractLsb' 0 5 = rs2 := by
  unfold encAsi
  rw [field_right _ _ _ _ (by decide)]
  exact field_all _

theorem encAsi_imm_13 (simm13 : BitVec 13) : (encAsi (.imm simm13)).extractLsb' 13 1 = 1#1 := by
  unfold encAsi
  rw [field_left _ _ _ _ (by decide)]
  exact field_all _

theorem encAsi_imm_0 (simm13 : BitVec 13) : (encAsi (.imm simm13)).extractLsb' 0 13 = simm13 := by
  unfold encAsi
  rw [field_right _ _ _ _ (by decide)]
  exact field_all _

theorem encCas_imm_13 (asi : BitVec 8) (rs2 : BitVec 5) : (encCas (.imm asi) rs2).extractLsb' 13 1 = 0#1 := by
  unfold encCas
  rw [field_left _ _ _ _ (by decide), field_left _ _ _ _ (by decide)]
  exact field_all _

theorem encCas_imm_5 (asi : BitVec 8) (rs2 : BitVec 5) : (encCas (.imm asi) rs2).extractLsb' 5 8 = asi := by
  unfold encCas
  rw [field_left _ _ _ _ (by decide), field_right _ _ _ _ (by decide)]
  exact field_all _

theorem encCas_imm_0 (asi : BitVec 8) (rs2 : BitVec 5) : (encCas (.imm asi) rs2).extractLsb' 0 5 = rs2 := by
  unfold encCas
  rw [field_right _ _ _ _ (by decide)]
  exact field_all _

theorem encCas_asiReg_13 (rs2 : BitVec 5) : (encCas .asiReg rs2).extractLsb' 13 1 = 1#1 := by
  unfold encCas
  rw [field_left _ _ _ _ (by decide), field_left _ _ _ _ (by decide)]
  exact field_all _

theorem encCas_asiReg_5 (rs2 : BitVec 5) : (encCas .asiReg rs2).extractLsb' 5 8 = 0#8 := by
  unfold encCas
  rw [field_left _ _ _ _ (by decide), field_right _ _ _ _ (by decide)]
  exact field_all _

theorem encCas_asiReg_0 (rs2 : BitVec 5) : (encCas .asiReg rs2).extractLsb' 0 5 = rs2 := by
  unfold encCas
  rw [field_right _ _ _ _ (by decide)]
  exact field_all _

theorem encCount32_reg_13 (rs2 : BitVec 5) : (encCount32 (.reg rs2)).extractLsb' 13 1 = 0#1 := by
  unfold encCount32
  rw [field_left _ _ _ _ (by decide), field_left _ _ _ _ (by decide), field_left _ _ _ _ (by decide)]
  exact field_all _

theorem encCount32_reg_12 (rs2 : BitVec 5) : (encCount32 (.reg rs2)).extractLsb' 12 1 = 0#1 := by
  unfold encCount32
  rw [field_left _ _ _ _ (by decide), field_left _ _ _ _ (by decide), field_right _ _ _ _ (by decide)]
  exact field_all _

theorem encCount32_reg_5 (rs2 : BitVec 5) : (encCount32 (.reg rs2)).extractLsb' 5 7 = 0#7 := by
  unfold encCount32
  rw [field_left _ _ _ _ (by decide), field_right _ _ _ _ (by decide)]
  exact field_all _

theorem encCount32_reg_0 (rs2 : BitVec 5) : (encCount32 (.reg rs2)).extractLsb' 0 5 = rs2 := by
  unfold encCount32
  rw [field_right _ _ _ _ (by decide)]
  exact field_all _

theorem encCount32_imm_13 (n : BitVec 5) : (encCount32 (.imm n)).extractLsb' 13 1 = 1#1 := by
  unfold encCount32
  rw [field_left _ _ _ _ (by decide), field_left _ _ _ _ (by decide), field_left _ _ _ _ (by decide)]
  exact field_all _

theorem encCount32_imm_12 (n : BitVec 5) : (encCount32 (.imm n)).extractLsb' 12 1 = 0#1 := by
  unfold encCount32
  rw [field_left _ _ _ _ (by decide), field_left _ _ _ _ (by decide), field_right _ _ _ _ (by decide)]
  exact field_all _

theorem encCount32_imm_5 (n : BitVec 5) : (encCount32 (.imm n)).extractLsb' 5 7 = 0#7 := by
  unfold encCount32
  rw [field_left _ _ _ _ (by decide), field_right _ _ _ _ (by decide)]
  exact field_all _

theorem encCount32_imm_0 (n : BitVec 5) : (encCount32 (.imm n)).extractLsb' 0 5 = n := by
  unfold encCount32
  rw [field_right _ _ _ _ (by decide)]
  exact field_all _

theorem encCount64_reg_13 (rs2 : BitVec 5) : (encCount64 (.reg rs2)).extractLsb' 13 1 = 0#1 := by
  unfold encCount64
  rw [field_left _ _ _ _ (by decide), field_left _ _ _ _ (by decide), field_left _ _ _ _ (by decide)]
  exact field_all _

theorem encCount64_reg_12 (rs2 : BitVec 5) : (encCount64 (.reg rs2)).extractLsb' 12 1 = 1#1 := by
  unfold encCount64
  rw [field_left _ _ _ _ (by decide), field_left _ _ _ _ (by decide), field_right _ _ _ _ (by decide)]
  exact field_all _

theorem encCount64_reg_5 (rs2 : BitVec 5) : (encCount64 (.reg rs2)).extractLsb' 5 7 = 0#7 := by
  unfold encCount64
  rw [field_left _ _ _ _ (by decide), field_right _ _ _ _ (by decide)]
  exact field_all _

theorem encCount64_reg_0 (rs2 : BitVec 5) : (encCount64 (.reg rs2)).extractLsb' 0 5 = rs2 := by
  unfold encCount64
  rw [field_right _ _ _ _ (by decide)]
  exact field_all _

theorem encCount64_imm_13 (n : BitVec 6) : (encCount64 (.imm n)).extractLsb' 13 1 = 1#1 := by
  unfold encCount64
  rw [field_left _ _ _ _ (by decide), field_left _ _ _ _ (by decide), field_left _ _ _ _ (by decide)]
  exact field_all _

theorem encCount64_imm_12 (n : BitVec 6) : (encCount64 (.imm n)).extractLsb' 12 1 = 1#1 := by
  unfold encCount64
  rw [field_left _ _ _ _ (by decide), field_left _ _ _ _ (by decide), field_right _ _ _ _ (by decide)]
  exact field_all _

theorem encCount64_imm_6 (n : BitVec 6) : (encCount64 (.imm n)).extractLsb' 6 6 = 0#6 := by
  unfold encCount64
  rw [field_left _ _ _ _ (by decide), field_right _ _ _ _ (by decide)]
  exact field_all _

theorem encCount64_imm_0 (n : BitVec 6) : (encCount64 (.imm n)).extractLsb' 0 6 = n := by
  unfold encCount64
  rw [field_right _ _ _ _ (by decide)]
  exact field_all _

theorem encMovcc_reg_13 (cc : BitVec 2) (rs2 : BitVec 5) : (encMovcc cc (.reg rs2)).extractLsb' 13 1 = 0#1 := by
  unfold encMovcc
  rw [field_left _ _ _ _ (by decide), field_left _ _ _ _ (by decide), field_left _ _ _ _ (by decide)]
  exact field_all _

theorem encMovcc_reg_11 (cc : BitVec 2) (rs2 : BitVec 5) : (encMovcc cc (.reg rs2)).extractLsb' 11 2 = cc := by
  unfold encMovcc
  rw [field_left _ _ _ _ (by decide), field_left _ _ _ _ (by decide), field_right _ _ _ _ (by decide)]
  exact field_all _

theorem encMovcc_reg_5 (cc : BitVec 2) (rs2 : BitVec 5) : (encMovcc cc (.reg rs2)).extractLsb' 5 6 = 0#6 := by
  unfold encMovcc
  rw [field_left _ _ _ _ (by decide), field_right _ _ _ _ (by decide)]
  exact field_all _

theorem encMovcc_reg_0 (cc : BitVec 2) (rs2 : BitVec 5) : (encMovcc cc (.reg rs2)).extractLsb' 0 5 = rs2 := by
  unfold encMovcc
  rw [field_right _ _ _ _ (by decide)]
  exact field_all _

theorem encMovcc_imm_13 (cc : BitVec 2) (n : BitVec 11) : (encMovcc cc (.imm n)).extractLsb' 13 1 = 1#1 := by
  unfold encMovcc
  rw [field_left _ _ _ _ (by decide), field_left _ _ _ _ (by decide)]
  exact field_all _

theorem encMovcc_imm_11 (cc : BitVec 2) (n : BitVec 11) : (encMovcc cc (.imm n)).extractLsb' 11 2 = cc := by
  unfold encMovcc
  rw [field_left _ _ _ _ (by decide), field_right _ _ _ _ (by decide)]
  exact field_all _

theorem encMovcc_imm_0 (cc : BitVec 2) (n : BitVec 11) : (encMovcc cc (.imm n)).extractLsb' 0 11 = n := by
  unfold encMovcc
  rw [field_right _ _ _ _ (by decide)]
  exact field_all _

theorem encMovr_reg_13 (rcond : BitVec 3) (rs2 : BitVec 5) : (encMovr rcond (.reg rs2)).extractLsb' 13 1 = 0#1 := by
  unfold encMovr
  rw [field_left _ _ _ _ (by decide), field_left _ _ _ _ (by decide), field_left _ _ _ _ (by decide)]
  exact field_all _

theorem encMovr_reg_10 (rcond : BitVec 3) (rs2 : BitVec 5) : (encMovr rcond (.reg rs2)).extractLsb' 10 3 = rcond := by
  unfold encMovr
  rw [field_left _ _ _ _ (by decide), field_left _ _ _ _ (by decide), field_right _ _ _ _ (by decide)]
  exact field_all _

theorem encMovr_reg_5 (rcond : BitVec 3) (rs2 : BitVec 5) : (encMovr rcond (.reg rs2)).extractLsb' 5 5 = 0#5 := by
  unfold encMovr
  rw [field_left _ _ _ _ (by decide), field_right _ _ _ _ (by decide)]
  exact field_all _

theorem encMovr_reg_0 (rcond : BitVec 3) (rs2 : BitVec 5) : (encMovr rcond (.reg rs2)).extractLsb' 0 5 = rs2 := by
  unfold encMovr
  rw [field_right _ _ _ _ (by decide)]
  exact field_all _

theorem encMovr_imm_13 (rcond : BitVec 3) (n : BitVec 10) : (encMovr rcond (.imm n)).extractLsb' 13 1 = 1#1 := by
  unfold encMovr
  rw [field_left _ _ _ _ (by decide), field_left _ _ _ _ (by decide)]
  exact field_all _

theorem encMovr_imm_10 (rcond : BitVec 3) (n : BitVec 10) : (encMovr rcond (.imm n)).extractLsb' 10 3 = rcond := by
  unfold encMovr
  rw [field_left _ _ _ _ (by decide), field_right _ _ _ _ (by decide)]
  exact field_all _

theorem encMovr_imm_0 (rcond : BitVec 3) (n : BitVec 10) : (encMovr rcond (.imm n)).extractLsb' 0 10 = n := by
  unfold encMovr
  rw [field_right _ _ _ _ (by decide)]
  exact field_all _

theorem encTcc_reg_13 (cc : BitVec 2) (rs2 : BitVec 5) : (encTcc cc (.reg rs2)).extractLsb' 13 1 = 0#1 := by
  unfold encTcc
  rw [field_left _ _ _ _ (by decide), field_left _ _ _ _ (by decide), field_left _ _ _ _ (by decide)]
  exact field_all _

theorem encTcc_reg_11 (cc : BitVec 2) (rs2 : BitVec 5) : (encTcc cc (.reg rs2)).extractLsb' 11 2 = cc := by
  unfold encTcc
  rw [field_left _ _ _ _ (by decide), field_left _ _ _ _ (by decide), field_right _ _ _ _ (by decide)]
  exact field_all _

theorem encTcc_reg_5 (cc : BitVec 2) (rs2 : BitVec 5) : (encTcc cc (.reg rs2)).extractLsb' 5 6 = 0#6 := by
  unfold encTcc
  rw [field_left _ _ _ _ (by decide), field_right _ _ _ _ (by decide)]
  exact field_all _

theorem encTcc_reg_0 (cc : BitVec 2) (rs2 : BitVec 5) : (encTcc cc (.reg rs2)).extractLsb' 0 5 = rs2 := by
  unfold encTcc
  rw [field_right _ _ _ _ (by decide)]
  exact field_all _

theorem encTcc_imm_13 (cc : BitVec 2) (n : BitVec 8) : (encTcc cc (.imm n)).extractLsb' 13 1 = 1#1 := by
  unfold encTcc
  rw [field_left _ _ _ _ (by decide), field_left _ _ _ _ (by decide), field_left _ _ _ _ (by decide)]
  exact field_all _

theorem encTcc_imm_11 (cc : BitVec 2) (n : BitVec 8) : (encTcc cc (.imm n)).extractLsb' 11 2 = cc := by
  unfold encTcc
  rw [field_left _ _ _ _ (by decide), field_left _ _ _ _ (by decide), field_right _ _ _ _ (by decide)]
  exact field_all _

theorem encTcc_imm_8 (cc : BitVec 2) (n : BitVec 8) : (encTcc cc (.imm n)).extractLsb' 8 3 = 0#3 := by
  unfold encTcc
  rw [field_left _ _ _ _ (by decide), field_right _ _ _ _ (by decide)]
  exact field_all _

theorem encTcc_imm_0 (cc : BitVec 2) (n : BitVec 8) : (encTcc cc (.imm n)).extractLsb' 0 8 = n := by
  unfold encTcc
  rw [field_right _ _ _ _ (by decide)]
  exact field_all _

theorem decSrc2_enc (op2 : RegOrImm13) : decSrc2 (encSrc2 op2) = some op2 := by
  cases op2 with
  | reg _ => simp only [decSrc2, encSrc2_reg_13, encSrc2_reg_5, encSrc2_reg_0]; rfl
  | imm _ => simp only [decSrc2, encSrc2_imm_13, encSrc2_imm_0]; rfl

theorem withSrc2_enc (name : String) (op2 : RegOrImm13) (k : RegOrImm13 → Instr) :
    withSrc2 name (encSrc2 op2) k = .ok (k op2) := by
  simp only [withSrc2, decSrc2_enc, orReject]

theorem decAsi_enc (ea : AsiOperand) : decAsi (encAsi ea) = ea := by
  cases ea with
  | reg _ _ => simp only [decAsi, encAsi_reg_13, encAsi_reg_5, encAsi_reg_0]; rfl
  | imm _ => simp only [decAsi, encAsi_imm_13, encAsi_imm_0]; rfl

theorem decCas_enc (sel : AsiSelect) (rs2 : BitVec 5) : decCas (encCas sel rs2) = some sel := by
  cases sel with
  | imm _ => simp only [decCas, encCas_imm_13, encCas_imm_5]; rfl
  | asiReg => simp only [decCas, encCas_asiReg_13, encCas_asiReg_5]; rfl

theorem encCas_rs2 (sel : AsiSelect) (rs2 : BitVec 5) : (encCas sel rs2).extractLsb' 0 5 = rs2 := by
  cases sel with
  | imm _ => exact encCas_imm_0 _ _
  | asiReg => exact encCas_asiReg_0 _

theorem decCount32_enc (c : Count32) : decCount32 (encCount32 c) = some c := by
  cases c with
  | reg _ => simp only [decCount32, encCount32_reg_13, encCount32_reg_5, encCount32_reg_0]; rfl
  | imm _ => simp only [decCount32, encCount32_imm_13, encCount32_imm_5, encCount32_imm_0]; rfl

theorem encCount32_x (c : Count32) : (encCount32 c).extractLsb' 12 1 = 0#1 := by
  cases c with
  | reg _ => exact encCount32_reg_12 _
  | imm _ => exact encCount32_imm_12 _

theorem decCount64_enc (c : Count64) : decCount64 (encCount64 c) = some c := by
  cases c with
  | reg _ => simp only [decCount64, encCount64_reg_13, encCount64_reg_5, encCount64_reg_0]; rfl
  | imm _ => simp only [decCount64, encCount64_imm_13, encCount64_imm_6, encCount64_imm_0]; rfl

theorem encCount64_x (c : Count64) : (encCount64 c).extractLsb' 12 1 = 1#1 := by
  cases c with
  | reg _ => exact encCount64_reg_12 _
  | imm _ => exact encCount64_imm_12 _

theorem decIcc_enc (cc : IccSelect) : decIcc (encIcc cc) = some cc := by cases cc <;> rfl

theorem decMovccSrc_enc (cc : BitVec 2) (op2 : RegOrImm11) : decMovccSrc (encMovcc cc op2) = some op2 := by
  cases op2 with
  | reg _ => simp only [decMovccSrc, encMovcc_reg_13, encMovcc_reg_5, encMovcc_reg_0]; rfl
  | imm _ => simp only [decMovccSrc, encMovcc_imm_13, encMovcc_imm_0]; rfl

theorem encMovcc_cc (cc : BitVec 2) (op2 : RegOrImm11) : (encMovcc cc op2).extractLsb' 11 2 = cc := by
  cases op2 with
  | reg _ => exact encMovcc_reg_11 _ _
  | imm _ => exact encMovcc_imm_11 _ _

theorem decMovrSrc_enc (rcond : BitVec 3) (op2 : RegOrImm10) : decMovrSrc (encMovr rcond op2) = some op2 := by
  cases op2 with
  | reg _ => simp only [decMovrSrc, encMovr_reg_13, encMovr_reg_5, encMovr_reg_0]; rfl
  | imm _ => simp only [decMovrSrc, encMovr_imm_13, encMovr_imm_0]; rfl

theorem encMovr_rcond (rcond : BitVec 3) (op2 : RegOrImm10) : (encMovr rcond op2).extractLsb' 10 3 = rcond := by
  cases op2 with
  | reg _ => exact encMovr_reg_10 _ _
  | imm _ => exact encMovr_imm_10 _ _

theorem decTrapOperand_enc (cc : BitVec 2) (op2 : TrapOperand) : decTrapOperand (encTcc cc op2) = some op2 := by
  cases op2 with
  | reg _ => simp only [decTrapOperand, encTcc_reg_13, encTcc_reg_5, encTcc_reg_0]; rfl
  | imm _ => simp only [decTrapOperand, encTcc_imm_13, encTcc_imm_8, encTcc_imm_0]; rfl

theorem encTcc_cc (cc : BitVec 2) (op2 : TrapOperand) : (encTcc cc op2).extractLsb' 11 2 = cc := by
  cases op2 with
  | reg _ => exact encTcc_reg_11 _ _
  | imm _ => exact encTcc_imm_11 _ _

/-- `opf` and `rs2` of the low 14 bits (rule R416). -/
theorem opf_field (opf : BitVec 9) (rs2 : BitVec 5) : (opf ++ rs2).extractLsb' 5 9 = opf := by
  rw [field_left _ _ _ _ (by decide)]; exact field_all opf

theorem rs2_field (opf : BitVec 9) (rs2 : BitVec 5) : (opf ++ rs2).extractLsb' 0 5 = rs2 := by
  rw [field_right _ _ _ _ (by decide)]; exact field_all rs2

/-- `cond` below a fixed bit. -/
theorem bit_cond (b : BitVec 1) (c : BitVec 4) : (b ++ c).extractLsb' 4 1 = b ∧ (b ++ c).extractLsb' 0 4 = c := by
  constructor
  · rw [field_left _ _ _ _ (by decide)]; exact field_all b
  · rw [field_right _ _ _ _ (by decide)]; exact field_all c

/-! ### Opcode groups -/

theorem decode_fpop1 (rd rs1 opf rs2) :
    decode (enc3 2#2 rd 0x34#6 rs1 (opf ++ rs2)) = decodeFPop1 rd rs1 opf rs2 := by
  rw [decode_arith]
  show decodeFPop1 rd rs1 ((opf ++ rs2).extractLsb' 5 9) ((opf ++ rs2).extractLsb' 0 5) = _
  rw [opf_field, rs2_field]

theorem decode_fpop2 (rd rs1 opf rs2) :
    decode (enc3 2#2 rd 0x35#6 rs1 (opf ++ rs2)) = decodeFPop2 rd rs1 opf rs2 := by
  rw [decode_arith]
  show decodeFPop2 rd rs1 ((opf ++ rs2).extractLsb' 5 9) ((opf ++ rs2).extractLsb' 0 5) = _
  rw [opf_field, rs2_field]

theorem decode_vis (rd rs1 opf rs2) :
    decode (enc3 2#2 rd 0x36#6 rs1 (opf ++ rs2)) = decodeVis rd rs1 opf rs2 := by
  rw [decode_arith]
  show decodeVis rd rs1 ((opf ++ rs2).extractLsb' 5 9) ((opf ++ rs2).extractLsb' 0 5) = _
  rw [opf_field, rs2_field]

theorem decode_tcc (cond : BitVec 4) (rs1 : BitVec 5) (low : BitVec 14) :
    decode (enc3 2#2 (0#1 ++ cond) 0x3a#6 rs1 low) = decodeTcc 0#1 cond rs1 low := by
  rw [decode_arith]
  show decodeTcc ((0#1 ++ cond).extractLsb' 4 1) ((0#1 ++ cond).extractLsb' 0 4) rs1 low = _
  rw [(bit_cond _ _).1, (bit_cond _ _).2]

/-- `mode` of SIAM in `rs2` (rule R1113). -/
theorem siam_fields (mode : BitVec 3) : (0#2 ++ mode).extractLsb' 3 2 = 0#2 ∧ (0#2 ++ mode).extractLsb' 0 3 = mode := by
  constructor
  · rw [field_left _ _ _ _ (by decide)]; exact field_all _
  · rw [field_right _ _ _ _ (by decide)]; exact field_all _

theorem append3 (opf : BitVec 9) (mode : BitVec 3) : (opf ++ 0#2 ++ mode : BitVec 14) = opf ++ (0#2 ++ mode) := by
  apply BitVec.eq_of_toNat_eq
  simp only [BitVec.toNat_append, BitVec.toNat_ofNat, Nat.shiftLeft_eq]
  have h := mode.isLt
  rw [show (0 % 2 ^ 2 * 2 ^ 3 ||| mode.toNat) = mode.toNat from by simp]
  simp [Nat.mul_assoc]

/-! ### Branches -/

theorem decode_bicc (a : BitVec 1) (cond : BitVec 4) (disp) :
    decode (enc2 (a ++ cond) 2#3 disp) = decodeBicc a cond disp := by
  rw [decode_enc2]
  show decodeBicc ((a ++ cond).extractLsb' 4 1) ((a ++ cond).extractLsb' 0 4) disp = _
  rw [(bit_cond _ _).1, (bit_cond _ _).2]

theorem decode_fbfcc (a : BitVec 1) (cond : BitVec 4) (disp) :
    decode (enc2 (a ++ cond) 6#3 disp) = decodeFbfcc a cond disp := by
  rw [decode_enc2]
  show decodeFbfcc ((a ++ cond).extractLsb' 4 1) ((a ++ cond).extractLsb' 0 4) disp = _
  rw [(bit_cond _ _).1, (bit_cond _ _).2]

/-- `cc`, `p` and the displacement of a prediction branch (rule R405). -/
theorem bp_fields (cc : BitVec 2) (p : BitVec 1) (disp : BitVec 19) :
    (cc ++ p ++ disp).extractLsb' 20 2 = cc ∧ (cc ++ p ++ disp).extractLsb' 19 1 = p
      ∧ (cc ++ p ++ disp).extractLsb' 0 19 = disp := by
  refine ⟨?_, ?_, ?_⟩
  · rw [field_left _ _ _ _ (by decide), field_left _ _ _ _ (by decide)]; exact field_all _
  · rw [field_left _ _ _ _ (by decide), field_right _ _ _ _ (by decide)]; exact field_all _
  · rw [field_right _ _ _ _ (by decide)]; exact field_all _

theorem decode_bpcc (a : BitVec 1) (cond : BitVec 4) (cc : BitVec 2) (p : BitVec 1) (disp : BitVec 19) :
    decode (enc2 (a ++ cond) 1#3 (cc ++ p ++ disp)) = decodeBpcc a cond cc p disp := by
  rw [decode_enc2]
  show decodeBpcc ((a ++ cond).extractLsb' 4 1) ((a ++ cond).extractLsb' 0 4) ((cc ++ p ++ disp).extractLsb' 20 2)
    ((cc ++ p ++ disp).extractLsb' 19 1) ((cc ++ p ++ disp).extractLsb' 0 19) = _
  rw [(bit_cond _ _).1, (bit_cond _ _).2, (bp_fields _ _ _).1, (bp_fields _ _ _).2.1, (bp_fields _ _ _).2.2]

theorem decode_fbpfcc (a : BitVec 1) (cond : BitVec 4) (cc : BitVec 2) (p : BitVec 1) (disp : BitVec 19) :
    decode (enc2 (a ++ cond) 5#3 (cc ++ p ++ disp)) = decodeFbpfcc a cond cc p disp := by
  rw [decode_enc2]
  show decodeFbpfcc ((a ++ cond).extractLsb' 4 1) ((a ++ cond).extractLsb' 0 4) ((cc ++ p ++ disp).extractLsb' 20 2)
    ((cc ++ p ++ disp).extractLsb' 19 1) ((cc ++ p ++ disp).extractLsb' 0 19) = _
  rw [(bit_cond _ _).1, (bit_cond _ _).2, (bp_fields _ _ _).1, (bp_fields _ _ _).2.1, (bp_fields _ _ _).2.2]

/-- The top field of BPr: `a`, bit 28 and `rcond` (rule R406). -/
theorem bpr_top (a : BitVec 1) (rcond : BitVec 3) :
    (a ++ 0#1 ++ rcond).extractLsb' 4 1 = a ∧ (a ++ 0#1 ++ rcond).extractLsb' 3 1 = 0#1
      ∧ (a ++ 0#1 ++ rcond).extractLsb' 0 3 = rcond := by
  refine ⟨?_, ?_, ?_⟩
  · rw [field_left _ _ _ _ (by decide), field_left _ _ _ _ (by decide)]; exact field_all _
  · rw [field_left _ _ _ _ (by decide), field_right _ _ _ _ (by decide)]; exact field_all _
  · rw [field_right _ _ _ _ (by decide)]; exact field_all _

theorem encD16_20 (p rs1 disp16) : (encD16 p rs1 disp16).extractLsb' 20 2 = disp16.extractLsb' 14 2 := by
  unfold encD16
  rw [field_left _ _ _ _ (by decide), field_left _ _ _ _ (by decide), field_left _ _ _ _ (by decide)]; exact field_all _

theorem encD16_19 (p rs1 disp16) : (encD16 p rs1 disp16).extractLsb' 19 1 = p := by
  unfold encD16
  rw [field_left _ _ _ _ (by decide), field_left _ _ _ _ (by decide), field_right _ _ _ _ (by decide)]; exact field_all _

theorem encD16_14 (p rs1 disp16) : (encD16 p rs1 disp16).extractLsb' 14 5 = rs1 := by
  unfold encD16
  rw [field_left _ _ _ _ (by decide), field_right _ _ _ _ (by decide)]; exact field_all _

theorem encD16_0 (p rs1 disp16) : (encD16 p rs1 disp16).extractLsb' 0 14 = disp16.extractLsb' 0 14 := by
  unfold encD16
  rw [field_right _ _ _ _ (by decide)]; exact field_all _

/-- The two parts of a 16-bit displacement put together again. -/
theorem disp16_joined (d : BitVec 16) : d.extractLsb' 14 2 ++ d.extractLsb' 0 14 = d := by
  apply BitVec.eq_of_getLsbD_eq
  intro i hi
  simp only [BitVec.getLsbD_append, BitVec.getLsbD_extractLsb']
  by_cases h : i < 14
  · simp [h]
  · have h2 : i - 14 < 2 := by omega
    simp [h, h2, show 14 + (i - 14) = i by omega]

theorem decode_bpr (a : BitVec 1) (rcond : BitVec 3) (p : BitVec 1) (rs1 : BitVec 5) (disp16 : BitVec 16) :
    decode (enc2 (a ++ 0#1 ++ rcond) 3#3 (encD16 p rs1 disp16)) = decodeBpr a 0#1 rcond p rs1 disp16 := by
  rw [decode_enc2]
  show decodeBpr ((a ++ 0#1 ++ rcond).extractLsb' 4 1) ((a ++ 0#1 ++ rcond).extractLsb' 3 1)
    ((a ++ 0#1 ++ rcond).extractLsb' 0 3) ((encD16 p rs1 disp16).extractLsb' 19 1)
    ((encD16 p rs1 disp16).extractLsb' 14 5)
    ((encD16 p rs1 disp16).extractLsb' 20 2 ++ (encD16 p rs1 disp16).extractLsb' 0 14) = _
  rw [(bpr_top _ _).1, (bpr_top _ _).2.1, (bpr_top _ _).2.2, encD16_19, encD16_14, encD16_20, encD16_0, disp16_joined]

/-! ### Conditional moves -/

theorem decode_movcc (rd : BitVec 5) (b : BitVec 1) (cond : BitVec 4) (low : BitVec 14) :
    decode (enc3 2#2 rd 0x2c#6 (b ++ cond) low) = decodeMovcc rd b cond low := by
  rw [decode_arith]
  show decodeMovcc rd ((b ++ cond).extractLsb' 4 1) ((b ++ cond).extractLsb' 0 4) low = _
  rw [(bit_cond _ _).1, (bit_cond _ _).2]

/-- The fields of an FMOVcc word (rule R418). -/
theorem fmovcc_opf (cc : BitVec 2) (low6 : BitVec 6) (rs2 : BitVec 5) :
    (0#1 ++ cc ++ low6 ++ rs2).extractLsb' 5 9 = 0#1 ++ cc ++ low6
      ∧ (0#1 ++ cc ++ low6 ++ rs2).extractLsb' 0 5 = rs2 := by
  constructor
  · rw [field_left _ _ _ _ (by decide)]; exact field_all _
  · rw [field_right _ _ _ _ (by decide)]; exact field_all _

theorem fmovcc_fields (cc : BitVec 2) (low6 : BitVec 6) :
    (0#1 ++ cc ++ low6).extractLsb' 6 3 = 0#1 ++ cc ∧ (0#1 ++ cc ++ low6).extractLsb' 0 6 = low6 := by
  constructor
  · rw [field_left _ _ _ _ (by decide)]; exact field_all _
  · rw [field_right _ _ _ _ (by decide)]; exact field_all _

theorem decode_fmovcc (rd : BitVec 5) (cond : BitVec 4) (opfcc : BitVec 3) (low6 : BitVec 6) (rs2 : BitVec 5)
    (h : low6 = 1#6 ∨ low6 = 2#6 ∨ low6 = 3#6) :
    decode (enc3 2#2 rd 0x35#6 (0#1 ++ cond) (opfcc ++ low6 ++ rs2)) = decodeFmovcc rd (0#1 ++ cond) opfcc low6 rs2 := by
  rw [decode_fpop2]
  have h1 : (opfcc ++ low6).extractLsb' 6 3 = opfcc := by
    rw [field_left _ _ _ _ (by decide)]; exact field_all _
  have h2 : (opfcc ++ low6).extractLsb' 0 6 = low6 := by
    rw [field_right _ _ _ _ (by decide)]; exact field_all _
  have hn : ∀ v : BitVec 9, v.extractLsb' 0 6 ≠ low6 → opfcc ++ low6 ≠ v := fun v hv e => hv (by rw [← e, h2])
  unfold decodeFPop2
  rw [if_neg (hn _ ?_), if_neg (hn _ ?_), if_neg (hn _ ?_), if_neg (hn _ ?_), if_neg (hn _ ?_), if_neg (hn _ ?_),
    if_pos (by rw [h2]; exact h), h1, h2]
  all_goals rcases h with rfl | rfl | rfl <;> decide

theorem fmovcc_rs1 (cond : BitVec 4) :
    (0#1 ++ cond).extractLsb' 4 1 = 0#1 ∧ (0#1 ++ cond).extractLsb' 0 4 = cond := bit_cond _ _

theorem fmovcc_cc (cc : BitVec 2) :
    (0#1 ++ cc).extractLsb' 2 1 = 0#1 ∧ (0#1 ++ cc).extractLsb' 0 2 = cc := by
  constructor
  · rw [field_left _ _ _ _ (by decide)]; exact field_all _
  · rw [field_right _ _ _ _ (by decide)]; exact field_all _

/-- `cc` of FCMP in `rd` (rule R417). -/
theorem fcmp_cc (cc : BitVec 2) :
    (0#3 ++ cc).extractLsb' 2 3 = 0#3 ∧ (0#3 ++ cc).extractLsb' 0 2 = cc := by
  constructor
  · rw [field_left _ _ _ _ (by decide)]; exact field_all _
  · rw [field_right _ _ _ _ (by decide)]; exact field_all _

/-! ### IMPDEP2 and MEMBAR -/

theorem impdep2_fields (m : BitVec 7) (op4 : BitVec 2) (rs2 : BitVec 5) :
    (m ++ op4 ++ rs2).extractLsb' 7 7 = m ∧ (m ++ op4 ++ rs2).extractLsb' 5 2 = op4
      ∧ (m ++ op4 ++ rs2).extractLsb' 0 5 = rs2 := by
  refine ⟨?_, ?_, ?_⟩
  · rw [field_left _ _ _ _ (by decide), field_left _ _ _ _ (by decide)]; exact field_all _
  · rw [field_left _ _ _ _ (by decide), field_right _ _ _ _ (by decide)]; exact field_all _
  · rw [field_right _ _ _ _ (by decide)]; exact field_all _

theorem mid_joined (d : BitVec 12) : d.extractLsb' 7 5 ++ d.extractLsb' 0 7 = d := by
  apply BitVec.eq_of_getLsbD_eq
  intro i hi
  simp only [BitVec.getLsbD_append, BitVec.getLsbD_extractLsb']
  by_cases h : i < 7
  · simp [h]
  · have h2 : i - 7 < 5 := by omega
    simp [h, h2, show 7 + (i - 7) = i by omega]

theorem decode_impdep2 (rd : BitVec 5) (mid : BitVec 12) (op4 : BitVec 2) (rs2 : BitVec 5) :
    decode (encImpdep2 rd mid op4 rs2) = if op4 = 0#2 then .ok (.impdep2a rd mid rs2) else .ok (.impdep2b rd mid op4 rs2) := by
  unfold encImpdep2
  rw [decode_arith]
  generalize hl : (mid.extractLsb' 0 7 ++ op4 ++ rs2) = low
  have h1 : low.extractLsb' 7 7 = mid.extractLsb' 0 7 := by rw [← hl]; exact (impdep2_fields _ _ _).1
  have h2 : low.extractLsb' 5 2 = op4 := by rw [← hl]; exact (impdep2_fields _ _ _).2.1
  have h3 : low.extractLsb' 0 5 = rs2 := by rw [← hl]; exact (impdep2_fields _ _ _).2.2
  show (if low.extractLsb' 5 2 = 0#2 then
      Except.ok (Instr.impdep2a rd (mid.extractLsb' 7 5 ++ low.extractLsb' 7 7) (low.extractLsb' 0 5))
    else Except.ok (Instr.impdep2b rd (mid.extractLsb' 7 5 ++ low.extractLsb' 7 7) (low.extractLsb' 5 2) (low.extractLsb' 0 5)))
    = _
  rw [h1, h2, h3, mid_joined]

theorem membar_fields (c : BitVec 3) (m : BitVec 4) :
    (1#1 ++ 0#6 ++ c ++ m).extractLsb' 13 1 = 1#1 ∧ (1#1 ++ 0#6 ++ c ++ m).extractLsb' 7 6 = 0#6
      ∧ (1#1 ++ 0#6 ++ c ++ m).extractLsb' 4 3 = c ∧ (1#1 ++ 0#6 ++ c ++ m).extractLsb' 0 4 = m := by
  refine ⟨?_, ?_, ?_, ?_⟩
  · rw [field_left _ _ _ _ (by decide), field_left _ _ _ _ (by decide), field_left _ _ _ _ (by decide)]; exact field_all _
  · rw [field_left _ _ _ _ (by decide), field_left _ _ _ _ (by decide), field_right _ _ _ _ (by decide)]; exact field_all _
  · rw [field_left _ _ _ _ (by decide), field_right _ _ _ _ (by decide)]; exact field_all _
  · rw [field_right _ _ _ _ (by decide)]; exact field_all _

theorem sir_fields (n : BitVec 13) : (1#1 ++ n).extractLsb' 13 1 = 1#1 ∧ (1#1 ++ n).extractLsb' 0 13 = n := by
  constructor
  · rw [field_left _ _ _ _ (by decide)]; exact field_all _
  · rw [field_right _ _ _ _ (by decide)]; exact field_all _

end Sys2Proof.Laws
end

