-- ==== Sys2Proof/Laws/Events.lean ====
section
/-! SUPPORT. What the moves of other agents can do: which strands an interrupt ID names, and what the delivery of an interrupt changes. -/

namespace Sys2Proof.Machine

/-! ### Interrupt IDs (rule R1403) -/

theorem mem_strandsWithIntrId {s : State} {id : BitVec 16} {n : Nat} :
    n ∈ strandsWithIntrId s id ↔
      n < 64 ∧ s.chip.available.getLsbD n = true ∧ intrIdOf s (BitVec.ofNat 6 n) = id := by
  simp [strandsWithIntrId]

/-- No strand is named twice, so two names are two strands. -/
theorem strandsWithIntrId_nodup (s : State) (id : BitVec 16) : (strandsWithIntrId s id).Nodup :=
  List.nodup_range.filter _

/-- The interrupt IDs that a power-on reset gives are pairwise distinct (rule R16). -/
theorem intrIdReset_injective : Function.Injective Config.intrIdReset := by
  intro a b h
  have h1 := congrArg BitVec.toNat (Config.intrIdOrder.injective h)
  rw [BitVec.toNat_setWidth, BitVec.toNat_setWidth] at h1
  exact BitVec.eq_of_toNat_eq (by omega)

theorem intrIdOf_resetOf (w : PaWidth) (c : Chip) (n : BitVec 6) :
    intrIdOf (State.resetOf w c) n = Config.intrIdReset n := by
  unfold intrIdOf
  split
  · subst n; rfl
  · simp [State.resetOf, bankRead]

/-- A strand's store to its own STRAND_INTR_ID changes that strand's ID alone. -/
theorem intrIdOf_peerStoresIntrId (s : State) (k n : BitVec 6) (v : BitVec 16) :
    intrIdOf (peerStoresIntrId s k v) n =
      if n = k ∧ n ≠ s.chip.strand then
        (intrIdOf s n &&& ~~~Config.intrIdWritableMask) ||| (v &&& Config.intrIdWritableMask)
      else intrIdOf s n := by
  unfold intrIdOf peerStoresIntrId
  by_cases hs : n = s.chip.strand
  · simp [hs]
  · by_cases hk : n = k
    · subst hk; simp [hs, bankRead_bankWrite]
    · simp [hs, hk, bankRead_bankWrite]

/-! ### Deliveries (rule R1357) -/

/-- Another agent's store changes memory alone. -/
theorem otherAgentStores_frame (s : State) (pa : DWord) (n : Nat) (little : Bool) (v : DWord) :
    otherAgentStores s pa n little v = { s with memory := (otherAgentStores s pa n little v).memory } := by
  unfold otherAgentStores
  split
  · rw [writePhys_eq]
  · rfl

theorem packetStored_frame (s : State) (first : BitVec 61) (packet : Bank 64 3) :
    packetStored s first packet = { s with memory := (packetStored s first packet).memory } := by
  unfold packetStored
  generalize List.range 8 = ks
  induction ks generalizing s with
  | nil => rfl
  | cons k ks ih =>
    rw [List.foldl_cons, ih, otherAgentStores_frame]

/-- A strand that accepts an interrupt is running and its queue is not full: the packet is stored and the tail advances. -/
theorem accepts_cases (s : State) (q : Fin 3) (first : BitVec 61) (size : Nat) (packet : Bank 64 3) :
    accepts s q first size packet = s
      ∨ isRunning s = true
        ∧ nextTail size (bankRead s.queues (BitVec.ofNat 3 (2 * q.val + 1))) ≠ bankRead s.queues (BitVec.ofNat 3 (2 * q.val))
        ∧ accepts s q first size packet = { s with
            memory := (packetStored s first packet).memory
            queues := bankWrite s.queues (BitVec.ofNat 3 (2 * q.val + 1))
              (nextTail size (bankRead s.queues (BitVec.ofNat 3 (2 * q.val + 1)))) } := by
  unfold accepts
  simp only
  split
  · rename_i h
    rw [Bool.and_eq_true, bne_iff_ne] at h
    refine .inr ⟨h.1, h.2, ?_⟩
    rw [packetStored_frame]
  · exact .inl rfl

/-- Everything the delivery of an interrupt can do where the machine goes on. -/
theorem fabricDelivers_next {s t : State} {id : BitVec 16} {q : Fin 3} {first : BitVec 61} {size : Nat} {packet : Bank 64 3}
    (h : fabricDelivers s id q first size packet = .next t) :
    (strandsWithIntrId s id = [] ∧ t = s)
      ∨ ∃ n, strandsWithIntrId s id = [n] ∧ s.cmt.enableStatus.getLsbD n = true
        ∧ t = if n = s.chip.strand.toNat then accepts s q first size packet else s := by
  unfold fabricDelivers at h
  split at h
  · cases h; exact .inl ⟨by assumption, rfl⟩
  · split at h
    · cases h; exact .inr ⟨_, by assumption, by assumption, rfl⟩
    · cases h
  · cases h

/-- The delivery is refused exactly where two strands have the ID, or the one that has it is disabled (rules R1357, R1462 U13). -/
theorem fabricDelivers_refused {s : State} {id : BitVec 16} {q : Fin 3} {first : BitVec 61} {size : Nat} {packet : Bank 64 3}
    {r : Refusal} :
    fabricDelivers s id q first size packet = .refused r ↔
      (r = .duplicateInterruptId ∧ 2 ≤ (strandsWithIntrId s id).length)
        ∨ r = .interruptToDisabledStrand
          ∧ ∃ n, strandsWithIntrId s id = [n] ∧ s.cmt.enableStatus.getLsbD n = false := by
  unfold fabricDelivers
  split
  · simp_all
  · rename_i n hn
    rw [hn]
    split
    · rename_i he
      simp [he]
    · rename_i he
      rw [Bool.not_eq_true] at he
      simp [he, @eq_comm _ _ r]
  · rename_i h0 h1
    match hl : strandsWithIntrId s id with
    | [] => exact absurd hl h0
    | [n] => exact absurd hl (h1 n)
    | _ :: _ :: _ => simp [@eq_comm _ _ r]

/-- Right after a power-on reset no two strands have one interrupt ID. -/
theorem strandsWithIntrId_resetOf (w : PaWidth) (c : Chip) (id : BitVec 16) :
    (strandsWithIntrId (State.resetOf w c) id).length ≤ 1 := by
  match hl : strandsWithIntrId (State.resetOf w c) id with
  | [] => simp
  | [_] => simp
  | a :: b :: l =>
    have hn := strandsWithIntrId_nodup (State.resetOf w c) id
    have ha : a ∈ strandsWithIntrId (State.resetOf w c) id := by simp [hl]
    have hb : b ∈ strandsWithIntrId (State.resetOf w c) id := by simp [hl]
    rw [mem_strandsWithIntrId, intrIdOf_resetOf] at ha hb
    have he := congrArg BitVec.toNat (intrIdReset_injective (ha.2.2.trans hb.2.2.symm))
    rw [BitVec.toNat_ofNat, BitVec.toNat_ofNat, Nat.mod_eq_of_lt ha.1, Nat.mod_eq_of_lt hb.1] at he
    rw [hl, he] at hn
    simp at hn

end Sys2Proof.Machine
end

