-- ==== Sys2Proof/Laws/Exec.lean ====
section
/-! SUPPORT. The meaning `exec` calls for each instruction, one equation per constructor. -/

namespace Sys2Proof.Machine

@[simp] theorem exec_add (rd : BitVec 5) (rs1 : BitVec 5) (op2 : RegOrImm13) (s : State) : exec (.add rd rs1 op2) s = execAdd rd rs1 op2 s := rfl
@[simp] theorem exec_addcc (rd : BitVec 5) (rs1 : BitVec 5) (op2 : RegOrImm13) (s : State) : exec (.addcc rd rs1 op2) s = execAddcc rd rs1 op2 s := rfl
@[simp] theorem exec_and (rd : BitVec 5) (rs1 : BitVec 5) (op2 : RegOrImm13) (s : State) : exec (.and rd rs1 op2) s = execAnd rd rs1 op2 s := rfl
@[simp] theorem exec_andcc (rd : BitVec 5) (rs1 : BitVec 5) (op2 : RegOrImm13) (s : State) : exec (.andcc rd rs1 op2) s = execAndcc rd rs1 op2 s := rfl
@[simp] theorem exec_or (rd : BitVec 5) (rs1 : BitVec 5) (op2 : RegOrImm13) (s : State) : exec (.or rd rs1 op2) s = execOr rd rs1 op2 s := rfl
@[simp] theorem exec_orcc (rd : BitVec 5) (rs1 : BitVec 5) (op2 : RegOrImm13) (s : State) : exec (.orcc rd rs1 op2) s = execOrcc rd rs1 op2 s := rfl
@[simp] theorem exec_xor (rd : BitVec 5) (rs1 : BitVec 5) (op2 : RegOrImm13) (s : State) : exec (.xor rd rs1 op2) s = execXor rd rs1 op2 s := rfl
@[simp] theorem exec_xorcc (rd : BitVec 5) (rs1 : BitVec 5) (op2 : RegOrImm13) (s : State) : exec (.xorcc rd rs1 op2) s = execXorcc rd rs1 op2 s := rfl
@[simp] theorem exec_sub (rd : BitVec 5) (rs1 : BitVec 5) (op2 : RegOrImm13) (s : State) : exec (.sub rd rs1 op2) s = execSub rd rs1 op2 s := rfl
@[simp] theorem exec_subcc (rd : BitVec 5) (rs1 : BitVec 5) (op2 : RegOrImm13) (s : State) : exec (.subcc rd rs1 op2) s = execSubcc rd rs1 op2 s := rfl
@[simp] theorem exec_andn (rd : BitVec 5) (rs1 : BitVec 5) (op2 : RegOrImm13) (s : State) : exec (.andn rd rs1 op2) s = execAndn rd rs1 op2 s := rfl
@[simp] theorem exec_andncc (rd : BitVec 5) (rs1 : BitVec 5) (op2 : RegOrImm13) (s : State) : exec (.andncc rd rs1 op2) s = execAndncc rd rs1 op2 s := rfl
@[simp] theorem exec_orn (rd : BitVec 5) (rs1 : BitVec 5) (op2 : RegOrImm13) (s : State) : exec (.orn rd rs1 op2) s = execOrn rd rs1 op2 s := rfl
@[simp] theorem exec_orncc (rd : BitVec 5) (rs1 : BitVec 5) (op2 : RegOrImm13) (s : State) : exec (.orncc rd rs1 op2) s = execOrncc rd rs1 op2 s := rfl
@[simp] theorem exec_xnor (rd : BitVec 5) (rs1 : BitVec 5) (op2 : RegOrImm13) (s : State) : exec (.xnor rd rs1 op2) s = execXnor rd rs1 op2 s := rfl
@[simp] theorem exec_xnorcc (rd : BitVec 5) (rs1 : BitVec 5) (op2 : RegOrImm13) (s : State) : exec (.xnorcc rd rs1 op2) s = execXnorcc rd rs1 op2 s := rfl
@[simp] theorem exec_addc (rd : BitVec 5) (rs1 : BitVec 5) (op2 : RegOrImm13) (s : State) : exec (.addc rd rs1 op2) s = execAddc rd rs1 op2 s := rfl
@[simp] theorem exec_addccc (rd : BitVec 5) (rs1 : BitVec 5) (op2 : RegOrImm13) (s : State) : exec (.addccc rd rs1 op2) s = execAddccc rd rs1 op2 s := rfl
@[simp] theorem exec_subc (rd : BitVec 5) (rs1 : BitVec 5) (op2 : RegOrImm13) (s : State) : exec (.subc rd rs1 op2) s = execSubc rd rs1 op2 s := rfl
@[simp] theorem exec_subccc (rd : BitVec 5) (rs1 : BitVec 5) (op2 : RegOrImm13) (s : State) : exec (.subccc rd rs1 op2) s = execSubccc rd rs1 op2 s := rfl
@[simp] theorem exec_mulx (rd : BitVec 5) (rs1 : BitVec 5) (op2 : RegOrImm13) (s : State) : exec (.mulx rd rs1 op2) s = execMulx rd rs1 op2 s := rfl
@[simp] theorem exec_sdivx (rd : BitVec 5) (rs1 : BitVec 5) (op2 : RegOrImm13) (s : State) : exec (.sdivx rd rs1 op2) s = execSdivx rd rs1 op2 s := rfl
@[simp] theorem exec_udivx (rd : BitVec 5) (rs1 : BitVec 5) (op2 : RegOrImm13) (s : State) : exec (.udivx rd rs1 op2) s = execUdivx rd rs1 op2 s := rfl
@[simp] theorem exec_umul (rd : BitVec 5) (rs1 : BitVec 5) (op2 : RegOrImm13) (s : State) : exec (.umul rd rs1 op2) s = execUmul rd rs1 op2 s := rfl
@[simp] theorem exec_smul (rd : BitVec 5) (rs1 : BitVec 5) (op2 : RegOrImm13) (s : State) : exec (.smul rd rs1 op2) s = execSmul rd rs1 op2 s := rfl
@[simp] theorem exec_umulcc (rd : BitVec 5) (rs1 : BitVec 5) (op2 : RegOrImm13) (s : State) : exec (.umulcc rd rs1 op2) s = execUmulcc rd rs1 op2 s := rfl
@[simp] theorem exec_smulcc (rd : BitVec 5) (rs1 : BitVec 5) (op2 : RegOrImm13) (s : State) : exec (.smulcc rd rs1 op2) s = execSmulcc rd rs1 op2 s := rfl
@[simp] theorem exec_udiv (rd : BitVec 5) (rs1 : BitVec 5) (op2 : RegOrImm13) (s : State) : exec (.udiv rd rs1 op2) s = execUdiv rd rs1 op2 s := rfl
@[simp] theorem exec_sdiv (rd : BitVec 5) (rs1 : BitVec 5) (op2 : RegOrImm13) (s : State) : exec (.sdiv rd rs1 op2) s = execSdiv rd rs1 op2 s := rfl
@[simp] theorem exec_udivcc (rd : BitVec 5) (rs1 : BitVec 5) (op2 : RegOrImm13) (s : State) : exec (.udivcc rd rs1 op2) s = execUdivcc rd rs1 op2 s := rfl
@[simp] theorem exec_sdivcc (rd : BitVec 5) (rs1 : BitVec 5) (op2 : RegOrImm13) (s : State) : exec (.sdivcc rd rs1 op2) s = execSdivcc rd rs1 op2 s := rfl
@[simp] theorem exec_mulscc (rd : BitVec 5) (rs1 : BitVec 5) (op2 : RegOrImm13) (s : State) : exec (.mulscc rd rs1 op2) s = execMulscc rd rs1 op2 s := rfl
@[simp] theorem exec_taddcc (rd : BitVec 5) (rs1 : BitVec 5) (op2 : RegOrImm13) (s : State) : exec (.taddcc rd rs1 op2) s = execTaddcc rd rs1 op2 s := rfl
@[simp] theorem exec_taddcctv (rd : BitVec 5) (rs1 : BitVec 5) (op2 : RegOrImm13) (s : State) : exec (.taddcctv rd rs1 op2) s = execTaddcctv rd rs1 op2 s := rfl
@[simp] theorem exec_tsubcc (rd : BitVec 5) (rs1 : BitVec 5) (op2 : RegOrImm13) (s : State) : exec (.tsubcc rd rs1 op2) s = execTsubcc rd rs1 op2 s := rfl
@[simp] theorem exec_tsubcctv (rd : BitVec 5) (rs1 : BitVec 5) (op2 : RegOrImm13) (s : State) : exec (.tsubcctv rd rs1 op2) s = execTsubcctv rd rs1 op2 s := rfl
@[simp] theorem exec_sll (rd : BitVec 5) (rs1 : BitVec 5) (count : Count32) (s : State) : exec (.sll rd rs1 count) s = execSll rd rs1 count s := rfl
@[simp] theorem exec_sllx (rd : BitVec 5) (rs1 : BitVec 5) (count : Count64) (s : State) : exec (.sllx rd rs1 count) s = execSllx rd rs1 count s := rfl
@[simp] theorem exec_srl (rd : BitVec 5) (rs1 : BitVec 5) (count : Count32) (s : State) : exec (.srl rd rs1 count) s = execSrl rd rs1 count s := rfl
@[simp] theorem exec_srlx (rd : BitVec 5) (rs1 : BitVec 5) (count : Count64) (s : State) : exec (.srlx rd rs1 count) s = execSrlx rd rs1 count s := rfl
@[simp] theorem exec_sra (rd : BitVec 5) (rs1 : BitVec 5) (count : Count32) (s : State) : exec (.sra rd rs1 count) s = execSra rd rs1 count s := rfl
@[simp] theorem exec_srax (rd : BitVec 5) (rs1 : BitVec 5) (count : Count64) (s : State) : exec (.srax rd rs1 count) s = execSrax rd rs1 count s := rfl
@[simp] theorem exec_sethi (rd : BitVec 5) (imm22 : BitVec 22) (s : State) : exec (.sethi rd imm22) s = execSethi rd imm22 s := rfl
@[simp] theorem exec_nop (s : State) : exec .nop s = execNop s := rfl
@[simp] theorem exec_popc (rd : BitVec 5) (op2 : RegOrImm13) (s : State) : exec (.popc rd op2) s = execPopc rd op2 s := rfl
@[simp] theorem exec_mova (rd : BitVec 5) (cc : IccSelect) (op2 : RegOrImm11) (s : State) : exec (.mova rd cc op2) s = execMova rd cc op2 s := rfl
@[simp] theorem exec_movn (rd : BitVec 5) (cc : IccSelect) (op2 : RegOrImm11) (s : State) : exec (.movn rd cc op2) s = execMovn rd cc op2 s := rfl
@[simp] theorem exec_movne (rd : BitVec 5) (cc : IccSelect) (op2 : RegOrImm11) (s : State) : exec (.movne rd cc op2) s = execMovne rd cc op2 s := rfl
@[simp] theorem exec_move (rd : BitVec 5) (cc : IccSelect) (op2 : RegOrImm11) (s : State) : exec (.move rd cc op2) s = execMove rd cc op2 s := rfl
@[simp] theorem exec_movg (rd : BitVec 5) (cc : IccSelect) (op2 : RegOrImm11) (s : State) : exec (.movg rd cc op2) s = execMovg rd cc op2 s := rfl
@[simp] theorem exec_movle (rd : BitVec 5) (cc : IccSelect) (op2 : RegOrImm11) (s : State) : exec (.movle rd cc op2) s = execMovle rd cc op2 s := rfl
@[simp] theorem exec_movge (rd : BitVec 5) (cc : IccSelect) (op2 : RegOrImm11) (s : State) : exec (.movge rd cc op2) s = execMovge rd cc op2 s := rfl
@[simp] theorem exec_movl (rd : BitVec 5) (cc : IccSelect) (op2 : RegOrImm11) (s : State) : exec (.movl rd cc op2) s = execMovl rd cc op2 s := rfl
@[simp] theorem exec_movgu (rd : BitVec 5) (cc : IccSelect) (op2 : RegOrImm11) (s : State) : exec (.movgu rd cc op2) s = execMovgu rd cc op2 s := rfl
@[simp] theorem exec_movleu (rd : BitVec 5) (cc : IccSelect) (op2 : RegOrImm11) (s : State) : exec (.movleu rd cc op2) s = execMovleu rd cc op2 s := rfl
@[simp] theorem exec_movcc (rd : BitVec 5) (cc : IccSelect) (op2 : RegOrImm11) (s : State) : exec (.movcc rd cc op2) s = execMovcc rd cc op2 s := rfl
@[simp] theorem exec_movcs (rd : BitVec 5) (cc : IccSelect) (op2 : RegOrImm11) (s : State) : exec (.movcs rd cc op2) s = execMovcs rd cc op2 s := rfl
@[simp] theorem exec_movpos (rd : BitVec 5) (cc : IccSelect) (op2 : RegOrImm11) (s : State) : exec (.movpos rd cc op2) s = execMovpos rd cc op2 s := rfl
@[simp] theorem exec_movneg (rd : BitVec 5) (cc : IccSelect) (op2 : RegOrImm11) (s : State) : exec (.movneg rd cc op2) s = execMovneg rd cc op2 s := rfl
@[simp] theorem exec_movvc (rd : BitVec 5) (cc : IccSelect) (op2 : RegOrImm11) (s : State) : exec (.movvc rd cc op2) s = execMovvc rd cc op2 s := rfl
@[simp] theorem exec_movvs (rd : BitVec 5) (cc : IccSelect) (op2 : RegOrImm11) (s : State) : exec (.movvs rd cc op2) s = execMovvs rd cc op2 s := rfl
@[simp] theorem exec_movfa (rd : BitVec 5) (cc : BitVec 2) (op2 : RegOrImm11) (s : State) : exec (.movfa rd cc op2) s = execMovfa rd cc op2 s := rfl
@[simp] theorem exec_movfn (rd : BitVec 5) (cc : BitVec 2) (op2 : RegOrImm11) (s : State) : exec (.movfn rd cc op2) s = execMovfn rd cc op2 s := rfl
@[simp] theorem exec_movfu (rd : BitVec 5) (cc : BitVec 2) (op2 : RegOrImm11) (s : State) : exec (.movfu rd cc op2) s = execMovfu rd cc op2 s := rfl
@[simp] theorem exec_movfg (rd : BitVec 5) (cc : BitVec 2) (op2 : RegOrImm11) (s : State) : exec (.movfg rd cc op2) s = execMovfg rd cc op2 s := rfl
@[simp] theorem exec_movfug (rd : BitVec 5) (cc : BitVec 2) (op2 : RegOrImm11) (s : State) : exec (.movfug rd cc op2) s = execMovfug rd cc op2 s := rfl
@[simp] theorem exec_movfl (rd : BitVec 5) (cc : BitVec 2) (op2 : RegOrImm11) (s : State) : exec (.movfl rd cc op2) s = execMovfl rd cc op2 s := rfl
@[simp] theorem exec_movful (rd : BitVec 5) (cc : BitVec 2) (op2 : RegOrImm11) (s : State) : exec (.movful rd cc op2) s = execMovful rd cc op2 s := rfl
@[simp] theorem exec_movflg (rd : BitVec 5) (cc : BitVec 2) (op2 : RegOrImm11) (s : State) : exec (.movflg rd cc op2) s = execMovflg rd cc op2 s := rfl
@[simp] theorem exec_movfne (rd : BitVec 5) (cc : BitVec 2) (op2 : RegOrImm11) (s : State) : exec (.movfne rd cc op2) s = execMovfne rd cc op2 s := rfl
@[simp] theorem exec_movfe (rd : BitVec 5) (cc : BitVec 2) (op2 : RegOrImm11) (s : State) : exec (.movfe rd cc op2) s = execMovfe rd cc op2 s := rfl
@[simp] theorem exec_movfue (rd : BitVec 5) (cc : BitVec 2) (op2 : RegOrImm11) (s : State) : exec (.movfue rd cc op2) s = execMovfue rd cc op2 s := rfl
@[simp] theorem exec_movfge (rd : BitVec 5) (cc : BitVec 2) (op2 : RegOrImm11) (s : State) : exec (.movfge rd cc op2) s = execMovfge rd cc op2 s := rfl
@[simp] theorem exec_movfuge (rd : BitVec 5) (cc : BitVec 2) (op2 : RegOrImm11) (s : State) : exec (.movfuge rd cc op2) s = execMovfuge rd cc op2 s := rfl
@[simp] theorem exec_movfle (rd : BitVec 5) (cc : BitVec 2) (op2 : RegOrImm11) (s : State) : exec (.movfle rd cc op2) s = execMovfle rd cc op2 s := rfl
@[simp] theorem exec_movfule (rd : BitVec 5) (cc : BitVec 2) (op2 : RegOrImm11) (s : State) : exec (.movfule rd cc op2) s = execMovfule rd cc op2 s := rfl
@[simp] theorem exec_movfo (rd : BitVec 5) (cc : BitVec 2) (op2 : RegOrImm11) (s : State) : exec (.movfo rd cc op2) s = execMovfo rd cc op2 s := rfl
@[simp] theorem exec_movrz (rd : BitVec 5) (rs1 : BitVec 5) (op2 : RegOrImm10) (s : State) : exec (.movrz rd rs1 op2) s = execMovrz rd rs1 op2 s := rfl
@[simp] theorem exec_movrlez (rd : BitVec 5) (rs1 : BitVec 5) (op2 : RegOrImm10) (s : State) : exec (.movrlez rd rs1 op2) s = execMovrlez rd rs1 op2 s := rfl
@[simp] theorem exec_movrlz (rd : BitVec 5) (rs1 : BitVec 5) (op2 : RegOrImm10) (s : State) : exec (.movrlz rd rs1 op2) s = execMovrlz rd rs1 op2 s := rfl
@[simp] theorem exec_movrnz (rd : BitVec 5) (rs1 : BitVec 5) (op2 : RegOrImm10) (s : State) : exec (.movrnz rd rs1 op2) s = execMovrnz rd rs1 op2 s := rfl
@[simp] theorem exec_movrgz (rd : BitVec 5) (rs1 : BitVec 5) (op2 : RegOrImm10) (s : State) : exec (.movrgz rd rs1 op2) s = execMovrgz rd rs1 op2 s := rfl
@[simp] theorem exec_movrgez (rd : BitVec 5) (rs1 : BitVec 5) (op2 : RegOrImm10) (s : State) : exec (.movrgez rd rs1 op2) s = execMovrgez rd rs1 op2 s := rfl
@[simp] theorem exec_ba (a : BitVec 1) (disp22 : BitVec 22) (s : State) : exec (.ba a disp22) s = execBa a disp22 s := rfl
@[simp] theorem exec_bn (a : BitVec 1) (disp22 : BitVec 22) (s : State) : exec (.bn a disp22) s = execBn a disp22 s := rfl
@[simp] theorem exec_bne (a : BitVec 1) (disp22 : BitVec 22) (s : State) : exec (.bne a disp22) s = execBne a disp22 s := rfl
@[simp] theorem exec_be (a : BitVec 1) (disp22 : BitVec 22) (s : State) : exec (.be a disp22) s = execBe a disp22 s := rfl
@[simp] theorem exec_bg (a : BitVec 1) (disp22 : BitVec 22) (s : State) : exec (.bg a disp22) s = execBg a disp22 s := rfl
@[simp] theorem exec_ble (a : BitVec 1) (disp22 : BitVec 22) (s : State) : exec (.ble a disp22) s = execBle a disp22 s := rfl
@[simp] theorem exec_bge (a : BitVec 1) (disp22 : BitVec 22) (s : State) : exec (.bge a disp22) s = execBge a disp22 s := rfl
@[simp] theorem exec_bl (a : BitVec 1) (disp22 : BitVec 22) (s : State) : exec (.bl a disp22) s = execBl a disp22 s := rfl
@[simp] theorem exec_bgu (a : BitVec 1) (disp22 : BitVec 22) (s : State) : exec (.bgu a disp22) s = execBgu a disp22 s := rfl
@[simp] theorem exec_bleu (a : BitVec 1) (disp22 : BitVec 22) (s : State) : exec (.bleu a disp22) s = execBleu a disp22 s := rfl
@[simp] theorem exec_bcc (a : BitVec 1) (disp22 : BitVec 22) (s : State) : exec (.bcc a disp22) s = execBcc a disp22 s := rfl
@[simp] theorem exec_bcs (a : BitVec 1) (disp22 : BitVec 22) (s : State) : exec (.bcs a disp22) s = execBcs a disp22 s := rfl
@[simp] theorem exec_bpos (a : BitVec 1) (disp22 : BitVec 22) (s : State) : exec (.bpos a disp22) s = execBpos a disp22 s := rfl
@[simp] theorem exec_bneg (a : BitVec 1) (disp22 : BitVec 22) (s : State) : exec (.bneg a disp22) s = execBneg a disp22 s := rfl
@[simp] theorem exec_bvc (a : BitVec 1) (disp22 : BitVec 22) (s : State) : exec (.bvc a disp22) s = execBvc a disp22 s := rfl
@[simp] theorem exec_bvs (a : BitVec 1) (disp22 : BitVec 22) (s : State) : exec (.bvs a disp22) s = execBvs a disp22 s := rfl
@[simp] theorem exec_bpa (a : BitVec 1) (cc : IccSelect) (p : BitVec 1) (disp19 : BitVec 19) (s : State) : exec (.bpa a cc p disp19) s = execBpa a cc p disp19 s := rfl
@[simp] theorem exec_bpn (a : BitVec 1) (cc : IccSelect) (p : BitVec 1) (disp19 : BitVec 19) (s : State) : exec (.bpn a cc p disp19) s = execBpn a cc p disp19 s := rfl
@[simp] theorem exec_bpne (a : BitVec 1) (cc : IccSelect) (p : BitVec 1) (disp19 : BitVec 19) (s : State) : exec (.bpne a cc p disp19) s = execBpne a cc p disp19 s := rfl
@[simp] theorem exec_bpe (a : BitVec 1) (cc : IccSelect) (p : BitVec 1) (disp19 : BitVec 19) (s : State) : exec (.bpe a cc p disp19) s = execBpe a cc p disp19 s := rfl
@[simp] theorem exec_bpg (a : BitVec 1) (cc : IccSelect) (p : BitVec 1) (disp19 : BitVec 19) (s : State) : exec (.bpg a cc p disp19) s = execBpg a cc p disp19 s := rfl
@[simp] theorem exec_bple (a : BitVec 1) (cc : IccSelect) (p : BitVec 1) (disp19 : BitVec 19) (s : State) : exec (.bple a cc p disp19) s = execBple a cc p disp19 s := rfl
@[simp] theorem exec_bpge (a : BitVec 1) (cc : IccSelect) (p : BitVec 1) (disp19 : BitVec 19) (s : State) : exec (.bpge a cc p disp19) s = execBpge a cc p disp19 s := rfl
@[simp] theorem exec_bpl (a : BitVec 1) (cc : IccSelect) (p : BitVec 1) (disp19 : BitVec 19) (s : State) : exec (.bpl a cc p disp19) s = execBpl a cc p disp19 s := rfl
@[simp] theorem exec_bpgu (a : BitVec 1) (cc : IccSelect) (p : BitVec 1) (disp19 : BitVec 19) (s : State) : exec (.bpgu a cc p disp19) s = execBpgu a cc p disp19 s := rfl
@[simp] theorem exec_bpleu (a : BitVec 1) (cc : IccSelect) (p : BitVec 1) (disp19 : BitVec 19) (s : State) : exec (.bpleu a cc p disp19) s = execBpleu a cc p disp19 s := rfl
@[simp] theorem exec_bpcc (a : BitVec 1) (cc : IccSelect) (p : BitVec 1) (disp19 : BitVec 19) (s : State) : exec (.bpcc a cc p disp19) s = execBpcc a cc p disp19 s := rfl
@[simp] theorem exec_bpcs (a : BitVec 1) (cc : IccSelect) (p : BitVec 1) (disp19 : BitVec 19) (s : State) : exec (.bpcs a cc p disp19) s = execBpcs a cc p disp19 s := rfl
@[simp] theorem exec_bppos (a : BitVec 1) (cc : IccSelect) (p : BitVec 1) (disp19 : BitVec 19) (s : State) : exec (.bppos a cc p disp19) s = execBppos a cc p disp19 s := rfl
@[simp] theorem exec_bpneg (a : BitVec 1) (cc : IccSelect) (p : BitVec 1) (disp19 : BitVec 19) (s : State) : exec (.bpneg a cc p disp19) s = execBpneg a cc p disp19 s := rfl
@[simp] theorem exec_bpvc (a : BitVec 1) (cc : IccSelect) (p : BitVec 1) (disp19 : BitVec 19) (s : State) : exec (.bpvc a cc p disp19) s = execBpvc a cc p disp19 s := rfl
@[simp] theorem exec_bpvs (a : BitVec 1) (cc : IccSelect) (p : BitVec 1) (disp19 : BitVec 19) (s : State) : exec (.bpvs a cc p disp19) s = execBpvs a cc p disp19 s := rfl
@[simp] theorem exec_brz (a : BitVec 1) (p : BitVec 1) (rs1 : BitVec 5) (disp16 : BitVec 16) (s : State) : exec (.brz a p rs1 disp16) s = execBrz a p rs1 disp16 s := rfl
@[simp] theorem exec_brlez (a : BitVec 1) (p : BitVec 1) (rs1 : BitVec 5) (disp16 : BitVec 16) (s : State) : exec (.brlez a p rs1 disp16) s = execBrlez a p rs1 disp16 s := rfl
@[simp] theorem exec_brlz (a : BitVec 1) (p : BitVec 1) (rs1 : BitVec 5) (disp16 : BitVec 16) (s : State) : exec (.brlz a p rs1 disp16) s = execBrlz a p rs1 disp16 s := rfl
@[simp] theorem exec_brnz (a : BitVec 1) (p : BitVec 1) (rs1 : BitVec 5) (disp16 : BitVec 16) (s : State) : exec (.brnz a p rs1 disp16) s = execBrnz a p rs1 disp16 s := rfl
@[simp] theorem exec_brgz (a : BitVec 1) (p : BitVec 1) (rs1 : BitVec 5) (disp16 : BitVec 16) (s : State) : exec (.brgz a p rs1 disp16) s = execBrgz a p rs1 disp16 s := rfl
@[simp] theorem exec_brgez (a : BitVec 1) (p : BitVec 1) (rs1 : BitVec 5) (disp16 : BitVec 16) (s : State) : exec (.brgez a p rs1 disp16) s = execBrgez a p rs1 disp16 s := rfl
@[simp] theorem exec_call (disp30 : BitVec 30) (s : State) : exec (.call disp30) s = execCall disp30 s := rfl
@[simp] theorem exec_fba (a : BitVec 1) (disp22 : BitVec 22) (s : State) : exec (.fba a disp22) s = execFba a disp22 s := rfl
@[simp] theorem exec_fbn (a : BitVec 1) (disp22 : BitVec 22) (s : State) : exec (.fbn a disp22) s = execFbn a disp22 s := rfl
@[simp] theorem exec_fbu (a : BitVec 1) (disp22 : BitVec 22) (s : State) : exec (.fbu a disp22) s = execFbu a disp22 s := rfl
@[simp] theorem exec_fbg (a : BitVec 1) (disp22 : BitVec 22) (s : State) : exec (.fbg a disp22) s = execFbg a disp22 s := rfl
@[simp] theorem exec_fbug (a : BitVec 1) (disp22 : BitVec 22) (s : State) : exec (.fbug a disp22) s = execFbug a disp22 s := rfl
@[simp] theorem exec_fbl (a : BitVec 1) (disp22 : BitVec 22) (s : State) : exec (.fbl a disp22) s = execFbl a disp22 s := rfl
@[simp] theorem exec_fbul (a : BitVec 1) (disp22 : BitVec 22) (s : State) : exec (.fbul a disp22) s = execFbul a disp22 s := rfl
@[simp] theorem exec_fblg (a : BitVec 1) (disp22 : BitVec 22) (s : State) : exec (.fblg a disp22) s = execFblg a disp22 s := rfl
@[simp] theorem exec_fbne (a : BitVec 1) (disp22 : BitVec 22) (s : State) : exec (.fbne a disp22) s = execFbne a disp22 s := rfl
@[simp] theorem exec_fbe (a : BitVec 1) (disp22 : BitVec 22) (s : State) : exec (.fbe a disp22) s = execFbe a disp22 s := rfl
@[simp] theorem exec_fbue (a : BitVec 1) (disp22 : BitVec 22) (s : State) : exec (.fbue a disp22) s = execFbue a disp22 s := rfl
@[simp] theorem exec_fbge (a : BitVec 1) (disp22 : BitVec 22) (s : State) : exec (.fbge a disp22) s = execFbge a disp22 s := rfl
@[simp] theorem exec_fbuge (a : BitVec 1) (disp22 : BitVec 22) (s : State) : exec (.fbuge a disp22) s = execFbuge a disp22 s := rfl
@[simp] theorem exec_fble (a : BitVec 1) (disp22 : BitVec 22) (s : State) : exec (.fble a disp22) s = execFble a disp22 s := rfl
@[simp] theorem exec_fbule (a : BitVec 1) (disp22 : BitVec 22) (s : State) : exec (.fbule a disp22) s = execFbule a disp22 s := rfl
@[simp] theorem exec_fbo (a : BitVec 1) (disp22 : BitVec 22) (s : State) : exec (.fbo a disp22) s = execFbo a disp22 s := rfl
@[simp] theorem exec_fbpa (a : BitVec 1) (cc : BitVec 2) (p : BitVec 1) (disp19 : BitVec 19) (s : State) : exec (.fbpa a cc p disp19) s = execFbpa a cc p disp19 s := rfl
@[simp] theorem exec_fbpn (a : BitVec 1) (cc : BitVec 2) (p : BitVec 1) (disp19 : BitVec 19) (s : State) : exec (.fbpn a cc p disp19) s = execFbpn a cc p disp19 s := rfl
@[simp] theorem exec_fbpu (a : BitVec 1) (cc : BitVec 2) (p : BitVec 1) (disp19 : BitVec 19) (s : State) : exec (.fbpu a cc p disp19) s = execFbpu a cc p disp19 s := rfl
@[simp] theorem exec_fbpg (a : BitVec 1) (cc : BitVec 2) (p : BitVec 1) (disp19 : BitVec 19) (s : State) : exec (.fbpg a cc p disp19) s = execFbpg a cc p disp19 s := rfl
@[simp] theorem exec_fbpug (a : BitVec 1) (cc : BitVec 2) (p : BitVec 1) (disp19 : BitVec 19) (s : State) : exec (.fbpug a cc p disp19) s = execFbpug a cc p disp19 s := rfl
@[simp] theorem exec_fbpl (a : BitVec 1) (cc : BitVec 2) (p : BitVec 1) (disp19 : BitVec 19) (s : State) : exec (.fbpl a cc p disp19) s = execFbpl a cc p disp19 s := rfl
@[simp] theorem exec_fbpul (a : BitVec 1) (cc : BitVec 2) (p : BitVec 1) (disp19 : BitVec 19) (s : State) : exec (.fbpul a cc p disp19) s = execFbpul a cc p disp19 s := rfl
@[simp] theorem exec_fbplg (a : BitVec 1) (cc : BitVec 2) (p : BitVec 1) (disp19 : BitVec 19) (s : State) : exec (.fbplg a cc p disp19) s = execFbplg a cc p disp19 s := rfl
@[simp] theorem exec_fbpne (a : BitVec 1) (cc : BitVec 2) (p : BitVec 1) (disp19 : BitVec 19) (s : State) : exec (.fbpne a cc p disp19) s = execFbpne a cc p disp19 s := rfl
@[simp] theorem exec_fbpe (a : BitVec 1) (cc : BitVec 2) (p : BitVec 1) (disp19 : BitVec 19) (s : State) : exec (.fbpe a cc p disp19) s = execFbpe a cc p disp19 s := rfl
@[simp] theorem exec_fbpue (a : BitVec 1) (cc : BitVec 2) (p : BitVec 1) (disp19 : BitVec 19) (s : State) : exec (.fbpue a cc p disp19) s = execFbpue a cc p disp19 s := rfl
@[simp] theorem exec_fbpge (a : BitVec 1) (cc : BitVec 2) (p : BitVec 1) (disp19 : BitVec 19) (s : State) : exec (.fbpge a cc p disp19) s = execFbpge a cc p disp19 s := rfl
@[simp] theorem exec_fbpuge (a : BitVec 1) (cc : BitVec 2) (p : BitVec 1) (disp19 : BitVec 19) (s : State) : exec (.fbpuge a cc p disp19) s = execFbpuge a cc p disp19 s := rfl
@[simp] theorem exec_fbple (a : BitVec 1) (cc : BitVec 2) (p : BitVec 1) (disp19 : BitVec 19) (s : State) : exec (.fbple a cc p disp19) s = execFbple a cc p disp19 s := rfl
@[simp] theorem exec_fbpule (a : BitVec 1) (cc : BitVec 2) (p : BitVec 1) (disp19 : BitVec 19) (s : State) : exec (.fbpule a cc p disp19) s = execFbpule a cc p disp19 s := rfl
@[simp] theorem exec_fbpo (a : BitVec 1) (cc : BitVec 2) (p : BitVec 1) (disp19 : BitVec 19) (s : State) : exec (.fbpo a cc p disp19) s = execFbpo a cc p disp19 s := rfl
@[simp] theorem exec_illtrap (const22 : BitVec 22) (s : State) : exec (.illtrap const22) s = execIlltrap const22 s := rfl
@[simp] theorem exec_jmpl (rd : BitVec 5) (rs1 : BitVec 5) (op2 : RegOrImm13) (s : State) : exec (.jmpl rd rs1 op2) s = execJmpl rd rs1 op2 s := rfl
@[simp] theorem exec_return_ (rs1 : BitVec 5) (op2 : RegOrImm13) (s : State) : exec (.return_ rs1 op2) s = execReturn_ rs1 op2 s := rfl
@[simp] theorem exec_ta (cc : IccSelect) (rs1 : BitVec 5) (op2 : TrapOperand) (s : State) : exec (.ta cc rs1 op2) s = execTa cc rs1 op2 s := rfl
@[simp] theorem exec_tn (cc : IccSelect) (rs1 : BitVec 5) (op2 : TrapOperand) (s : State) : exec (.tn cc rs1 op2) s = execTn cc rs1 op2 s := rfl
@[simp] theorem exec_tne (cc : IccSelect) (rs1 : BitVec 5) (op2 : TrapOperand) (s : State) : exec (.tne cc rs1 op2) s = execTne cc rs1 op2 s := rfl
@[simp] theorem exec_te (cc : IccSelect) (rs1 : BitVec 5) (op2 : TrapOperand) (s : State) : exec (.te cc rs1 op2) s = execTe cc rs1 op2 s := rfl
@[simp] theorem exec_tg (cc : IccSelect) (rs1 : BitVec 5) (op2 : TrapOperand) (s : State) : exec (.tg cc rs1 op2) s = execTg cc rs1 op2 s := rfl
@[simp] theorem exec_tle (cc : IccSelect) (rs1 : BitVec 5) (op2 : TrapOperand) (s : State) : exec (.tle cc rs1 op2) s = execTle cc rs1 op2 s := rfl
@[simp] theorem exec_tge (cc : IccSelect) (rs1 : BitVec 5) (op2 : TrapOperand) (s : State) : exec (.tge cc rs1 op2) s = execTge cc rs1 op2 s := rfl
@[simp] theorem exec_tl (cc : IccSelect) (rs1 : BitVec 5) (op2 : TrapOperand) (s : State) : exec (.tl cc rs1 op2) s = execTl cc rs1 op2 s := rfl
@[simp] theorem exec_tgu (cc : IccSelect) (rs1 : BitVec 5) (op2 : TrapOperand) (s : State) : exec (.tgu cc rs1 op2) s = execTgu cc rs1 op2 s := rfl
@[simp] theorem exec_tleu (cc : IccSelect) (rs1 : BitVec 5) (op2 : TrapOperand) (s : State) : exec (.tleu cc rs1 op2) s = execTleu cc rs1 op2 s := rfl
@[simp] theorem exec_tcc (cc : IccSelect) (rs1 : BitVec 5) (op2 : TrapOperand) (s : State) : exec (.tcc cc rs1 op2) s = execTcc cc rs1 op2 s := rfl
@[simp] theorem exec_tcs (cc : IccSelect) (rs1 : BitVec 5) (op2 : TrapOperand) (s : State) : exec (.tcs cc rs1 op2) s = execTcs cc rs1 op2 s := rfl
@[simp] theorem exec_tpos (cc : IccSelect) (rs1 : BitVec 5) (op2 : TrapOperand) (s : State) : exec (.tpos cc rs1 op2) s = execTpos cc rs1 op2 s := rfl
@[simp] theorem exec_tneg (cc : IccSelect) (rs1 : BitVec 5) (op2 : TrapOperand) (s : State) : exec (.tneg cc rs1 op2) s = execTneg cc rs1 op2 s := rfl
@[simp] theorem exec_tvc (cc : IccSelect) (rs1 : BitVec 5) (op2 : TrapOperand) (s : State) : exec (.tvc cc rs1 op2) s = execTvc cc rs1 op2 s := rfl
@[simp] theorem exec_tvs (cc : IccSelect) (rs1 : BitVec 5) (op2 : TrapOperand) (s : State) : exec (.tvs cc rs1 op2) s = execTvs cc rs1 op2 s := rfl
@[simp] theorem exec_done (s : State) : exec .done s = execDone s := rfl
@[simp] theorem exec_retry (s : State) : exec .retry s = execRetry s := rfl
@[simp] theorem exec_ldsb (rd : BitVec 5) (rs1 : BitVec 5) (op2 : RegOrImm13) (s : State) : exec (.ldsb rd rs1 op2) s = execLdsb rd rs1 op2 s := rfl
@[simp] theorem exec_ldsh (rd : BitVec 5) (rs1 : BitVec 5) (op2 : RegOrImm13) (s : State) : exec (.ldsh rd rs1 op2) s = execLdsh rd rs1 op2 s := rfl
@[simp] theorem exec_ldsw (rd : BitVec 5) (rs1 : BitVec 5) (op2 : RegOrImm13) (s : State) : exec (.ldsw rd rs1 op2) s = execLdsw rd rs1 op2 s := rfl
@[simp] theorem exec_ldub (rd : BitVec 5) (rs1 : BitVec 5) (op2 : RegOrImm13) (s : State) : exec (.ldub rd rs1 op2) s = execLdub rd rs1 op2 s := rfl
@[simp] theorem exec_lduh (rd : BitVec 5) (rs1 : BitVec 5) (op2 : RegOrImm13) (s : State) : exec (.lduh rd rs1 op2) s = execLduh rd rs1 op2 s := rfl
@[simp] theorem exec_lduw (rd : BitVec 5) (rs1 : BitVec 5) (op2 : RegOrImm13) (s : State) : exec (.lduw rd rs1 op2) s = execLduw rd rs1 op2 s := rfl
@[simp] theorem exec_ldx (rd : BitVec 5) (rs1 : BitVec 5) (op2 : RegOrImm13) (s : State) : exec (.ldx rd rs1 op2) s = execLdx rd rs1 op2 s := rfl
@[simp] theorem exec_ldsba (rd : BitVec 5) (rs1 : BitVec 5) (ea : AsiOperand) (s : State) : exec (.ldsba rd rs1 ea) s = execLdsba rd rs1 ea s := rfl
@[simp] theorem exec_ldsha (rd : BitVec 5) (rs1 : BitVec 5) (ea : AsiOperand) (s : State) : exec (.ldsha rd rs1 ea) s = execLdsha rd rs1 ea s := rfl
@[simp] theorem exec_ldswa (rd : BitVec 5) (rs1 : BitVec 5) (ea : AsiOperand) (s : State) : exec (.ldswa rd rs1 ea) s = execLdswa rd rs1 ea s := rfl
@[simp] theorem exec_lduba (rd : BitVec 5) (rs1 : BitVec 5) (ea : AsiOperand) (s : State) : exec (.lduba rd rs1 ea) s = execLduba rd rs1 ea s := rfl
@[simp] theorem exec_lduha (rd : BitVec 5) (rs1 : BitVec 5) (ea : AsiOperand) (s : State) : exec (.lduha rd rs1 ea) s = execLduha rd rs1 ea s := rfl
@[simp] theorem exec_lduwa (rd : BitVec 5) (rs1 : BitVec 5) (ea : AsiOperand) (s : State) : exec (.lduwa rd rs1 ea) s = execLduwa rd rs1 ea s := rfl
@[simp] theorem exec_ldxa (rd : BitVec 5) (rs1 : BitVec 5) (ea : AsiOperand) (s : State) : exec (.ldxa rd rs1 ea) s = execLdxa rd rs1 ea s := rfl
@[simp] theorem exec_ldtw (rd : BitVec 5) (rs1 : BitVec 5) (op2 : RegOrImm13) (s : State) : exec (.ldtw rd rs1 op2) s = execLdtw rd rs1 op2 s := rfl
@[simp] theorem exec_ldtwa (rd : BitVec 5) (rs1 : BitVec 5) (ea : AsiOperand) (s : State) : exec (.ldtwa rd rs1 ea) s = execLdtwa rd rs1 ea s := rfl
@[simp] theorem exec_ldtxa (rd : BitVec 5) (rs1 : BitVec 5) (rs2 : BitVec 5) (asi : BitVec 8) (s : State) : exec (.ldtxa rd rs1 rs2 asi) s = execLdtxa rd rs1 rs2 asi s := rfl
@[simp] theorem exec_stb (rd : BitVec 5) (rs1 : BitVec 5) (op2 : RegOrImm13) (s : State) : exec (.stb rd rs1 op2) s = execStb rd rs1 op2 s := rfl
@[simp] theorem exec_sth (rd : BitVec 5) (rs1 : BitVec 5) (op2 : RegOrImm13) (s : State) : exec (.sth rd rs1 op2) s = execSth rd rs1 op2 s := rfl
@[simp] theorem exec_stw (rd : BitVec 5) (rs1 : BitVec 5) (op2 : RegOrImm13) (s : State) : exec (.stw rd rs1 op2) s = execStw rd rs1 op2 s := rfl
@[simp] theorem exec_stx (rd : BitVec 5) (rs1 : BitVec 5) (op2 : RegOrImm13) (s : State) : exec (.stx rd rs1 op2) s = execStx rd rs1 op2 s := rfl
@[simp] theorem exec_stba (rd : BitVec 5) (rs1 : BitVec 5) (ea : AsiOperand) (s : State) : exec (.stba rd rs1 ea) s = execStba rd rs1 ea s := rfl
@[simp] theorem exec_stha (rd : BitVec 5) (rs1 : BitVec 5) (ea : AsiOperand) (s : State) : exec (.stha rd rs1 ea) s = execStha rd rs1 ea s := rfl
@[simp] theorem exec_stwa (rd : BitVec 5) (rs1 : BitVec 5) (ea : AsiOperand) (s : State) : exec (.stwa rd rs1 ea) s = execStwa rd rs1 ea s := rfl
@[simp] theorem exec_stxa (rd : BitVec 5) (rs1 : BitVec 5) (ea : AsiOperand) (s : State) : exec (.stxa rd rs1 ea) s = execStxa rd rs1 ea s := rfl
@[simp] theorem exec_sttw (rd : BitVec 5) (rs1 : BitVec 5) (op2 : RegOrImm13) (s : State) : exec (.sttw rd rs1 op2) s = execSttw rd rs1 op2 s := rfl
@[simp] theorem exec_sttwa (rd : BitVec 5) (rs1 : BitVec 5) (ea : AsiOperand) (s : State) : exec (.sttwa rd rs1 ea) s = execSttwa rd rs1 ea s := rfl
@[simp] theorem exec_ldstub (rd : BitVec 5) (rs1 : BitVec 5) (op2 : RegOrImm13) (s : State) : exec (.ldstub rd rs1 op2) s = execLdstub rd rs1 op2 s := rfl
@[simp] theorem exec_ldstuba (rd : BitVec 5) (rs1 : BitVec 5) (ea : AsiOperand) (s : State) : exec (.ldstuba rd rs1 ea) s = execLdstuba rd rs1 ea s := rfl
@[simp] theorem exec_swap (rd : BitVec 5) (rs1 : BitVec 5) (op2 : RegOrImm13) (s : State) : exec (.swap rd rs1 op2) s = execSwap rd rs1 op2 s := rfl
@[simp] theorem exec_swapa (rd : BitVec 5) (rs1 : BitVec 5) (ea : AsiOperand) (s : State) : exec (.swapa rd rs1 ea) s = execSwapa rd rs1 ea s := rfl
@[simp] theorem exec_casa (rd : BitVec 5) (rs1 : BitVec 5) (rs2 : BitVec 5) (sel : AsiSelect) (s : State) : exec (.casa rd rs1 rs2 sel) s = execCasa rd rs1 rs2 sel s := rfl
@[simp] theorem exec_casxa (rd : BitVec 5) (rs1 : BitVec 5) (rs2 : BitVec 5) (sel : AsiSelect) (s : State) : exec (.casxa rd rs1 rs2 sel) s = execCasxa rd rs1 rs2 sel s := rfl
@[simp] theorem exec_prefetch (fcn : BitVec 5) (rs1 : BitVec 5) (op2 : RegOrImm13) (s : State) : exec (.prefetch fcn rs1 op2) s = execPrefetch fcn rs1 op2 s := rfl
@[simp] theorem exec_prefetcha (fcn : BitVec 5) (rs1 : BitVec 5) (ea : AsiOperand) (s : State) : exec (.prefetcha fcn rs1 ea) s = execPrefetcha fcn rs1 ea s := rfl
@[simp] theorem exec_membar (cmask : BitVec 3) (mmask : BitVec 4) (s : State) : exec (.membar cmask mmask) s = execMembar cmask mmask s := rfl
@[simp] theorem exec_stbar (s : State) : exec .stbar s = execStbar s := rfl
@[simp] theorem exec_flush (rs1 : BitVec 5) (op2 : RegOrImm13) (s : State) : exec (.flush rs1 op2) s = execFlush rs1 op2 s := rfl
@[simp] theorem exec_ldf (rd : BitVec 5) (rs1 : BitVec 5) (op2 : RegOrImm13) (s : State) : exec (.ldf rd rs1 op2) s = execLdf rd rs1 op2 s := rfl
@[simp] theorem exec_lddf (rd : BitVec 5) (rs1 : BitVec 5) (op2 : RegOrImm13) (s : State) : exec (.lddf rd rs1 op2) s = execLddf rd rs1 op2 s := rfl
@[simp] theorem exec_ldxfsr (rs1 : BitVec 5) (op2 : RegOrImm13) (s : State) : exec (.ldxfsr rs1 op2) s = execLdxfsr rs1 op2 s := rfl
@[simp] theorem exec_ldqf (rd : BitVec 5) (rs1 : BitVec 5) (op2 : RegOrImm13) (s : State) : exec (.ldqf rd rs1 op2) s = execLdqf rd rs1 op2 s := rfl
@[simp] theorem exec_ldfsr (rs1 : BitVec 5) (op2 : RegOrImm13) (s : State) : exec (.ldfsr rs1 op2) s = execLdfsr rs1 op2 s := rfl
@[simp] theorem exec_ldfa (rd : BitVec 5) (rs1 : BitVec 5) (ea : AsiOperand) (s : State) : exec (.ldfa rd rs1 ea) s = execLdfa rd rs1 ea s := rfl
@[simp] theorem exec_lddfa (rd : BitVec 5) (rs1 : BitVec 5) (ea : AsiOperand) (s : State) : exec (.lddfa rd rs1 ea) s = execLddfa rd rs1 ea s := rfl
@[simp] theorem exec_ldqfa (rd : BitVec 5) (rs1 : BitVec 5) (ea : AsiOperand) (s : State) : exec (.ldqfa rd rs1 ea) s = execLdqfa rd rs1 ea s := rfl
@[simp] theorem exec_ldblockf (rd : BitVec 5) (rs1 : BitVec 5) (rs2 : BitVec 5) (asi : BitVec 8) (s : State) : exec (.ldblockf rd rs1 rs2 asi) s = execLdblockf rd rs1 rs2 asi s := rfl
@[simp] theorem exec_ldshortf (rd : BitVec 5) (rs1 : BitVec 5) (rs2 : BitVec 5) (asi : BitVec 8) (s : State) : exec (.ldshortf rd rs1 rs2 asi) s = execLdshortf rd rs1 rs2 asi s := rfl
@[simp] theorem exec_stf (rd : BitVec 5) (rs1 : BitVec 5) (op2 : RegOrImm13) (s : State) : exec (.stf rd rs1 op2) s = execStf rd rs1 op2 s := rfl
@[simp] theorem exec_stdf (rd : BitVec 5) (rs1 : BitVec 5) (op2 : RegOrImm13) (s : State) : exec (.stdf rd rs1 op2) s = execStdf rd rs1 op2 s := rfl
@[simp] theorem exec_stxfsr (rs1 : BitVec 5) (op2 : RegOrImm13) (s : State) : exec (.stxfsr rs1 op2) s = execStxfsr rs1 op2 s := rfl
@[simp] theorem exec_stqf (rd : BitVec 5) (rs1 : BitVec 5) (op2 : RegOrImm13) (s : State) : exec (.stqf rd rs1 op2) s = execStqf rd rs1 op2 s := rfl
@[simp] theorem exec_stfsr (rs1 : BitVec 5) (op2 : RegOrImm13) (s : State) : exec (.stfsr rs1 op2) s = execStfsr rs1 op2 s := rfl
@[simp] theorem exec_stfa (rd : BitVec 5) (rs1 : BitVec 5) (ea : AsiOperand) (s : State) : exec (.stfa rd rs1 ea) s = execStfa rd rs1 ea s := rfl
@[simp] theorem exec_stdfa (rd : BitVec 5) (rs1 : BitVec 5) (ea : AsiOperand) (s : State) : exec (.stdfa rd rs1 ea) s = execStdfa rd rs1 ea s := rfl
@[simp] theorem exec_stblockf (rd : BitVec 5) (rs1 : BitVec 5) (rs2 : BitVec 5) (asi : BitVec 8) (s : State) : exec (.stblockf rd rs1 rs2 asi) s = execStblockf rd rs1 rs2 asi s := rfl
@[simp] theorem exec_stshortf (rd : BitVec 5) (rs1 : BitVec 5) (rs2 : BitVec 5) (asi : BitVec 8) (s : State) : exec (.stshortf rd rs1 rs2 asi) s = execStshortf rd rs1 rs2 asi s := rfl
@[simp] theorem exec_stpartialf (rd : BitVec 5) (rs1 : BitVec 5) (rs2 : BitVec 5) (asi : BitVec 8) (s : State) : exec (.stpartialf rd rs1 rs2 asi) s = execStpartialf rd rs1 rs2 asi s := rfl
@[simp] theorem exec_stqfa (rd : BitVec 5) (rs1 : BitVec 5) (ea : AsiOperand) (s : State) : exec (.stqfa rd rs1 ea) s = execStqfa rd rs1 ea s := rfl
@[simp] theorem exec_save (rd : BitVec 5) (rs1 : BitVec 5) (op2 : RegOrImm13) (s : State) : exec (.save rd rs1 op2) s = execSave rd rs1 op2 s := rfl
@[simp] theorem exec_restore (rd : BitVec 5) (rs1 : BitVec 5) (op2 : RegOrImm13) (s : State) : exec (.restore rd rs1 op2) s = execRestore rd rs1 op2 s := rfl
@[simp] theorem exec_saved (s : State) : exec .saved s = execSaved s := rfl
@[simp] theorem exec_restored (s : State) : exec .restored s = execRestored s := rfl
@[simp] theorem exec_allclean (s : State) : exec .allclean s = execAllclean s := rfl
@[simp] theorem exec_otherw (s : State) : exec .otherw s = execOtherw s := rfl
@[simp] theorem exec_normalw (s : State) : exec .normalw s = execNormalw s := rfl
@[simp] theorem exec_invalw (s : State) : exec .invalw s = execInvalw s := rfl
@[simp] theorem exec_flushw (s : State) : exec .flushw s = execFlushw s := rfl
@[simp] theorem exec_rdy (rd : BitVec 5) (s : State) : exec (.rdy rd) s = execRdy rd s := rfl
@[simp] theorem exec_rdccr (rd : BitVec 5) (s : State) : exec (.rdccr rd) s = execRdccr rd s := rfl
@[simp] theorem exec_rdasi (rd : BitVec 5) (s : State) : exec (.rdasi rd) s = execRdasi rd s := rfl
@[simp] theorem exec_rdtick (rd : BitVec 5) (s : State) : exec (.rdtick rd) s = execRdtick rd s := rfl
@[simp] theorem exec_rdpc (rd : BitVec 5) (s : State) : exec (.rdpc rd) s = execRdpc rd s := rfl
@[simp] theorem exec_rdfprs (rd : BitVec 5) (s : State) : exec (.rdfprs rd) s = execRdfprs rd s := rfl
@[simp] theorem exec_rdpcr (rd : BitVec 5) (s : State) : exec (.rdpcr rd) s = execRdpcr rd s := rfl
@[simp] theorem exec_rdpic (rd : BitVec 5) (s : State) : exec (.rdpic rd) s = execRdpic rd s := rfl
@[simp] theorem exec_rdgsr (rd : BitVec 5) (s : State) : exec (.rdgsr rd) s = execRdgsr rd s := rfl
@[simp] theorem exec_rdsoftint (rd : BitVec 5) (s : State) : exec (.rdsoftint rd) s = execRdsoftint rd s := rfl
@[simp] theorem exec_rdtick_cmpr (rd : BitVec 5) (s : State) : exec (.rdtick_cmpr rd) s = execRdtick_cmpr rd s := rfl
@[simp] theorem exec_rdstick (rd : BitVec 5) (s : State) : exec (.rdstick rd) s = execRdstick rd s := rfl
@[simp] theorem exec_rdstick_cmpr (rd : BitVec 5) (s : State) : exec (.rdstick_cmpr rd) s = execRdstick_cmpr rd s := rfl
@[simp] theorem exec_wry (rs1 : BitVec 5) (op2 : RegOrImm13) (s : State) : exec (.wry rs1 op2) s = execWry rs1 op2 s := rfl
@[simp] theorem exec_wrccr (rs1 : BitVec 5) (op2 : RegOrImm13) (s : State) : exec (.wrccr rs1 op2) s = execWrccr rs1 op2 s := rfl
@[simp] theorem exec_wrasi (rs1 : BitVec 5) (op2 : RegOrImm13) (s : State) : exec (.wrasi rs1 op2) s = execWrasi rs1 op2 s := rfl
@[simp] theorem exec_wrfprs (rs1 : BitVec 5) (op2 : RegOrImm13) (s : State) : exec (.wrfprs rs1 op2) s = execWrfprs rs1 op2 s := rfl
@[simp] theorem exec_wrpcr (rs1 : BitVec 5) (op2 : RegOrImm13) (s : State) : exec (.wrpcr rs1 op2) s = execWrpcr rs1 op2 s := rfl
@[simp] theorem exec_wrpic (rs1 : BitVec 5) (op2 : RegOrImm13) (s : State) : exec (.wrpic rs1 op2) s = execWrpic rs1 op2 s := rfl
@[simp] theorem exec_wrgsr (rs1 : BitVec 5) (op2 : RegOrImm13) (s : State) : exec (.wrgsr rs1 op2) s = execWrgsr rs1 op2 s := rfl
@[simp] theorem exec_wrsoftint_set (rs1 : BitVec 5) (op2 : RegOrImm13) (s : State) : exec (.wrsoftint_set rs1 op2) s = execWrsoftint_set rs1 op2 s := rfl
@[simp] theorem exec_wrsoftint_clr (rs1 : BitVec 5) (op2 : RegOrImm13) (s : State) : exec (.wrsoftint_clr rs1 op2) s = execWrsoftint_clr rs1 op2 s := rfl
@[simp] theorem exec_wrsoftint (rs1 : BitVec 5) (op2 : RegOrImm13) (s : State) : exec (.wrsoftint rs1 op2) s = execWrsoftint rs1 op2 s := rfl
@[simp] theorem exec_wrtick_cmpr (rs1 : BitVec 5) (op2 : RegOrImm13) (s : State) : exec (.wrtick_cmpr rs1 op2) s = execWrtick_cmpr rs1 op2 s := rfl
@[simp] theorem exec_wrstick (rs1 : BitVec 5) (op2 : RegOrImm13) (s : State) : exec (.wrstick rs1 op2) s = execWrstick rs1 op2 s := rfl
@[simp] theorem exec_wrstick_cmpr (rs1 : BitVec 5) (op2 : RegOrImm13) (s : State) : exec (.wrstick_cmpr rs1 op2) s = execWrstick_cmpr rs1 op2 s := rfl
@[simp] theorem exec_sir (simm13 : BitVec 13) (s : State) : exec (.sir simm13) s = execSir simm13 s := rfl
@[simp] theorem exec_rdpr (rd : BitVec 5) (rs1 : BitVec 5) (s : State) : exec (.rdpr rd rs1) s = execRdpr rd rs1 s := rfl
@[simp] theorem exec_wrpr (rd : BitVec 5) (rs1 : BitVec 5) (op2 : RegOrImm13) (s : State) : exec (.wrpr rd rs1 op2) s = execWrpr rd rs1 op2 s := rfl
@[simp] theorem exec_rdhpr (rd : BitVec 5) (rs1 : BitVec 5) (s : State) : exec (.rdhpr rd rs1) s = execRdhpr rd rs1 s := rfl
@[simp] theorem exec_wrhpr (rd : BitVec 5) (rs1 : BitVec 5) (op2 : RegOrImm13) (s : State) : exec (.wrhpr rd rs1 op2) s = execWrhpr rd rs1 op2 s := rfl
@[simp] theorem exec_shutdown (s : State) : exec .shutdown s = execShutdown s := rfl
@[simp] theorem exec_impdep1 (rd : BitVec 5) (rs1 : BitVec 5) (opf : BitVec 9) (rs2 : BitVec 5) (s : State) : exec (.impdep1 rd rs1 opf rs2) s = execImpdep1 rd rs1 opf rs2 s := rfl
@[simp] theorem exec_impdep2a (rd : BitVec 5) (mid : BitVec 12) (rs2 : BitVec 5) (s : State) : exec (.impdep2a rd mid rs2) s = execImpdep2a rd mid rs2 s := rfl
@[simp] theorem exec_impdep2b (rd : BitVec 5) (mid : BitVec 12) (op4 : BitVec 2) (rs2 : BitVec 5) (s : State) : exec (.impdep2b rd mid op4 rs2) s = execImpdep2b rd mid op4 rs2 s := rfl
@[simp] theorem exec_fadds (rd : BitVec 5) (rs1 : BitVec 5) (rs2 : BitVec 5) (s : State) : exec (.fadds rd rs1 rs2) s = execFadds rd rs1 rs2 s := rfl
@[simp] theorem exec_faddd (rd : BitVec 5) (rs1 : BitVec 5) (rs2 : BitVec 5) (s : State) : exec (.faddd rd rs1 rs2) s = execFaddd rd rs1 rs2 s := rfl
@[simp] theorem exec_faddq (rd : BitVec 5) (rs1 : BitVec 5) (rs2 : BitVec 5) (s : State) : exec (.faddq rd rs1 rs2) s = execFaddq rd rs1 rs2 s := rfl
@[simp] theorem exec_fsubs (rd : BitVec 5) (rs1 : BitVec 5) (rs2 : BitVec 5) (s : State) : exec (.fsubs rd rs1 rs2) s = execFsubs rd rs1 rs2 s := rfl
@[simp] theorem exec_fsubd (rd : BitVec 5) (rs1 : BitVec 5) (rs2 : BitVec 5) (s : State) : exec (.fsubd rd rs1 rs2) s = execFsubd rd rs1 rs2 s := rfl
@[simp] theorem exec_fsubq (rd : BitVec 5) (rs1 : BitVec 5) (rs2 : BitVec 5) (s : State) : exec (.fsubq rd rs1 rs2) s = execFsubq rd rs1 rs2 s := rfl
@[simp] theorem exec_fmuls (rd : BitVec 5) (rs1 : BitVec 5) (rs2 : BitVec 5) (s : State) : exec (.fmuls rd rs1 rs2) s = execFmuls rd rs1 rs2 s := rfl
@[simp] theorem exec_fmuld (rd : BitVec 5) (rs1 : BitVec 5) (rs2 : BitVec 5) (s : State) : exec (.fmuld rd rs1 rs2) s = execFmuld rd rs1 rs2 s := rfl
@[simp] theorem exec_fmulq (rd : BitVec 5) (rs1 : BitVec 5) (rs2 : BitVec 5) (s : State) : exec (.fmulq rd rs1 rs2) s = execFmulq rd rs1 rs2 s := rfl
@[simp] theorem exec_fdivs (rd : BitVec 5) (rs1 : BitVec 5) (rs2 : BitVec 5) (s : State) : exec (.fdivs rd rs1 rs2) s = execFdivs rd rs1 rs2 s := rfl
@[simp] theorem exec_fdivd (rd : BitVec 5) (rs1 : BitVec 5) (rs2 : BitVec 5) (s : State) : exec (.fdivd rd rs1 rs2) s = execFdivd rd rs1 rs2 s := rfl
@[simp] theorem exec_fdivq (rd : BitVec 5) (rs1 : BitVec 5) (rs2 : BitVec 5) (s : State) : exec (.fdivq rd rs1 rs2) s = execFdivq rd rs1 rs2 s := rfl
@[simp] theorem exec_fsmuld (rd : BitVec 5) (rs1 : BitVec 5) (rs2 : BitVec 5) (s : State) : exec (.fsmuld rd rs1 rs2) s = execFsmuld rd rs1 rs2 s := rfl
@[simp] theorem exec_fdmulq (rd : BitVec 5) (rs1 : BitVec 5) (rs2 : BitVec 5) (s : State) : exec (.fdmulq rd rs1 rs2) s = execFdmulq rd rs1 rs2 s := rfl
@[simp] theorem exec_fsqrts (rd : BitVec 5) (rs2 : BitVec 5) (s : State) : exec (.fsqrts rd rs2) s = execFsqrts rd rs2 s := rfl
@[simp] theorem exec_fsqrtd (rd : BitVec 5) (rs2 : BitVec 5) (s : State) : exec (.fsqrtd rd rs2) s = execFsqrtd rd rs2 s := rfl
@[simp] theorem exec_fsqrtq (rd : BitVec 5) (rs2 : BitVec 5) (s : State) : exec (.fsqrtq rd rs2) s = execFsqrtq rd rs2 s := rfl
@[simp] theorem exec_fcmps (cc : BitVec 2) (rs1 : BitVec 5) (rs2 : BitVec 5) (s : State) : exec (.fcmps cc rs1 rs2) s = execFcmps cc rs1 rs2 s := rfl
@[simp] theorem exec_fcmpd (cc : BitVec 2) (rs1 : BitVec 5) (rs2 : BitVec 5) (s : State) : exec (.fcmpd cc rs1 rs2) s = execFcmpd cc rs1 rs2 s := rfl
@[simp] theorem exec_fcmpq (cc : BitVec 2) (rs1 : BitVec 5) (rs2 : BitVec 5) (s : State) : exec (.fcmpq cc rs1 rs2) s = execFcmpq cc rs1 rs2 s := rfl
@[simp] theorem exec_fcmpes (cc : BitVec 2) (rs1 : BitVec 5) (rs2 : BitVec 5) (s : State) : exec (.fcmpes cc rs1 rs2) s = execFcmpes cc rs1 rs2 s := rfl
@[simp] theorem exec_fcmped (cc : BitVec 2) (rs1 : BitVec 5) (rs2 : BitVec 5) (s : State) : exec (.fcmped cc rs1 rs2) s = execFcmped cc rs1 rs2 s := rfl
@[simp] theorem exec_fcmpeq (cc : BitVec 2) (rs1 : BitVec 5) (rs2 : BitVec 5) (s : State) : exec (.fcmpeq cc rs1 rs2) s = execFcmpeq cc rs1 rs2 s := rfl
@[simp] theorem exec_fitos (rd : BitVec 5) (rs2 : BitVec 5) (s : State) : exec (.fitos rd rs2) s = execFitos rd rs2 s := rfl
@[simp] theorem exec_fitod (rd : BitVec 5) (rs2 : BitVec 5) (s : State) : exec (.fitod rd rs2) s = execFitod rd rs2 s := rfl
@[simp] theorem exec_fitoq (rd : BitVec 5) (rs2 : BitVec 5) (s : State) : exec (.fitoq rd rs2) s = execFitoq rd rs2 s := rfl
@[simp] theorem exec_fxtos (rd : BitVec 5) (rs2 : BitVec 5) (s : State) : exec (.fxtos rd rs2) s = execFxtos rd rs2 s := rfl
@[simp] theorem exec_fxtod (rd : BitVec 5) (rs2 : BitVec 5) (s : State) : exec (.fxtod rd rs2) s = execFxtod rd rs2 s := rfl
@[simp] theorem exec_fxtoq (rd : BitVec 5) (rs2 : BitVec 5) (s : State) : exec (.fxtoq rd rs2) s = execFxtoq rd rs2 s := rfl
@[simp] theorem exec_fstox (rd : BitVec 5) (rs2 : BitVec 5) (s : State) : exec (.fstox rd rs2) s = execFstox rd rs2 s := rfl
@[simp] theorem exec_fdtox (rd : BitVec 5) (rs2 : BitVec 5) (s : State) : exec (.fdtox rd rs2) s = execFdtox rd rs2 s := rfl
@[simp] theorem exec_fqtox (rd : BitVec 5) (rs2 : BitVec 5) (s : State) : exec (.fqtox rd rs2) s = execFqtox rd rs2 s := rfl
@[simp] theorem exec_fstoi (rd : BitVec 5) (rs2 : BitVec 5) (s : State) : exec (.fstoi rd rs2) s = execFstoi rd rs2 s := rfl
@[simp] theorem exec_fdtoi (rd : BitVec 5) (rs2 : BitVec 5) (s : State) : exec (.fdtoi rd rs2) s = execFdtoi rd rs2 s := rfl
@[simp] theorem exec_fqtoi (rd : BitVec 5) (rs2 : BitVec 5) (s : State) : exec (.fqtoi rd rs2) s = execFqtoi rd rs2 s := rfl
@[simp] theorem exec_fstod (rd : BitVec 5) (rs2 : BitVec 5) (s : State) : exec (.fstod rd rs2) s = execFstod rd rs2 s := rfl
@[simp] theorem exec_fstoq (rd : BitVec 5) (rs2 : BitVec 5) (s : State) : exec (.fstoq rd rs2) s = execFstoq rd rs2 s := rfl
@[simp] theorem exec_fdtos (rd : BitVec 5) (rs2 : BitVec 5) (s : State) : exec (.fdtos rd rs2) s = execFdtos rd rs2 s := rfl
@[simp] theorem exec_fdtoq (rd : BitVec 5) (rs2 : BitVec 5) (s : State) : exec (.fdtoq rd rs2) s = execFdtoq rd rs2 s := rfl
@[simp] theorem exec_fqtos (rd : BitVec 5) (rs2 : BitVec 5) (s : State) : exec (.fqtos rd rs2) s = execFqtos rd rs2 s := rfl
@[simp] theorem exec_fqtod (rd : BitVec 5) (rs2 : BitVec 5) (s : State) : exec (.fqtod rd rs2) s = execFqtod rd rs2 s := rfl
@[simp] theorem exec_fmovs (rd : BitVec 5) (rs2 : BitVec 5) (s : State) : exec (.fmovs rd rs2) s = execFmovs rd rs2 s := rfl
@[simp] theorem exec_fmovd (rd : BitVec 5) (rs2 : BitVec 5) (s : State) : exec (.fmovd rd rs2) s = execFmovd rd rs2 s := rfl
@[simp] theorem exec_fmovq (rd : BitVec 5) (rs2 : BitVec 5) (s : State) : exec (.fmovq rd rs2) s = execFmovq rd rs2 s := rfl
@[simp] theorem exec_fnegs (rd : BitVec 5) (rs2 : BitVec 5) (s : State) : exec (.fnegs rd rs2) s = execFnegs rd rs2 s := rfl
@[simp] theorem exec_fnegd (rd : BitVec 5) (rs2 : BitVec 5) (s : State) : exec (.fnegd rd rs2) s = execFnegd rd rs2 s := rfl
@[simp] theorem exec_fnegq (rd : BitVec 5) (rs2 : BitVec 5) (s : State) : exec (.fnegq rd rs2) s = execFnegq rd rs2 s := rfl
@[simp] theorem exec_fabss (rd : BitVec 5) (rs2 : BitVec 5) (s : State) : exec (.fabss rd rs2) s = execFabss rd rs2 s := rfl
@[simp] theorem exec_fabsd (rd : BitVec 5) (rs2 : BitVec 5) (s : State) : exec (.fabsd rd rs2) s = execFabsd rd rs2 s := rfl
@[simp] theorem exec_fabsq (rd : BitVec 5) (rs2 : BitVec 5) (s : State) : exec (.fabsq rd rs2) s = execFabsq rd rs2 s := rfl
@[simp] theorem exec_fmovsicc (rd : BitVec 5) (cond : BitVec 4) (rs2 : BitVec 5) (s : State) : exec (.fmovsicc rd cond rs2) s = execFmovsicc rd cond rs2 s := rfl
@[simp] theorem exec_fmovdicc (rd : BitVec 5) (cond : BitVec 4) (rs2 : BitVec 5) (s : State) : exec (.fmovdicc rd cond rs2) s = execFmovdicc rd cond rs2 s := rfl
@[simp] theorem exec_fmovqicc (rd : BitVec 5) (cond : BitVec 4) (rs2 : BitVec 5) (s : State) : exec (.fmovqicc rd cond rs2) s = execFmovqicc rd cond rs2 s := rfl
@[simp] theorem exec_fmovsxcc (rd : BitVec 5) (cond : BitVec 4) (rs2 : BitVec 5) (s : State) : exec (.fmovsxcc rd cond rs2) s = execFmovsxcc rd cond rs2 s := rfl
@[simp] theorem exec_fmovdxcc (rd : BitVec 5) (cond : BitVec 4) (rs2 : BitVec 5) (s : State) : exec (.fmovdxcc rd cond rs2) s = execFmovdxcc rd cond rs2 s := rfl
@[simp] theorem exec_fmovqxcc (rd : BitVec 5) (cond : BitVec 4) (rs2 : BitVec 5) (s : State) : exec (.fmovqxcc rd cond rs2) s = execFmovqxcc rd cond rs2 s := rfl
@[simp] theorem exec_fmovsfcc (rd : BitVec 5) (cond : BitVec 4) (cc : BitVec 2) (rs2 : BitVec 5) (s : State) : exec (.fmovsfcc rd cond cc rs2) s = execFmovsfcc rd cond cc rs2 s := rfl
@[simp] theorem exec_fmovdfcc (rd : BitVec 5) (cond : BitVec 4) (cc : BitVec 2) (rs2 : BitVec 5) (s : State) : exec (.fmovdfcc rd cond cc rs2) s = execFmovdfcc rd cond cc rs2 s := rfl
@[simp] theorem exec_fmovqfcc (rd : BitVec 5) (cond : BitVec 4) (cc : BitVec 2) (rs2 : BitVec 5) (s : State) : exec (.fmovqfcc rd cond cc rs2) s = execFmovqfcc rd cond cc rs2 s := rfl
@[simp] theorem exec_fmovrsz (rd : BitVec 5) (rs1 : BitVec 5) (rs2 : BitVec 5) (s : State) : exec (.fmovrsz rd rs1 rs2) s = execFmovrsz rd rs1 rs2 s := rfl
@[simp] theorem exec_fmovrslez (rd : BitVec 5) (rs1 : BitVec 5) (rs2 : BitVec 5) (s : State) : exec (.fmovrslez rd rs1 rs2) s = execFmovrslez rd rs1 rs2 s := rfl
@[simp] theorem exec_fmovrslz (rd : BitVec 5) (rs1 : BitVec 5) (rs2 : BitVec 5) (s : State) : exec (.fmovrslz rd rs1 rs2) s = execFmovrslz rd rs1 rs2 s := rfl
@[simp] theorem exec_fmovrsnz (rd : BitVec 5) (rs1 : BitVec 5) (rs2 : BitVec 5) (s : State) : exec (.fmovrsnz rd rs1 rs2) s = execFmovrsnz rd rs1 rs2 s := rfl
@[simp] theorem exec_fmovrsgz (rd : BitVec 5) (rs1 : BitVec 5) (rs2 : BitVec 5) (s : State) : exec (.fmovrsgz rd rs1 rs2) s = execFmovrsgz rd rs1 rs2 s := rfl
@[simp] theorem exec_fmovrsgez (rd : BitVec 5) (rs1 : BitVec 5) (rs2 : BitVec 5) (s : State) : exec (.fmovrsgez rd rs1 rs2) s = execFmovrsgez rd rs1 rs2 s := rfl
@[simp] theorem exec_fmovrdz (rd : BitVec 5) (rs1 : BitVec 5) (rs2 : BitVec 5) (s : State) : exec (.fmovrdz rd rs1 rs2) s = execFmovrdz rd rs1 rs2 s := rfl
@[simp] theorem exec_fmovrdlez (rd : BitVec 5) (rs1 : BitVec 5) (rs2 : BitVec 5) (s : State) : exec (.fmovrdlez rd rs1 rs2) s = execFmovrdlez rd rs1 rs2 s := rfl
@[simp] theorem exec_fmovrdlz (rd : BitVec 5) (rs1 : BitVec 5) (rs2 : BitVec 5) (s : State) : exec (.fmovrdlz rd rs1 rs2) s = execFmovrdlz rd rs1 rs2 s := rfl
@[simp] theorem exec_fmovrdnz (rd : BitVec 5) (rs1 : BitVec 5) (rs2 : BitVec 5) (s : State) : exec (.fmovrdnz rd rs1 rs2) s = execFmovrdnz rd rs1 rs2 s := rfl
@[simp] theorem exec_fmovrdgz (rd : BitVec 5) (rs1 : BitVec 5) (rs2 : BitVec 5) (s : State) : exec (.fmovrdgz rd rs1 rs2) s = execFmovrdgz rd rs1 rs2 s := rfl
@[simp] theorem exec_fmovrdgez (rd : BitVec 5) (rs1 : BitVec 5) (rs2 : BitVec 5) (s : State) : exec (.fmovrdgez rd rs1 rs2) s = execFmovrdgez rd rs1 rs2 s := rfl
@[simp] theorem exec_fmovrqz (rd : BitVec 5) (rs1 : BitVec 5) (rs2 : BitVec 5) (s : State) : exec (.fmovrqz rd rs1 rs2) s = execFmovrqz rd rs1 rs2 s := rfl
@[simp] theorem exec_fmovrqlez (rd : BitVec 5) (rs1 : BitVec 5) (rs2 : BitVec 5) (s : State) : exec (.fmovrqlez rd rs1 rs2) s = execFmovrqlez rd rs1 rs2 s := rfl
@[simp] theorem exec_fmovrqlz (rd : BitVec 5) (rs1 : BitVec 5) (rs2 : BitVec 5) (s : State) : exec (.fmovrqlz rd rs1 rs2) s = execFmovrqlz rd rs1 rs2 s := rfl
@[simp] theorem exec_fmovrqnz (rd : BitVec 5) (rs1 : BitVec 5) (rs2 : BitVec 5) (s : State) : exec (.fmovrqnz rd rs1 rs2) s = execFmovrqnz rd rs1 rs2 s := rfl
@[simp] theorem exec_fmovrqgz (rd : BitVec 5) (rs1 : BitVec 5) (rs2 : BitVec 5) (s : State) : exec (.fmovrqgz rd rs1 rs2) s = execFmovrqgz rd rs1 rs2 s := rfl
@[simp] theorem exec_fmovrqgez (rd : BitVec 5) (rs1 : BitVec 5) (rs2 : BitVec 5) (s : State) : exec (.fmovrqgez rd rs1 rs2) s = execFmovrqgez rd rs1 rs2 s := rfl
@[simp] theorem exec_alignaddress (rd : BitVec 5) (rs1 : BitVec 5) (rs2 : BitVec 5) (s : State) : exec (.alignaddress rd rs1 rs2) s = execAlignaddress rd rs1 rs2 s := rfl
@[simp] theorem exec_alignaddress_little (rd : BitVec 5) (rs1 : BitVec 5) (rs2 : BitVec 5) (s : State) : exec (.alignaddress_little rd rs1 rs2) s = execAlignaddress_little rd rs1 rs2 s := rfl
@[simp] theorem exec_faligndata (rd : BitVec 5) (rs1 : BitVec 5) (rs2 : BitVec 5) (s : State) : exec (.faligndata rd rs1 rs2) s = execFaligndata rd rs1 rs2 s := rfl
@[simp] theorem exec_bmask (rd : BitVec 5) (rs1 : BitVec 5) (rs2 : BitVec 5) (s : State) : exec (.bmask rd rs1 rs2) s = execBmask rd rs1 rs2 s := rfl
@[simp] theorem exec_bshuffle (rd : BitVec 5) (rs1 : BitVec 5) (rs2 : BitVec 5) (s : State) : exec (.bshuffle rd rs1 rs2) s = execBshuffle rd rs1 rs2 s := rfl
@[simp] theorem exec_edge8cc (rd : BitVec 5) (rs1 : BitVec 5) (rs2 : BitVec 5) (s : State) : exec (.edge8cc rd rs1 rs2) s = execEdge8cc rd rs1 rs2 s := rfl
@[simp] theorem exec_edge8lcc (rd : BitVec 5) (rs1 : BitVec 5) (rs2 : BitVec 5) (s : State) : exec (.edge8lcc rd rs1 rs2) s = execEdge8lcc rd rs1 rs2 s := rfl
@[simp] theorem exec_edge16cc (rd : BitVec 5) (rs1 : BitVec 5) (rs2 : BitVec 5) (s : State) : exec (.edge16cc rd rs1 rs2) s = execEdge16cc rd rs1 rs2 s := rfl
@[simp] theorem exec_edge16lcc (rd : BitVec 5) (rs1 : BitVec 5) (rs2 : BitVec 5) (s : State) : exec (.edge16lcc rd rs1 rs2) s = execEdge16lcc rd rs1 rs2 s := rfl
@[simp] theorem exec_edge32cc (rd : BitVec 5) (rs1 : BitVec 5) (rs2 : BitVec 5) (s : State) : exec (.edge32cc rd rs1 rs2) s = execEdge32cc rd rs1 rs2 s := rfl
@[simp] theorem exec_edge32lcc (rd : BitVec 5) (rs1 : BitVec 5) (rs2 : BitVec 5) (s : State) : exec (.edge32lcc rd rs1 rs2) s = execEdge32lcc rd rs1 rs2 s := rfl
@[simp] theorem exec_edge8n (rd : BitVec 5) (rs1 : BitVec 5) (rs2 : BitVec 5) (s : State) : exec (.edge8n rd rs1 rs2) s = execEdge8n rd rs1 rs2 s := rfl
@[simp] theorem exec_edge8ln (rd : BitVec 5) (rs1 : BitVec 5) (rs2 : BitVec 5) (s : State) : exec (.edge8ln rd rs1 rs2) s = execEdge8ln rd rs1 rs2 s := rfl
@[simp] theorem exec_edge16n (rd : BitVec 5) (rs1 : BitVec 5) (rs2 : BitVec 5) (s : State) : exec (.edge16n rd rs1 rs2) s = execEdge16n rd rs1 rs2 s := rfl
@[simp] theorem exec_edge16ln (rd : BitVec 5) (rs1 : BitVec 5) (rs2 : BitVec 5) (s : State) : exec (.edge16ln rd rs1 rs2) s = execEdge16ln rd rs1 rs2 s := rfl
@[simp] theorem exec_edge32n (rd : BitVec 5) (rs1 : BitVec 5) (rs2 : BitVec 5) (s : State) : exec (.edge32n rd rs1 rs2) s = execEdge32n rd rs1 rs2 s := rfl
@[simp] theorem exec_edge32ln (rd : BitVec 5) (rs1 : BitVec 5) (rs2 : BitVec 5) (s : State) : exec (.edge32ln rd rs1 rs2) s = execEdge32ln rd rs1 rs2 s := rfl
@[simp] theorem exec_array8 (rd : BitVec 5) (rs1 : BitVec 5) (rs2 : BitVec 5) (s : State) : exec (.array8 rd rs1 rs2) s = execArray8 rd rs1 rs2 s := rfl
@[simp] theorem exec_array16 (rd : BitVec 5) (rs1 : BitVec 5) (rs2 : BitVec 5) (s : State) : exec (.array16 rd rs1 rs2) s = execArray16 rd rs1 rs2 s := rfl
@[simp] theorem exec_array32 (rd : BitVec 5) (rs1 : BitVec 5) (rs2 : BitVec 5) (s : State) : exec (.array32 rd rs1 rs2) s = execArray32 rd rs1 rs2 s := rfl
@[simp] theorem exec_fcmple16 (rd : BitVec 5) (rs1 : BitVec 5) (rs2 : BitVec 5) (s : State) : exec (.fcmple16 rd rs1 rs2) s = execFcmple16 rd rs1 rs2 s := rfl
@[simp] theorem exec_fcmpne16 (rd : BitVec 5) (rs1 : BitVec 5) (rs2 : BitVec 5) (s : State) : exec (.fcmpne16 rd rs1 rs2) s = execFcmpne16 rd rs1 rs2 s := rfl
@[simp] theorem exec_fcmple32 (rd : BitVec 5) (rs1 : BitVec 5) (rs2 : BitVec 5) (s : State) : exec (.fcmple32 rd rs1 rs2) s = execFcmple32 rd rs1 rs2 s := rfl
@[simp] theorem exec_fcmpne32 (rd : BitVec 5) (rs1 : BitVec 5) (rs2 : BitVec 5) (s : State) : exec (.fcmpne32 rd rs1 rs2) s = execFcmpne32 rd rs1 rs2 s := rfl
@[simp] theorem exec_fcmpgt16 (rd : BitVec 5) (rs1 : BitVec 5) (rs2 : BitVec 5) (s : State) : exec (.fcmpgt16 rd rs1 rs2) s = execFcmpgt16 rd rs1 rs2 s := rfl
@[simp] theorem exec_fcmpeq16 (rd : BitVec 5) (rs1 : BitVec 5) (rs2 : BitVec 5) (s : State) : exec (.fcmpeq16 rd rs1 rs2) s = execFcmpeq16 rd rs1 rs2 s := rfl
@[simp] theorem exec_fcmpgt32 (rd : BitVec 5) (rs1 : BitVec 5) (rs2 : BitVec 5) (s : State) : exec (.fcmpgt32 rd rs1 rs2) s = execFcmpgt32 rd rs1 rs2 s := rfl
@[simp] theorem exec_fcmpeq32 (rd : BitVec 5) (rs1 : BitVec 5) (rs2 : BitVec 5) (s : State) : exec (.fcmpeq32 rd rs1 rs2) s = execFcmpeq32 rd rs1 rs2 s := rfl
@[simp] theorem exec_fpadd16 (rd : BitVec 5) (rs1 : BitVec 5) (rs2 : BitVec 5) (s : State) : exec (.fpadd16 rd rs1 rs2) s = execFpadd16 rd rs1 rs2 s := rfl
@[simp] theorem exec_fpadd16s (rd : BitVec 5) (rs1 : BitVec 5) (rs2 : BitVec 5) (s : State) : exec (.fpadd16s rd rs1 rs2) s = execFpadd16s rd rs1 rs2 s := rfl
@[simp] theorem exec_fpadd32 (rd : BitVec 5) (rs1 : BitVec 5) (rs2 : BitVec 5) (s : State) : exec (.fpadd32 rd rs1 rs2) s = execFpadd32 rd rs1 rs2 s := rfl
@[simp] theorem exec_fpadd32s (rd : BitVec 5) (rs1 : BitVec 5) (rs2 : BitVec 5) (s : State) : exec (.fpadd32s rd rs1 rs2) s = execFpadd32s rd rs1 rs2 s := rfl
@[simp] theorem exec_fpsub16 (rd : BitVec 5) (rs1 : BitVec 5) (rs2 : BitVec 5) (s : State) : exec (.fpsub16 rd rs1 rs2) s = execFpsub16 rd rs1 rs2 s := rfl
@[simp] theorem exec_fpsub16s (rd : BitVec 5) (rs1 : BitVec 5) (rs2 : BitVec 5) (s : State) : exec (.fpsub16s rd rs1 rs2) s = execFpsub16s rd rs1 rs2 s := rfl
@[simp] theorem exec_fpsub32 (rd : BitVec 5) (rs1 : BitVec 5) (rs2 : BitVec 5) (s : State) : exec (.fpsub32 rd rs1 rs2) s = execFpsub32 rd rs1 rs2 s := rfl
@[simp] theorem exec_fpsub32s (rd : BitVec 5) (rs1 : BitVec 5) (rs2 : BitVec 5) (s : State) : exec (.fpsub32s rd rs1 rs2) s = execFpsub32s rd rs1 rs2 s := rfl
@[simp] theorem exec_fzero (rd : BitVec 5) (s : State) : exec (.fzero rd) s = execFzero rd s := rfl
@[simp] theorem exec_fzeros (rd : BitVec 5) (s : State) : exec (.fzeros rd) s = execFzeros rd s := rfl
@[simp] theorem exec_fone (rd : BitVec 5) (s : State) : exec (.fone rd) s = execFone rd s := rfl
@[simp] theorem exec_fones (rd : BitVec 5) (s : State) : exec (.fones rd) s = execFones rd s := rfl
@[simp] theorem exec_fsrc1 (rd : BitVec 5) (rs1 : BitVec 5) (s : State) : exec (.fsrc1 rd rs1) s = execFsrc1 rd rs1 s := rfl
@[simp] theorem exec_fsrc1s (rd : BitVec 5) (rs1 : BitVec 5) (s : State) : exec (.fsrc1s rd rs1) s = execFsrc1s rd rs1 s := rfl
@[simp] theorem exec_fsrc2 (rd : BitVec 5) (rs2 : BitVec 5) (s : State) : exec (.fsrc2 rd rs2) s = execFsrc2 rd rs2 s := rfl
@[simp] theorem exec_fsrc2s (rd : BitVec 5) (rs2 : BitVec 5) (s : State) : exec (.fsrc2s rd rs2) s = execFsrc2s rd rs2 s := rfl
@[simp] theorem exec_fnot1 (rd : BitVec 5) (rs1 : BitVec 5) (s : State) : exec (.fnot1 rd rs1) s = execFnot1 rd rs1 s := rfl
@[simp] theorem exec_fnot1s (rd : BitVec 5) (rs1 : BitVec 5) (s : State) : exec (.fnot1s rd rs1) s = execFnot1s rd rs1 s := rfl
@[simp] theorem exec_fnot2 (rd : BitVec 5) (rs2 : BitVec 5) (s : State) : exec (.fnot2 rd rs2) s = execFnot2 rd rs2 s := rfl
@[simp] theorem exec_fnot2s (rd : BitVec 5) (rs2 : BitVec 5) (s : State) : exec (.fnot2s rd rs2) s = execFnot2s rd rs2 s := rfl
@[simp] theorem exec_for_ (rd : BitVec 5) (rs1 : BitVec 5) (rs2 : BitVec 5) (s : State) : exec (.for_ rd rs1 rs2) s = execFor_ rd rs1 rs2 s := rfl
@[simp] theorem exec_fors (rd : BitVec 5) (rs1 : BitVec 5) (rs2 : BitVec 5) (s : State) : exec (.fors rd rs1 rs2) s = execFors rd rs1 rs2 s := rfl
@[simp] theorem exec_fnor (rd : BitVec 5) (rs1 : BitVec 5) (rs2 : BitVec 5) (s : State) : exec (.fnor rd rs1 rs2) s = execFnor rd rs1 rs2 s := rfl
@[simp] theorem exec_fnors (rd : BitVec 5) (rs1 : BitVec 5) (rs2 : BitVec 5) (s : State) : exec (.fnors rd rs1 rs2) s = execFnors rd rs1 rs2 s := rfl
@[simp] theorem exec_fand (rd : BitVec 5) (rs1 : BitVec 5) (rs2 : BitVec 5) (s : State) : exec (.fand rd rs1 rs2) s = execFand rd rs1 rs2 s := rfl
@[simp] theorem exec_fands (rd : BitVec 5) (rs1 : BitVec 5) (rs2 : BitVec 5) (s : State) : exec (.fands rd rs1 rs2) s = execFands rd rs1 rs2 s := rfl
@[simp] theorem exec_fnand (rd : BitVec 5) (rs1 : BitVec 5) (rs2 : BitVec 5) (s : State) : exec (.fnand rd rs1 rs2) s = execFnand rd rs1 rs2 s := rfl
@[simp] theorem exec_fnands (rd : BitVec 5) (rs1 : BitVec 5) (rs2 : BitVec 5) (s : State) : exec (.fnands rd rs1 rs2) s = execFnands rd rs1 rs2 s := rfl
@[simp] theorem exec_fxor (rd : BitVec 5) (rs1 : BitVec 5) (rs2 : BitVec 5) (s : State) : exec (.fxor rd rs1 rs2) s = execFxor rd rs1 rs2 s := rfl
@[simp] theorem exec_fxors (rd : BitVec 5) (rs1 : BitVec 5) (rs2 : BitVec 5) (s : State) : exec (.fxors rd rs1 rs2) s = execFxors rd rs1 rs2 s := rfl
@[simp] theorem exec_fxnor (rd : BitVec 5) (rs1 : BitVec 5) (rs2 : BitVec 5) (s : State) : exec (.fxnor rd rs1 rs2) s = execFxnor rd rs1 rs2 s := rfl
@[simp] theorem exec_fxnors (rd : BitVec 5) (rs1 : BitVec 5) (rs2 : BitVec 5) (s : State) : exec (.fxnors rd rs1 rs2) s = execFxnors rd rs1 rs2 s := rfl
@[simp] theorem exec_fornot1 (rd : BitVec 5) (rs1 : BitVec 5) (rs2 : BitVec 5) (s : State) : exec (.fornot1 rd rs1 rs2) s = execFornot1 rd rs1 rs2 s := rfl
@[simp] theorem exec_fornot1s (rd : BitVec 5) (rs1 : BitVec 5) (rs2 : BitVec 5) (s : State) : exec (.fornot1s rd rs1 rs2) s = execFornot1s rd rs1 rs2 s := rfl
@[simp] theorem exec_fornot2 (rd : BitVec 5) (rs1 : BitVec 5) (rs2 : BitVec 5) (s : State) : exec (.fornot2 rd rs1 rs2) s = execFornot2 rd rs1 rs2 s := rfl
@[simp] theorem exec_fornot2s (rd : BitVec 5) (rs1 : BitVec 5) (rs2 : BitVec 5) (s : State) : exec (.fornot2s rd rs1 rs2) s = execFornot2s rd rs1 rs2 s := rfl
@[simp] theorem exec_fandnot1 (rd : BitVec 5) (rs1 : BitVec 5) (rs2 : BitVec 5) (s : State) : exec (.fandnot1 rd rs1 rs2) s = execFandnot1 rd rs1 rs2 s := rfl
@[simp] theorem exec_fandnot1s (rd : BitVec 5) (rs1 : BitVec 5) (rs2 : BitVec 5) (s : State) : exec (.fandnot1s rd rs1 rs2) s = execFandnot1s rd rs1 rs2 s := rfl
@[simp] theorem exec_fandnot2 (rd : BitVec 5) (rs1 : BitVec 5) (rs2 : BitVec 5) (s : State) : exec (.fandnot2 rd rs1 rs2) s = execFandnot2 rd rs1 rs2 s := rfl
@[simp] theorem exec_fandnot2s (rd : BitVec 5) (rs1 : BitVec 5) (rs2 : BitVec 5) (s : State) : exec (.fandnot2s rd rs1 rs2) s = execFandnot2s rd rs1 rs2 s := rfl
@[simp] theorem exec_siam (mode : BitVec 3) (s : State) : exec (.siam mode) s = execSiam mode s := rfl
@[simp] theorem exec_fexpand (rd : BitVec 5) (rs2 : BitVec 5) (s : State) : exec (.fexpand rd rs2) s = execFexpand rd rs2 s := rfl
@[simp] theorem exec_fmul8x16 (rd : BitVec 5) (rs1 : BitVec 5) (rs2 : BitVec 5) (s : State) : exec (.fmul8x16 rd rs1 rs2) s = execFmul8x16 rd rs1 rs2 s := rfl
@[simp] theorem exec_fmul8x16au (rd : BitVec 5) (rs1 : BitVec 5) (rs2 : BitVec 5) (s : State) : exec (.fmul8x16au rd rs1 rs2) s = execFmul8x16au rd rs1 rs2 s := rfl
@[simp] theorem exec_fmul8x16al (rd : BitVec 5) (rs1 : BitVec 5) (rs2 : BitVec 5) (s : State) : exec (.fmul8x16al rd rs1 rs2) s = execFmul8x16al rd rs1 rs2 s := rfl
@[simp] theorem exec_fmul8sux16 (rd : BitVec 5) (rs1 : BitVec 5) (rs2 : BitVec 5) (s : State) : exec (.fmul8sux16 rd rs1 rs2) s = execFmul8sux16 rd rs1 rs2 s := rfl
@[simp] theorem exec_fmul8ulx16 (rd : BitVec 5) (rs1 : BitVec 5) (rs2 : BitVec 5) (s : State) : exec (.fmul8ulx16 rd rs1 rs2) s = execFmul8ulx16 rd rs1 rs2 s := rfl
@[simp] theorem exec_fmuld8sux16 (rd : BitVec 5) (rs1 : BitVec 5) (rs2 : BitVec 5) (s : State) : exec (.fmuld8sux16 rd rs1 rs2) s = execFmuld8sux16 rd rs1 rs2 s := rfl
@[simp] theorem exec_fmuld8ulx16 (rd : BitVec 5) (rs1 : BitVec 5) (rs2 : BitVec 5) (s : State) : exec (.fmuld8ulx16 rd rs1 rs2) s = execFmuld8ulx16 rd rs1 rs2 s := rfl
@[simp] theorem exec_fpack16 (rd : BitVec 5) (rs2 : BitVec 5) (s : State) : exec (.fpack16 rd rs2) s = execFpack16 rd rs2 s := rfl
@[simp] theorem exec_fpack32 (rd : BitVec 5) (rs1 : BitVec 5) (rs2 : BitVec 5) (s : State) : exec (.fpack32 rd rs1 rs2) s = execFpack32 rd rs1 rs2 s := rfl
@[simp] theorem exec_fpackfix (rd : BitVec 5) (rs2 : BitVec 5) (s : State) : exec (.fpackfix rd rs2) s = execFpackfix rd rs2 s := rfl
@[simp] theorem exec_fpmerge (rd : BitVec 5) (rs1 : BitVec 5) (rs2 : BitVec 5) (s : State) : exec (.fpmerge rd rs1 rs2) s = execFpmerge rd rs1 rs2 s := rfl
@[simp] theorem exec_pdist (rd : BitVec 5) (rs1 : BitVec 5) (rs2 : BitVec 5) (s : State) : exec (.pdist rd rs1 rs2) s = execPdist rd rs1 rs2 s := rfl

end Sys2Proof.Machine
end

