-- ==== Sys2Proof/Laws/Flags.lean ====
section
/-! SUPPORT. The condition codes as arithmetic: what each flag computation says of the exact sum, difference or result. -/

namespace Sys2Proof.Machine

/-- Signed and unsigned value: what the sign bit says. -/
theorem toInt_eq_msb {w : Nat} (a : BitVec w) : a.toInt = a.toNat - (if a.msb = true then (2 : Int) ^ w else 0) := by
  rw [BitVec.toInt_eq_msb_cond]
  cases a.msb <;> simp

theorem msb_iff {w : Nat} (a : BitVec (w + 1)) : a.msb = true ↔ 2 ^ w ≤ a.toNat := by
  rw [BitVec.msb_eq_decide]; simp

theorem signZero_of {w : Nat} (r : BitVec w) (v c : Bool) : SignZero { n := r.msb, z := r == 0, v := v, c := c } r := by
  refine ⟨?_, by simp⟩
  rw [BitVec.msb_eq_toInt]; simp

theorem carry_toNat (w : Nat) (cin : Bool) : (BitVec.ofNat (w + 1) cin.toNat).toNat = cin.toNat := by
  rw [BitVec.toNat_ofNat, Nat.mod_eq_of_lt]
  cases cin
  · simp
  · exact Nat.one_lt_two_pow (by omega)

theorem sumFlags_addCC {w : Nat} (a b : BitVec (w + 1)) (cin : Bool) : SumFlags (addCC a b cin) a b cin := by
  have hr : BitVec.ofNat (w + 1) (a.toNat + b.toNat + cin.toNat) = a + b + BitVec.ofNat (w + 1) cin.toNat := by
    rw [BitVec.ofNat_add, BitVec.ofNat_add, BitVec.ofNat_toNat, BitVec.ofNat_toNat]; simp
  unfold SumFlags addCC
  refine ⟨by rw [hr]; exact signZero_of _ _ _, ?_, by simp⟩
  have ha := a.isLt
  have hb := b.isLt
  have hw : 2 ^ (w + 1) = 2 * 2 ^ w := by rw [pow_succ]; omega
  have hp : (0 : Int) < 2 ^ w := by positivity
  have hc : cin.toNat ≤ 1 := Bool.toNat_le cin
  have hn : (a + b + BitVec.ofNat (w + 1) cin.toNat).toNat = (a.toNat + b.toNat + cin.toNat) % 2 ^ (w + 1) := by
    rw [← hr, BitVec.toNat_ofNat]
  have hm := Nat.mod_add_div (a.toNat + b.toNat + cin.toNat) (2 ^ (w + 1))
  have hq : (a.toNat + b.toNat + cin.toNat) / 2 ^ (w + 1) ≤ 1 := by
    rw [← Nat.lt_succ_iff, Nat.div_lt_iff_lt_mul (by positivity)]; omega
  have hx := Nat.mod_lt (a.toNat + b.toNat + cin.toNat) (show 2 ^ (w + 1) > 0 by positivity)
  simp only [Nat.add_sub_cancel, toInt_eq_msb]
  have h1 := msb_iff a
  have h2 := msb_iff b
  have h3 := msb_iff (a + b + BitVec.ofNat (w + 1) cin.toNat)
  rw [hn] at h3
  generalize (a + b + BitVec.ofNat (w + 1) cin.toNat).msb = mr at *
  generalize a.msb = ma at *
  generalize b.msb = mb at *
  generalize (a.toNat + b.toNat + cin.toNat) % 2 ^ (w + 1) = x at *
  generalize (a.toNat + b.toNat + cin.toNat) / 2 ^ (w + 1) = q at *
  have hwi : ((2 : Int) ^ (w + 1)) = 2 * 2 ^ w := by rw [pow_succ]; omega
  rw [hwi]
  have hcast : ((2 ^ w : Nat) : Int) = 2 ^ w := by push_cast; rfl
  rw [hw] at hm ha hb hx
  rcases Nat.le_one_iff_eq_zero_or_eq_one.mp hq with rfl | rfl <;>
  cases ma <;> cases mb <;> cases mr <;> simp at h1 h2 h3 ⊢ <;> omega

theorem differenceFlags_subCC {w : Nat} (a b : BitVec (w + 1)) (cin : Bool) : DifferenceFlags (subCC a b cin) a b cin := by
  have hr : BitVec.ofInt (w + 1) ((a.toNat : Int) - b.toNat - cin.toNat) = a - b - BitVec.ofNat (w + 1) cin.toNat := by
    rw [show (a.toNat : Int) - b.toNat - cin.toNat = a.toNat + -(b.toNat : Int) + -(cin.toNat : Int) by omega]
    rw [BitVec.ofInt_add, BitVec.ofInt_add, BitVec.ofInt_neg, BitVec.ofInt_neg, BitVec.ofInt_natCast, BitVec.ofInt_natCast,
      BitVec.ofInt_natCast, BitVec.ofNat_toNat, BitVec.ofNat_toNat, BitVec.sub_eq_add_neg, BitVec.sub_eq_add_neg]
    simp
  unfold DifferenceFlags subCC
  refine ⟨by rw [hr]; exact signZero_of _ _ _, ?_, by simp⟩
  have ha := a.isLt
  have hb := b.isLt
  have hw : 2 ^ (w + 1) = 2 * 2 ^ w := by rw [pow_succ]; omega
  have hp : 0 < 2 ^ w := by positivity
  have hc : cin.toNat ≤ 1 := Bool.toNat_le cin
  have hn : ((a - b - BitVec.ofNat (w + 1) cin.toNat).toNat : Int)
      = ((a.toNat : Int) - b.toNat - cin.toNat) % (2 ^ (w + 1) : Nat) := by
    rw [← hr, BitVec.toNat_ofInt, Int.toNat_of_nonneg (Int.emod_nonneg _ (by positivity))]
  have hm := Int.emod_add_mul_ediv ((a.toNat : Int) - b.toNat - cin.toNat) (2 ^ (w + 1) : Nat)
  have hx := (a - b - BitVec.ofNat (w + 1) cin.toNat).isLt
  rw [← hn] at hm
  simp only [Nat.add_sub_cancel, toInt_eq_msb]
  have h1 := msb_iff a
  have h2 := msb_iff b
  have h3 := msb_iff (a - b - BitVec.ofNat (w + 1) cin.toNat)
  generalize (a - b - BitVec.ofNat (w + 1) cin.toNat).msb = mr at *
  generalize a.msb = ma at *
  generalize b.msb = mb at *
  generalize (a - b - BitVec.ofNat (w + 1) cin.toNat).toNat = x at *
  generalize ((a.toNat : Int) - b.toNat - cin.toNat) / (2 ^ (w + 1) : Nat) = q at *
  have hwi : ((2 : Int) ^ (w + 1)) = 2 * 2 ^ w := by rw [pow_succ]; omega
  rw [hwi]
  have hcast : ((2 ^ w : Nat) : Int) = 2 ^ w := by push_cast; rfl
  rw [hw] at hm ha hb hx
  have hq : q = 0 ∨ q = -1 := by
    have h4 : ((2 * 2 ^ w : Nat) : Int) * q < (2 * 2 ^ w : Nat) * 1 := by omega
    have h5 : ((2 * 2 ^ w : Nat) : Int) * (-2) < (2 * 2 ^ w : Nat) * q := by omega
    have h6 := lt_of_mul_lt_mul_left h4 (by positivity)
    have h7 := lt_of_mul_lt_mul_left h5 (by positivity)
    omega
  rcases hq with rfl | rfl <;>
  cases ma <;> cases mb <;> cases mr <;> simp at h1 h2 h3 ⊢ <;> omega

theorem sumCcr_addCcr (a b : DWord) (cin : Bool) : SumCcr (addCcr a b cin) a b cin :=
  ⟨sumFlags_addCC (w := 63) a b cin, sumFlags_addCC (w := 31) (lo32 a) (lo32 b) cin⟩

theorem differenceCcr_subCcr (a b : DWord) (cin : Bool) : DifferenceCcr (subCcr a b cin) a b cin :=
  ⟨differenceFlags_subCC (w := 63) a b cin, differenceFlags_subCC (w := 31) (lo32 a) (lo32 b) cin⟩

theorem logicalCcr_logicCcr (r : DWord) : LogicalCcr (logicCcr r) r :=
  ⟨signZero_of _ _ _, signZero_of _ _ _, rfl, rfl, rfl, rfl⟩

end Sys2Proof.Machine
end

