-- ==== Sys2Proof/Laws/PerInstr.lean ====
section
/-! SUPPORT. Decoding the encoding of a well-formed instruction gives the instruction back: one lemma per constructor. -/

namespace Sys2Proof.Laws.RoundTrip

/-- The ASI sets that share the opcodes of LDDFA and STDFA are disjoint (rules R843, R844, R854). -/
theorem short_not_block (asi : BitVec 8) (h : asiIsShort asi = true) : asiIsBlock asi = false := by
  simp only [asiIsShort, Bool.or_eq_true, decide_eq_true_eq] at h
  rcases h with ((((((rfl | rfl) | rfl) | rfl) | rfl) | rfl) | rfl) | rfl <;> decide

theorem partial_not_block (asi : BitVec 8) (h : asiIsPartial asi = true) : asiIsBlock asi = false := by
  simp only [asiIsPartial, Bool.or_eq_true, decide_eq_true_eq] at h
  rcases h with ((((((((((rfl | rfl) | rfl) | rfl) | rfl) | rfl) | rfl) | rfl) | rfl) | rfl) | rfl) | rfl <;> decide

theorem partial_not_short (asi : BitVec 8) (h : asiIsPartial asi = true) : asiIsShort asi = false := by
  simp only [asiIsPartial, Bool.or_eq_true, decide_eq_true_eq] at h
  rcases h with ((((((((((rfl | rfl) | rfl) | rfl) | rfl) | rfl) | rfl) | rfl) | rfl) | rfl) | rfl) | rfl <;> decide

/-- Decoding the word of `i` gives `i`. -/
def Statement (i : Instr) : Prop := wellFormed i = true → decode (encode i) = .ok i

theorem add (rd rs1 op2) : Statement (.add rd rs1 op2) := fun _ => (decode_arith _ _ _ _).trans (withSrc2_enc _ _ (.add rd rs1))

theorem addcc (rd rs1 op2) : Statement (.addcc rd rs1 op2) := fun _ => (decode_arith _ _ _ _).trans (withSrc2_enc _ _ (.addcc rd rs1))

theorem and (rd rs1 op2) : Statement (.and rd rs1 op2) := fun _ => (decode_arith _ _ _ _).trans (withSrc2_enc _ _ (.and rd rs1))

theorem andcc (rd rs1 op2) : Statement (.andcc rd rs1 op2) := fun _ => (decode_arith _ _ _ _).trans (withSrc2_enc _ _ (.andcc rd rs1))

theorem or (rd rs1 op2) : Statement (.or rd rs1 op2) := fun _ => (decode_arith _ _ _ _).trans (withSrc2_enc _ _ (.or rd rs1))

theorem orcc (rd rs1 op2) : Statement (.orcc rd rs1 op2) := fun _ => (decode_arith _ _ _ _).trans (withSrc2_enc _ _ (.orcc rd rs1))

theorem xor (rd rs1 op2) : Statement (.xor rd rs1 op2) := fun _ => (decode_arith _ _ _ _).trans (withSrc2_enc _ _ (.xor rd rs1))

theorem xorcc (rd rs1 op2) : Statement (.xorcc rd rs1 op2) := fun _ => (decode_arith _ _ _ _).trans (withSrc2_enc _ _ (.xorcc rd rs1))

theorem sub (rd rs1 op2) : Statement (.sub rd rs1 op2) := fun _ => (decode_arith _ _ _ _).trans (withSrc2_enc _ _ (.sub rd rs1))

theorem subcc (rd rs1 op2) : Statement (.subcc rd rs1 op2) := fun _ => (decode_arith _ _ _ _).trans (withSrc2_enc _ _ (.subcc rd rs1))

theorem andn (rd rs1 op2) : Statement (.andn rd rs1 op2) := fun _ => (decode_arith _ _ _ _).trans (withSrc2_enc _ _ (.andn rd rs1))

theorem andncc (rd rs1 op2) : Statement (.andncc rd rs1 op2) := fun _ => (decode_arith _ _ _ _).trans (withSrc2_enc _ _ (.andncc rd rs1))

theorem orn (rd rs1 op2) : Statement (.orn rd rs1 op2) := fun _ => (decode_arith _ _ _ _).trans (withSrc2_enc _ _ (.orn rd rs1))

theorem orncc (rd rs1 op2) : Statement (.orncc rd rs1 op2) := fun _ => (decode_arith _ _ _ _).trans (withSrc2_enc _ _ (.orncc rd rs1))

theorem xnor (rd rs1 op2) : Statement (.xnor rd rs1 op2) := fun _ => (decode_arith _ _ _ _).trans (withSrc2_enc _ _ (.xnor rd rs1))

theorem xnorcc (rd rs1 op2) : Statement (.xnorcc rd rs1 op2) := fun _ => (decode_arith _ _ _ _).trans (withSrc2_enc _ _ (.xnorcc rd rs1))

theorem addc (rd rs1 op2) : Statement (.addc rd rs1 op2) := fun _ => (decode_arith _ _ _ _).trans (withSrc2_enc _ _ (.addc rd rs1))

theorem addccc (rd rs1 op2) : Statement (.addccc rd rs1 op2) := fun _ => (decode_arith _ _ _ _).trans (withSrc2_enc _ _ (.addccc rd rs1))

theorem subc (rd rs1 op2) : Statement (.subc rd rs1 op2) := fun _ => (decode_arith _ _ _ _).trans (withSrc2_enc _ _ (.subc rd rs1))

theorem subccc (rd rs1 op2) : Statement (.subccc rd rs1 op2) := fun _ => (decode_arith _ _ _ _).trans (withSrc2_enc _ _ (.subccc rd rs1))

theorem mulx (rd rs1 op2) : Statement (.mulx rd rs1 op2) := fun _ => (decode_arith _ _ _ _).trans (withSrc2_enc _ _ (.mulx rd rs1))

theorem sdivx (rd rs1 op2) : Statement (.sdivx rd rs1 op2) := fun _ => (decode_arith _ _ _ _).trans (withSrc2_enc _ _ (.sdivx rd rs1))

theorem udivx (rd rs1 op2) : Statement (.udivx rd rs1 op2) := fun _ => (decode_arith _ _ _ _).trans (withSrc2_enc _ _ (.udivx rd rs1))

theorem umul (rd rs1 op2) : Statement (.umul rd rs1 op2) := fun _ => (decode_arith _ _ _ _).trans (withSrc2_enc _ _ (.umul rd rs1))

theorem smul (rd rs1 op2) : Statement (.smul rd rs1 op2) := fun _ => (decode_arith _ _ _ _).trans (withSrc2_enc _ _ (.smul rd rs1))

theorem umulcc (rd rs1 op2) : Statement (.umulcc rd rs1 op2) := fun _ => (decode_arith _ _ _ _).trans (withSrc2_enc _ _ (.umulcc rd rs1))

theorem smulcc (rd rs1 op2) : Statement (.smulcc rd rs1 op2) := fun _ => (decode_arith _ _ _ _).trans (withSrc2_enc _ _ (.smulcc rd rs1))

theorem udiv (rd rs1 op2) : Statement (.udiv rd rs1 op2) := fun _ => (decode_arith _ _ _ _).trans (withSrc2_enc _ _ (.udiv rd rs1))

theorem sdiv (rd rs1 op2) : Statement (.sdiv rd rs1 op2) := fun _ => (decode_arith _ _ _ _).trans (withSrc2_enc _ _ (.sdiv rd rs1))

theorem udivcc (rd rs1 op2) : Statement (.udivcc rd rs1 op2) := fun _ => (decode_arith _ _ _ _).trans (withSrc2_enc _ _ (.udivcc rd rs1))

theorem sdivcc (rd rs1 op2) : Statement (.sdivcc rd rs1 op2) := fun _ => (decode_arith _ _ _ _).trans (withSrc2_enc _ _ (.sdivcc rd rs1))

theorem mulscc (rd rs1 op2) : Statement (.mulscc rd rs1 op2) := fun _ => (decode_arith _ _ _ _).trans (withSrc2_enc _ _ (.mulscc rd rs1))

theorem taddcc (rd rs1 op2) : Statement (.taddcc rd rs1 op2) := fun _ => (decode_arith _ _ _ _).trans (withSrc2_enc _ _ (.taddcc rd rs1))

theorem taddcctv (rd rs1 op2) : Statement (.taddcctv rd rs1 op2) := fun _ => (decode_arith _ _ _ _).trans (withSrc2_enc _ _ (.taddcctv rd rs1))

theorem tsubcc (rd rs1 op2) : Statement (.tsubcc rd rs1 op2) := fun _ => (decode_arith _ _ _ _).trans (withSrc2_enc _ _ (.tsubcc rd rs1))

theorem tsubcctv (rd rs1 op2) : Statement (.tsubcctv rd rs1 op2) := fun _ => (decode_arith _ _ _ _).trans (withSrc2_enc _ _ (.tsubcctv rd rs1))

theorem sll (rd rs1 count) : Statement (.sll rd rs1 count) := fun _ => by
  refine (decode_arith _ _ _ _).trans ?_
  show (if (encCount32 count).extractLsb' 12 1 = 0#1 then _ else _) = _
  rw [if_pos (encCount32_x count), decCount32_enc]
  rfl

theorem sllx (rd rs1 count) : Statement (.sllx rd rs1 count) := fun _ => by
  refine (decode_arith _ _ _ _).trans ?_
  show (if (encCount64 count).extractLsb' 12 1 = 0#1 then _ else _) = _
  rw [if_neg (by rw [encCount64_x]; decide), decCount64_enc]
  rfl

theorem srl (rd rs1 count) : Statement (.srl rd rs1 count) := fun _ => by
  refine (decode_arith _ _ _ _).trans ?_
  show (if (encCount32 count).extractLsb' 12 1 = 0#1 then _ else _) = _
  rw [if_pos (encCount32_x count), decCount32_enc]
  rfl

theorem srlx (rd rs1 count) : Statement (.srlx rd rs1 count) := fun _ => by
  refine (decode_arith _ _ _ _).trans ?_
  show (if (encCount64 count).extractLsb' 12 1 = 0#1 then _ else _) = _
  rw [if_neg (by rw [encCount64_x]; decide), decCount64_enc]
  rfl

theorem sra (rd rs1 count) : Statement (.sra rd rs1 count) := fun _ => by
  refine (decode_arith _ _ _ _).trans ?_
  show (if (encCount32 count).extractLsb' 12 1 = 0#1 then _ else _) = _
  rw [if_pos (encCount32_x count), decCount32_enc]
  rfl

theorem srax (rd rs1 count) : Statement (.srax rd rs1 count) := fun _ => by
  refine (decode_arith _ _ _ _).trans ?_
  show (if (encCount64 count).extractLsb' 12 1 = 0#1 then _ else _) = _
  rw [if_neg (by rw [encCount64_x]; decide), decCount64_enc]
  rfl

theorem sethi (rd imm22) : Statement (.sethi rd imm22) := fun h => by
  refine (decode_enc2 _ _ _).trans ?_
  show (if rd = 0#5 ∧ imm22 = 0#22 then _ else _) = _
  rw [if_neg]
  rintro ⟨rfl, rfl⟩
  exact absurd h (by decide)

theorem nop : Statement (.nop) := fun _ => (decode_enc2 _ _ _).trans rfl

theorem popc (rd op2) : Statement (.popc rd op2) := fun _ => (decode_arith _ _ _ _).trans (withSrc2_enc _ _ (.popc rd))

theorem mova (rd cc op2) : Statement (.mova rd cc op2) := fun _ => by
  refine (decode_movcc _ _ _ _).trans ?_
  simp only [decodeMovcc, decMovccSrc_enc, encMovcc_cc, decIcc_enc]
  rfl

theorem movn (rd cc op2) : Statement (.movn rd cc op2) := fun _ => by
  refine (decode_movcc _ _ _ _).trans ?_
  simp only [decodeMovcc, decMovccSrc_enc, encMovcc_cc, decIcc_enc]
  rfl

theorem movne (rd cc op2) : Statement (.movne rd cc op2) := fun _ => by
  refine (decode_movcc _ _ _ _).trans ?_
  simp only [decodeMovcc, decMovccSrc_enc, encMovcc_cc, decIcc_enc]
  rfl

theorem move (rd cc op2) : Statement (.move rd cc op2) := fun _ => by
  refine (decode_movcc _ _ _ _).trans ?_
  simp only [decodeMovcc, decMovccSrc_enc, encMovcc_cc, decIcc_enc]
  rfl

theorem movg (rd cc op2) : Statement (.movg rd cc op2) := fun _ => by
  refine (decode_movcc _ _ _ _).trans ?_
  simp only [decodeMovcc, decMovccSrc_enc, encMovcc_cc, decIcc_enc]
  rfl

theorem movle (rd cc op2) : Statement (.movle rd cc op2) := fun _ => by
  refine (decode_movcc _ _ _ _).trans ?_
  simp only [decodeMovcc, decMovccSrc_enc, encMovcc_cc, decIcc_enc]
  rfl

theorem movge (rd cc op2) : Statement (.movge rd cc op2) := fun _ => by
  refine (decode_movcc _ _ _ _).trans ?_
  simp only [decodeMovcc, decMovccSrc_enc, encMovcc_cc, decIcc_enc]
  rfl

theorem movl (rd cc op2) : Statement (.movl rd cc op2) := fun _ => by
  refine (decode_movcc _ _ _ _).trans ?_
  simp only [decodeMovcc, decMovccSrc_enc, encMovcc_cc, decIcc_enc]
  rfl

theorem movgu (rd cc op2) : Statement (.movgu rd cc op2) := fun _ => by
  refine (decode_movcc _ _ _ _).trans ?_
  simp only [decodeMovcc, decMovccSrc_enc, encMovcc_cc, decIcc_enc]
  rfl

theorem movleu (rd cc op2) : Statement (.movleu rd cc op2) := fun _ => by
  refine (decode_movcc _ _ _ _).trans ?_
  simp only [decodeMovcc, decMovccSrc_enc, encMovcc_cc, decIcc_enc]
  rfl

theorem movcc (rd cc op2) : Statement (.movcc rd cc op2) := fun _ => by
  refine (decode_movcc _ _ _ _).trans ?_
  simp only [decodeMovcc, decMovccSrc_enc, encMovcc_cc, decIcc_enc]
  rfl

theorem movcs (rd cc op2) : Statement (.movcs rd cc op2) := fun _ => by
  refine (decode_movcc _ _ _ _).trans ?_
  simp only [decodeMovcc, decMovccSrc_enc, encMovcc_cc, decIcc_enc]
  rfl

theorem movpos (rd cc op2) : Statement (.movpos rd cc op2) := fun _ => by
  refine (decode_movcc _ _ _ _).trans ?_
  simp only [decodeMovcc, decMovccSrc_enc, encMovcc_cc, decIcc_enc]
  rfl

theorem movneg (rd cc op2) : Statement (.movneg rd cc op2) := fun _ => by
  refine (decode_movcc _ _ _ _).trans ?_
  simp only [decodeMovcc, decMovccSrc_enc, encMovcc_cc, decIcc_enc]
  rfl

theorem movvc (rd cc op2) : Statement (.movvc rd cc op2) := fun _ => by
  refine (decode_movcc _ _ _ _).trans ?_
  simp only [decodeMovcc, decMovccSrc_enc, encMovcc_cc, decIcc_enc]
  rfl

theorem movvs (rd cc op2) : Statement (.movvs rd cc op2) := fun _ => by
  refine (decode_movcc _ _ _ _).trans ?_
  simp only [decodeMovcc, decMovccSrc_enc, encMovcc_cc, decIcc_enc]
  rfl

theorem movfa (rd cc op2) : Statement (.movfa rd cc op2) := fun _ => by
  refine (decode_movcc _ _ _ _).trans ?_
  simp only [decodeMovcc, decMovccSrc_enc, encMovcc_cc]
  rfl

theorem movfn (rd cc op2) : Statement (.movfn rd cc op2) := fun _ => by
  refine (decode_movcc _ _ _ _).trans ?_
  simp only [decodeMovcc, decMovccSrc_enc, encMovcc_cc]
  rfl

theorem movfu (rd cc op2) : Statement (.movfu rd cc op2) := fun _ => by
  refine (decode_movcc _ _ _ _).trans ?_
  simp only [decodeMovcc, decMovccSrc_enc, encMovcc_cc]
  rfl

theorem movfg (rd cc op2) : Statement (.movfg rd cc op2) := fun _ => by
  refine (decode_movcc _ _ _ _).trans ?_
  simp only [decodeMovcc, decMovccSrc_enc, encMovcc_cc]
  rfl

theorem movfug (rd cc op2) : Statement (.movfug rd cc op2) := fun _ => by
  refine (decode_movcc _ _ _ _).trans ?_
  simp only [decodeMovcc, decMovccSrc_enc, encMovcc_cc]
  rfl

theorem movfl (rd cc op2) : Statement (.movfl rd cc op2) := fun _ => by
  refine (decode_movcc _ _ _ _).trans ?_
  simp only [decodeMovcc, decMovccSrc_enc, encMovcc_cc]
  rfl

theorem movful (rd cc op2) : Statement (.movful rd cc op2) := fun _ => by
  refine (decode_movcc _ _ _ _).trans ?_
  simp only [decodeMovcc, decMovccSrc_enc, encMovcc_cc]
  rfl

theorem movflg (rd cc op2) : Statement (.movflg rd cc op2) := fun _ => by
  refine (decode_movcc _ _ _ _).trans ?_
  simp only [decodeMovcc, decMovccSrc_enc, encMovcc_cc]
  rfl

theorem movfne (rd cc op2) : Statement (.movfne rd cc op2) := fun _ => by
  refine (decode_movcc _ _ _ _).trans ?_
  simp only [decodeMovcc, decMovccSrc_enc, encMovcc_cc]
  rfl

theorem movfe (rd cc op2) : Statement (.movfe rd cc op2) := fun _ => by
  refine (decode_movcc _ _ _ _).trans ?_
  simp only [decodeMovcc, decMovccSrc_enc, encMovcc_cc]
  rfl

theorem movfue (rd cc op2) : Statement (.movfue rd cc op2) := fun _ => by
  refine (decode_movcc _ _ _ _).trans ?_
  simp only [decodeMovcc, decMovccSrc_enc, encMovcc_cc]
  rfl

theorem movfge (rd cc op2) : Statement (.movfge rd cc op2) := fun _ => by
  refine (decode_movcc _ _ _ _).trans ?_
  simp only [decodeMovcc, decMovccSrc_enc, encMovcc_cc]
  rfl

theorem movfuge (rd cc op2) : Statement (.movfuge rd cc op2) := fun _ => by
  refine (decode_movcc _ _ _ _).trans ?_
  simp only [decodeMovcc, decMovccSrc_enc, encMovcc_cc]
  rfl

theorem movfle (rd cc op2) : Statement (.movfle rd cc op2) := fun _ => by
  refine (decode_movcc _ _ _ _).trans ?_
  simp only [decodeMovcc, decMovccSrc_enc, encMovcc_cc]
  rfl

theorem movfule (rd cc op2) : Statement (.movfule rd cc op2) := fun _ => by
  refine (decode_movcc _ _ _ _).trans ?_
  simp only [decodeMovcc, decMovccSrc_enc, encMovcc_cc]
  rfl

theorem movfo (rd cc op2) : Statement (.movfo rd cc op2) := fun _ => by
  refine (decode_movcc _ _ _ _).trans ?_
  simp only [decodeMovcc, decMovccSrc_enc, encMovcc_cc]
  rfl

theorem movrz (rd rs1 op2) : Statement (.movrz rd rs1 op2) := fun _ => by
  refine (decode_arith _ _ _ _).trans ?_
  show decodeMovr rd rs1 _ = _
  simp only [decodeMovr, decMovrSrc_enc, encMovr_rcond]
  rfl

theorem movrlez (rd rs1 op2) : Statement (.movrlez rd rs1 op2) := fun _ => by
  refine (decode_arith _ _ _ _).trans ?_
  show decodeMovr rd rs1 _ = _
  simp only [decodeMovr, decMovrSrc_enc, encMovr_rcond]
  rfl

theorem movrlz (rd rs1 op2) : Statement (.movrlz rd rs1 op2) := fun _ => by
  refine (decode_arith _ _ _ _).trans ?_
  show decodeMovr rd rs1 _ = _
  simp only [decodeMovr, decMovrSrc_enc, encMovr_rcond]
  rfl

theorem movrnz (rd rs1 op2) : Statement (.movrnz rd rs1 op2) := fun _ => by
  refine (decode_arith _ _ _ _).trans ?_
  show decodeMovr rd rs1 _ = _
  simp only [decodeMovr, decMovrSrc_enc, encMovr_rcond]
  rfl

theorem movrgz (rd rs1 op2) : Statement (.movrgz rd rs1 op2) := fun _ => by
  refine (decode_arith _ _ _ _).trans ?_
  show decodeMovr rd rs1 _ = _
  simp only [decodeMovr, decMovrSrc_enc, encMovr_rcond]
  rfl

theorem movrgez (rd rs1 op2) : Statement (.movrgez rd rs1 op2) := fun _ => by
  refine (decode_arith _ _ _ _).trans ?_
  show decodeMovr rd rs1 _ = _
  simp only [decodeMovr, decMovrSrc_enc, encMovr_rcond]
  rfl

theorem ba (a disp22) : Statement (.ba a disp22) := fun _ => (decode_bicc _ _ _).trans rfl

theorem bn (a disp22) : Statement (.bn a disp22) := fun _ => (decode_bicc _ _ _).trans rfl

theorem bne (a disp22) : Statement (.bne a disp22) := fun _ => (decode_bicc _ _ _).trans rfl

theorem be (a disp22) : Statement (.be a disp22) := fun _ => (decode_bicc _ _ _).trans rfl

theorem bg (a disp22) : Statement (.bg a disp22) := fun _ => (decode_bicc _ _ _).trans rfl

theorem ble (a disp22) : Statement (.ble a disp22) := fun _ => (decode_bicc _ _ _).trans rfl

theorem bge (a disp22) : Statement (.bge a disp22) := fun _ => (decode_bicc _ _ _).trans rfl

theorem bl (a disp22) : Statement (.bl a disp22) := fun _ => (decode_bicc _ _ _).trans rfl

theorem bgu (a disp22) : Statement (.bgu a disp22) := fun _ => (decode_bicc _ _ _).trans rfl

theorem bleu (a disp22) : Statement (.bleu a disp22) := fun _ => (decode_bicc _ _ _).trans rfl

theorem bcc (a disp22) : Statement (.bcc a disp22) := fun _ => (decode_bicc _ _ _).trans rfl

theorem bcs (a disp22) : Statement (.bcs a disp22) := fun _ => (decode_bicc _ _ _).trans rfl

theorem bpos (a disp22) : Statement (.bpos a disp22) := fun _ => (decode_bicc _ _ _).trans rfl

theorem bneg (a disp22) : Statement (.bneg a disp22) := fun _ => (decode_bicc _ _ _).trans rfl

theorem bvc (a disp22) : Statement (.bvc a disp22) := fun _ => (decode_bicc _ _ _).trans rfl

theorem bvs (a disp22) : Statement (.bvs a disp22) := fun _ => (decode_bicc _ _ _).trans rfl

theorem bpa (a cc p disp19) : Statement (.bpa a cc p disp19) := fun _ => by
  refine (decode_bpcc _ _ _ _ _).trans ?_
  simp only [decodeBpcc, decIcc_enc]
  rfl

theorem bpn (a cc p disp19) : Statement (.bpn a cc p disp19) := fun _ => by
  refine (decode_bpcc _ _ _ _ _).trans ?_
  simp only [decodeBpcc, decIcc_enc]
  rfl

theorem bpne (a cc p disp19) : Statement (.bpne a cc p disp19) := fun _ => by
  refine (decode_bpcc _ _ _ _ _).trans ?_
  simp only [decodeBpcc, decIcc_enc]
  rfl

theorem bpe (a cc p disp19) : Statement (.bpe a cc p disp19) := fun _ => by
  refine (decode_bpcc _ _ _ _ _).trans ?_
  simp only [decodeBpcc, decIcc_enc]
  rfl

theorem bpg (a cc p disp19) : Statement (.bpg a cc p disp19) := fun _ => by
  refine (decode_bpcc _ _ _ _ _).trans ?_
  simp only [decodeBpcc, decIcc_enc]
  rfl

theorem bple (a cc p disp19) : Statement (.bple a cc p disp19) := fun _ => by
  refine (decode_bpcc _ _ _ _ _).trans ?_
  simp only [decodeBpcc, decIcc_enc]
  rfl

theorem bpge (a cc p disp19) : Statement (.bpge a cc p disp19) := fun _ => by
  refine (decode_bpcc _ _ _ _ _).trans ?_
  simp only [decodeBpcc, decIcc_enc]
  rfl

theorem bpl (a cc p disp19) : Statement (.bpl a cc p disp19) := fun _ => by
  refine (decode_bpcc _ _ _ _ _).trans ?_
  simp only [decodeBpcc, decIcc_enc]
  rfl

theorem bpgu (a cc p disp19) : Statement (.bpgu a cc p disp19) := fun _ => by
  refine (decode_bpcc _ _ _ _ _).trans ?_
  simp only [decodeBpcc, decIcc_enc]
  rfl

theorem bpleu (a cc p disp19) : Statement (.bpleu a cc p disp19) := fun _ => by
  refine (decode_bpcc _ _ _ _ _).trans ?_
  simp only [decodeBpcc, decIcc_enc]
  rfl

theorem bpcc (a cc p disp19) : Statement (.bpcc a cc p disp19) := fun _ => by
  refine (decode_bpcc _ _ _ _ _).trans ?_
  simp only [decodeBpcc, decIcc_enc]
  rfl

theorem bpcs (a cc p disp19) : Statement (.bpcs a cc p disp19) := fun _ => by
  refine (decode_bpcc _ _ _ _ _).trans ?_
  simp only [decodeBpcc, decIcc_enc]
  rfl

theorem bppos (a cc p disp19) : Statement (.bppos a cc p disp19) := fun _ => by
  refine (decode_bpcc _ _ _ _ _).trans ?_
  simp only [decodeBpcc, decIcc_enc]
  rfl

theorem bpneg (a cc p disp19) : Statement (.bpneg a cc p disp19) := fun _ => by
  refine (decode_bpcc _ _ _ _ _).trans ?_
  simp only [decodeBpcc, decIcc_enc]
  rfl

theorem bpvc (a cc p disp19) : Statement (.bpvc a cc p disp19) := fun _ => by
  refine (decode_bpcc _ _ _ _ _).trans ?_
  simp only [decodeBpcc, decIcc_enc]
  rfl

theorem bpvs (a cc p disp19) : Statement (.bpvs a cc p disp19) := fun _ => by
  refine (decode_bpcc _ _ _ _ _).trans ?_
  simp only [decodeBpcc, decIcc_enc]
  rfl

theorem brz (a p rs1 disp16) : Statement (.brz a p rs1 disp16) := fun _ => (decode_bpr _ _ _ _ _).trans rfl

theorem brlez (a p rs1 disp16) : Statement (.brlez a p rs1 disp16) := fun _ => (decode_bpr _ _ _ _ _).trans rfl

theorem brlz (a p rs1 disp16) : Statement (.brlz a p rs1 disp16) := fun _ => (decode_bpr _ _ _ _ _).trans rfl

theorem brnz (a p rs1 disp16) : Statement (.brnz a p rs1 disp16) := fun _ => (decode_bpr _ _ _ _ _).trans rfl

theorem brgz (a p rs1 disp16) : Statement (.brgz a p rs1 disp16) := fun _ => (decode_bpr _ _ _ _ _).trans rfl

theorem brgez (a p rs1 disp16) : Statement (.brgez a p rs1 disp16) := fun _ => (decode_bpr _ _ _ _ _).trans rfl

theorem call (disp30) : Statement (.call disp30) := fun _ => decode_call _

theorem fba (a disp22) : Statement (.fba a disp22) := fun _ => (decode_fbfcc _ _ _).trans rfl

theorem fbn (a disp22) : Statement (.fbn a disp22) := fun _ => (decode_fbfcc _ _ _).trans rfl

theorem fbu (a disp22) : Statement (.fbu a disp22) := fun _ => (decode_fbfcc _ _ _).trans rfl

theorem fbg (a disp22) : Statement (.fbg a disp22) := fun _ => (decode_fbfcc _ _ _).trans rfl

theorem fbug (a disp22) : Statement (.fbug a disp22) := fun _ => (decode_fbfcc _ _ _).trans rfl

theorem fbl (a disp22) : Statement (.fbl a disp22) := fun _ => (decode_fbfcc _ _ _).trans rfl

theorem fbul (a disp22) : Statement (.fbul a disp22) := fun _ => (decode_fbfcc _ _ _).trans rfl

theorem fblg (a disp22) : Statement (.fblg a disp22) := fun _ => (decode_fbfcc _ _ _).trans rfl

theorem fbne (a disp22) : Statement (.fbne a disp22) := fun _ => (decode_fbfcc _ _ _).trans rfl

theorem fbe (a disp22) : Statement (.fbe a disp22) := fun _ => (decode_fbfcc _ _ _).trans rfl

theorem fbue (a disp22) : Statement (.fbue a disp22) := fun _ => (decode_fbfcc _ _ _).trans rfl

theorem fbge (a disp22) : Statement (.fbge a disp22) := fun _ => (decode_fbfcc _ _ _).trans rfl

theorem fbuge (a disp22) : Statement (.fbuge a disp22) := fun _ => (decode_fbfcc _ _ _).trans rfl

theorem fble (a disp22) : Statement (.fble a disp22) := fun _ => (decode_fbfcc _ _ _).trans rfl

theorem fbule (a disp22) : Statement (.fbule a disp22) := fun _ => (decode_fbfcc _ _ _).trans rfl

theorem fbo (a disp22) : Statement (.fbo a disp22) := fun _ => (decode_fbfcc _ _ _).trans rfl

theorem fbpa (a cc p disp19) : Statement (.fbpa a cc p disp19) := fun _ => (decode_fbpfcc _ _ _ _ _).trans rfl

theorem fbpn (a cc p disp19) : Statement (.fbpn a cc p disp19) := fun _ => (decode_fbpfcc _ _ _ _ _).trans rfl

theorem fbpu (a cc p disp19) : Statement (.fbpu a cc p disp19) := fun _ => (decode_fbpfcc _ _ _ _ _).trans rfl

theorem fbpg (a cc p disp19) : Statement (.fbpg a cc p disp19) := fun _ => (decode_fbpfcc _ _ _ _ _).trans rfl

theorem fbpug (a cc p disp19) : Statement (.fbpug a cc p disp19) := fun _ => (decode_fbpfcc _ _ _ _ _).trans rfl

theorem fbpl (a cc p disp19) : Statement (.fbpl a cc p disp19) := fun _ => (decode_fbpfcc _ _ _ _ _).trans rfl

theorem fbpul (a cc p disp19) : Statement (.fbpul a cc p disp19) := fun _ => (decode_fbpfcc _ _ _ _ _).trans rfl

theorem fbplg (a cc p disp19) : Statement (.fbplg a cc p disp19) := fun _ => (decode_fbpfcc _ _ _ _ _).trans rfl

theorem fbpne (a cc p disp19) : Statement (.fbpne a cc p disp19) := fun _ => (decode_fbpfcc _ _ _ _ _).trans rfl

theorem fbpe (a cc p disp19) : Statement (.fbpe a cc p disp19) := fun _ => (decode_fbpfcc _ _ _ _ _).trans rfl

theorem fbpue (a cc p disp19) : Statement (.fbpue a cc p disp19) := fun _ => (decode_fbpfcc _ _ _ _ _).trans rfl

theorem fbpge (a cc p disp19) : Statement (.fbpge a cc p disp19) := fun _ => (decode_fbpfcc _ _ _ _ _).trans rfl

theorem fbpuge (a cc p disp19) : Statement (.fbpuge a cc p disp19) := fun _ => (decode_fbpfcc _ _ _ _ _).trans rfl

theorem fbple (a cc p disp19) : Statement (.fbple a cc p disp19) := fun _ => (decode_fbpfcc _ _ _ _ _).trans rfl

theorem fbpule (a cc p disp19) : Statement (.fbpule a cc p disp19) := fun _ => (decode_fbpfcc _ _ _ _ _).trans rfl

theorem fbpo (a cc p disp19) : Statement (.fbpo a cc p disp19) := fun _ => (decode_fbpfcc _ _ _ _ _).trans rfl

theorem illtrap (const22) : Statement (.illtrap const22) := fun _ => (decode_enc2 _ _ _).trans rfl

theorem jmpl (rd rs1 op2) : Statement (.jmpl rd rs1 op2) := fun _ => (decode_arith _ _ _ _).trans (withSrc2_enc _ _ (.jmpl rd rs1))

theorem return_ (rs1 op2) : Statement (.return_ rs1 op2) := fun _ => (decode_arith _ _ _ _).trans (withSrc2_enc _ _ (.return_ rs1))

theorem ta (cc rs1 op2) : Statement (.ta cc rs1 op2) := fun _ => by
  refine (decode_tcc _ _ _).trans ?_
  simp only [decodeTcc, decTrapOperand_enc, encTcc_cc, decIcc_enc]
  rfl

theorem tn (cc rs1 op2) : Statement (.tn cc rs1 op2) := fun _ => by
  refine (decode_tcc _ _ _).trans ?_
  simp only [decodeTcc, decTrapOperand_enc, encTcc_cc, decIcc_enc]
  rfl

theorem tne (cc rs1 op2) : Statement (.tne cc rs1 op2) := fun _ => by
  refine (decode_tcc _ _ _).trans ?_
  simp only [decodeTcc, decTrapOperand_enc, encTcc_cc, decIcc_enc]
  rfl

theorem te (cc rs1 op2) : Statement (.te cc rs1 op2) := fun _ => by
  refine (decode_tcc _ _ _).trans ?_
  simp only [decodeTcc, decTrapOperand_enc, encTcc_cc, decIcc_enc]
  rfl

theorem tg (cc rs1 op2) : Statement (.tg cc rs1 op2) := fun _ => by
  refine (decode_tcc _ _ _).trans ?_
  simp only [decodeTcc, decTrapOperand_enc, encTcc_cc, decIcc_enc]
  rfl

theorem tle (cc rs1 op2) : Statement (.tle cc rs1 op2) := fun _ => by
  refine (decode_tcc _ _ _).trans ?_
  simp only [decodeTcc, decTrapOperand_enc, encTcc_cc, decIcc_enc]
  rfl

theorem tge (cc rs1 op2) : Statement (.tge cc rs1 op2) := fun _ => by
  refine (decode_tcc _ _ _).trans ?_
  simp only [decodeTcc, decTrapOperand_enc, encTcc_cc, decIcc_enc]
  rfl

theorem tl (cc rs1 op2) : Statement (.tl cc rs1 op2) := fun _ => by
  refine (decode_tcc _ _ _).trans ?_
  simp only [decodeTcc, decTrapOperand_enc, encTcc_cc, decIcc_enc]
  rfl

theorem tgu (cc rs1 op2) : Statement (.tgu cc rs1 op2) := fun _ => by
  refine (decode_tcc _ _ _).trans ?_
  simp only [decodeTcc, decTrapOperand_enc, encTcc_cc, decIcc_enc]
  rfl

theorem tleu (cc rs1 op2) : Statement (.tleu cc rs1 op2) := fun _ => by
  refine (decode_tcc _ _ _).trans ?_
  simp only [decodeTcc, decTrapOperand_enc, encTcc_cc, decIcc_enc]
  rfl

theorem tcc (cc rs1 op2) : Statement (.tcc cc rs1 op2) := fun _ => by
  refine (decode_tcc _ _ _).trans ?_
  simp only [decodeTcc, decTrapOperand_enc, encTcc_cc, decIcc_enc]
  rfl

theorem tcs (cc rs1 op2) : Statement (.tcs cc rs1 op2) := fun _ => by
  refine (decode_tcc _ _ _).trans ?_
  simp only [decodeTcc, decTrapOperand_enc, encTcc_cc, decIcc_enc]
  rfl

theorem tpos (cc rs1 op2) : Statement (.tpos cc rs1 op2) := fun _ => by
  refine (decode_tcc _ _ _).trans ?_
  simp only [decodeTcc, decTrapOperand_enc, encTcc_cc, decIcc_enc]
  rfl

theorem tneg (cc rs1 op2) : Statement (.tneg cc rs1 op2) := fun _ => by
  refine (decode_tcc _ _ _).trans ?_
  simp only [decodeTcc, decTrapOperand_enc, encTcc_cc, decIcc_enc]
  rfl

theorem tvc (cc rs1 op2) : Statement (.tvc cc rs1 op2) := fun _ => by
  refine (decode_tcc _ _ _).trans ?_
  simp only [decodeTcc, decTrapOperand_enc, encTcc_cc, decIcc_enc]
  rfl

theorem tvs (cc rs1 op2) : Statement (.tvs cc rs1 op2) := fun _ => by
  refine (decode_tcc _ _ _).trans ?_
  simp only [decodeTcc, decTrapOperand_enc, encTcc_cc, decIcc_enc]
  rfl

theorem done : Statement (.done) := fun _ => (decode_arith _ _ _ _).trans rfl

theorem retry : Statement (.retry) := fun _ => (decode_arith _ _ _ _).trans rfl

theorem ldsb (rd rs1 op2) : Statement (.ldsb rd rs1 op2) := fun _ => (decode_mem _ _ _ _).trans (withSrc2_enc _ _ (.ldsb rd rs1))

theorem ldsh (rd rs1 op2) : Statement (.ldsh rd rs1 op2) := fun _ => (decode_mem _ _ _ _).trans (withSrc2_enc _ _ (.ldsh rd rs1))

theorem ldsw (rd rs1 op2) : Statement (.ldsw rd rs1 op2) := fun _ => (decode_mem _ _ _ _).trans (withSrc2_enc _ _ (.ldsw rd rs1))

theorem ldub (rd rs1 op2) : Statement (.ldub rd rs1 op2) := fun _ => (decode_mem _ _ _ _).trans (withSrc2_enc _ _ (.ldub rd rs1))

theorem lduh (rd rs1 op2) : Statement (.lduh rd rs1 op2) := fun _ => (decode_mem _ _ _ _).trans (withSrc2_enc _ _ (.lduh rd rs1))

theorem lduw (rd rs1 op2) : Statement (.lduw rd rs1 op2) := fun _ => (decode_mem _ _ _ _).trans (withSrc2_enc _ _ (.lduw rd rs1))

theorem ldx (rd rs1 op2) : Statement (.ldx rd rs1 op2) := fun _ => (decode_mem _ _ _ _).trans (withSrc2_enc _ _ (.ldx rd rs1))

theorem ldsba (rd rs1 ea) : Statement (.ldsba rd rs1 ea) := fun _ => (decode_mem _ _ _ _).trans (congrArg (fun e => Except.ok (Instr.ldsba rd rs1 e)) (decAsi_enc ea))

theorem ldsha (rd rs1 ea) : Statement (.ldsha rd rs1 ea) := fun _ => (decode_mem _ _ _ _).trans (congrArg (fun e => Except.ok (Instr.ldsha rd rs1 e)) (decAsi_enc ea))

theorem ldswa (rd rs1 ea) : Statement (.ldswa rd rs1 ea) := fun _ => (decode_mem _ _ _ _).trans (congrArg (fun e => Except.ok (Instr.ldswa rd rs1 e)) (decAsi_enc ea))

theorem lduba (rd rs1 ea) : Statement (.lduba rd rs1 ea) := fun _ => (decode_mem _ _ _ _).trans (congrArg (fun e => Except.ok (Instr.lduba rd rs1 e)) (decAsi_enc ea))

theorem lduha (rd rs1 ea) : Statement (.lduha rd rs1 ea) := fun _ => (decode_mem _ _ _ _).trans (congrArg (fun e => Except.ok (Instr.lduha rd rs1 e)) (decAsi_enc ea))

theorem lduwa (rd rs1 ea) : Statement (.lduwa rd rs1 ea) := fun _ => (decode_mem _ _ _ _).trans (congrArg (fun e => Except.ok (Instr.lduwa rd rs1 e)) (decAsi_enc ea))

theorem ldxa (rd rs1 ea) : Statement (.ldxa rd rs1 ea) := fun _ => (decode_mem _ _ _ _).trans (congrArg (fun e => Except.ok (Instr.ldxa rd rs1 e)) (decAsi_enc ea))

theorem ldtw (rd rs1 op2) : Statement (.ldtw rd rs1 op2) := fun _ => (decode_mem _ _ _ _).trans (withSrc2_enc _ _ (.ldtw rd rs1))

theorem ldtwa (rd rs1 ea) : Statement (.ldtwa rd rs1 ea) := fun h => by
  refine (decode_mem _ _ _ _).trans ?_
  show (match decAsi (encAsi ea) with
    | .imm simm13 => Except.ok (Instr.ldtwa rd rs1 (.imm simm13))
    | .reg rs2 asi => if asiIsLdtx asi then .ok (.ldtxa rd rs1 rs2 asi) else .ok (.ldtwa rd rs1 (.reg rs2 asi))) = _
  rw [decAsi_enc]
  cases ea with
  | imm _ => rfl
  | reg rs2 asi => simp_all [wellFormed, selects]

theorem ldtxa (rd rs1 rs2 asi) : Statement (.ldtxa rd rs1 rs2 asi) := fun h => by
  replace h : asiIsLdtx asi = true := h
  refine (decode_mem _ _ _ _).trans ?_
  show (match decAsi (encAsi (.reg rs2 asi)) with
    | .imm simm13 => Except.ok (Instr.ldtwa rd rs1 (.imm simm13))
    | .reg rs2 asi => if asiIsLdtx asi then .ok (.ldtxa rd rs1 rs2 asi) else .ok (.ldtwa rd rs1 (.reg rs2 asi))) = _
  rw [decAsi_enc]
  show (if asiIsLdtx asi then .ok (.ldtxa rd rs1 rs2 asi) else Except.ok (Instr.ldtwa rd rs1 (.reg rs2 asi))) = _
  rw [if_pos h]

theorem stb (rd rs1 op2) : Statement (.stb rd rs1 op2) := fun _ => (decode_mem _ _ _ _).trans (withSrc2_enc _ _ (.stb rd rs1))

theorem sth (rd rs1 op2) : Statement (.sth rd rs1 op2) := fun _ => (decode_mem _ _ _ _).trans (withSrc2_enc _ _ (.sth rd rs1))

theorem stw (rd rs1 op2) : Statement (.stw rd rs1 op2) := fun _ => (decode_mem _ _ _ _).trans (withSrc2_enc _ _ (.stw rd rs1))

theorem stx (rd rs1 op2) : Statement (.stx rd rs1 op2) := fun _ => (decode_mem _ _ _ _).trans (withSrc2_enc _ _ (.stx rd rs1))

theorem stba (rd rs1 ea) : Statement (.stba rd rs1 ea) := fun _ => (decode_mem _ _ _ _).trans (congrArg (fun e => Except.ok (Instr.stba rd rs1 e)) (decAsi_enc ea))

theorem stha (rd rs1 ea) : Statement (.stha rd rs1 ea) := fun _ => (decode_mem _ _ _ _).trans (congrArg (fun e => Except.ok (Instr.stha rd rs1 e)) (decAsi_enc ea))

theorem stwa (rd rs1 ea) : Statement (.stwa rd rs1 ea) := fun _ => (decode_mem _ _ _ _).trans (congrArg (fun e => Except.ok (Instr.stwa rd rs1 e)) (decAsi_enc ea))

theorem stxa (rd rs1 ea) : Statement (.stxa rd rs1 ea) := fun _ => (decode_mem _ _ _ _).trans (congrArg (fun e => Except.ok (Instr.stxa rd rs1 e)) (decAsi_enc ea))

theorem sttw (rd rs1 op2) : Statement (.sttw rd rs1 op2) := fun _ => (decode_mem _ _ _ _).trans (withSrc2_enc _ _ (.sttw rd rs1))

theorem sttwa (rd rs1 ea) : Statement (.sttwa rd rs1 ea) := fun _ => (decode_mem _ _ _ _).trans (congrArg (fun e => Except.ok (Instr.sttwa rd rs1 e)) (decAsi_enc ea))

theorem ldstub (rd rs1 op2) : Statement (.ldstub rd rs1 op2) := fun _ => (decode_mem _ _ _ _).trans (withSrc2_enc _ _ (.ldstub rd rs1))

theorem ldstuba (rd rs1 ea) : Statement (.ldstuba rd rs1 ea) := fun _ => (decode_mem _ _ _ _).trans (congrArg (fun e => Except.ok (Instr.ldstuba rd rs1 e)) (decAsi_enc ea))

theorem swap (rd rs1 op2) : Statement (.swap rd rs1 op2) := fun _ => (decode_mem _ _ _ _).trans (withSrc2_enc _ _ (.swap rd rs1))

theorem swapa (rd rs1 ea) : Statement (.swapa rd rs1 ea) := fun _ => (decode_mem _ _ _ _).trans (congrArg (fun e => Except.ok (Instr.swapa rd rs1 e)) (decAsi_enc ea))

theorem casa (rd rs1 rs2 sel) : Statement (.casa rd rs1 rs2 sel) := fun _ => by
  refine (decode_mem _ _ _ _).trans ?_
  show orReject _ (decCas (encCas sel rs2)) (Instr.casa rd rs1 ((encCas sel rs2).extractLsb' 0 5)) = _
  rw [decCas_enc, encCas_rs2]
  rfl

theorem casxa (rd rs1 rs2 sel) : Statement (.casxa rd rs1 rs2 sel) := fun _ => by
  refine (decode_mem _ _ _ _).trans ?_
  show orReject _ (decCas (encCas sel rs2)) (Instr.casxa rd rs1 ((encCas sel rs2).extractLsb' 0 5)) = _
  rw [decCas_enc, encCas_rs2]
  rfl

theorem prefetch (fcn rs1 op2) : Statement (.prefetch fcn rs1 op2) := fun _ => (decode_mem _ _ _ _).trans (withSrc2_enc _ _ (.prefetch fcn rs1))

theorem prefetcha (fcn rs1 ea) : Statement (.prefetcha fcn rs1 ea) := fun _ => (decode_mem _ _ _ _).trans (congrArg (fun e => Except.ok (Instr.prefetcha fcn rs1 e)) (decAsi_enc ea))

theorem membar (cmask mmask) : Statement (.membar cmask mmask) := fun _ => by
  refine (decode_arith _ _ _ _).trans ?_
  show (if (1#1 ++ 0#6 ++ cmask ++ mmask).extractLsb' 13 1 = 1#1 then
      whenZero "MEMBAR" (decide ((1#1 ++ 0#6 ++ cmask ++ mmask).extractLsb' 7 6 = 0#6))
        (.membar ((1#1 ++ 0#6 ++ cmask ++ mmask).extractLsb' 4 3) ((1#1 ++ 0#6 ++ cmask ++ mmask).extractLsb' 0 4))
    else _) = _
  rw [(membar_fields _ _).1, (membar_fields _ _).2.1, (membar_fields _ _).2.2.1, (membar_fields _ _).2.2.2]
  rfl

theorem stbar : Statement (.stbar) := fun _ => (decode_arith _ _ _ _).trans rfl

theorem flush (rs1 op2) : Statement (.flush rs1 op2) := fun _ => (decode_arith _ _ _ _).trans (withSrc2_enc _ _ (.flush rs1))

theorem ldf (rd rs1 op2) : Statement (.ldf rd rs1 op2) := fun _ => (decode_mem _ _ _ _).trans (withSrc2_enc _ _ (.ldf rd rs1))

theorem lddf (rd rs1 op2) : Statement (.lddf rd rs1 op2) := fun _ => (decode_mem _ _ _ _).trans (withSrc2_enc _ _ (.lddf rd rs1))

theorem ldxfsr (rs1 op2) : Statement (.ldxfsr rs1 op2) := fun _ => (decode_mem _ _ _ _).trans (withSrc2_enc _ _ (.ldxfsr rs1))

theorem ldqf (rd rs1 op2) : Statement (.ldqf rd rs1 op2) := fun _ => (decode_mem _ _ _ _).trans (withSrc2_enc _ _ (.ldqf rd rs1))

theorem ldfsr (rs1 op2) : Statement (.ldfsr rs1 op2) := fun _ => (decode_mem _ _ _ _).trans (withSrc2_enc _ _ (.ldfsr rs1))

theorem ldfa (rd rs1 ea) : Statement (.ldfa rd rs1 ea) := fun _ => (decode_mem _ _ _ _).trans (congrArg (fun e => Except.ok (Instr.ldfa rd rs1 e)) (decAsi_enc ea))

theorem lddfa (rd rs1 ea) : Statement (.lddfa rd rs1 ea) := fun h => by
  refine (decode_mem _ _ _ _).trans ?_
  show (match decAsi (encAsi ea) with
    | .imm simm13 => Except.ok (Instr.lddfa rd rs1 (.imm simm13))
    | .reg rs2 asi => if asiIsBlock asi then .ok (.ldblockf rd rs1 rs2 asi) else if asiIsShort asi then .ok (.ldshortf rd rs1 rs2 asi) else .ok (.lddfa rd rs1 (.reg rs2 asi))) = _
  rw [decAsi_enc]
  cases ea with
  | imm _ => rfl
  | reg rs2 asi => simp_all [wellFormed, selects]

theorem ldqfa (rd rs1 ea) : Statement (.ldqfa rd rs1 ea) := fun _ => (decode_mem _ _ _ _).trans (congrArg (fun e => Except.ok (Instr.ldqfa rd rs1 e)) (decAsi_enc ea))

theorem ldblockf (rd rs1 rs2 asi) : Statement (.ldblockf rd rs1 rs2 asi) := fun h => by
  replace h : asiIsBlock asi = true := h
  refine (decode_mem _ _ _ _).trans ?_
  show (match decAsi (encAsi (.reg rs2 asi)) with
    | .imm simm13 => Except.ok (Instr.lddfa rd rs1 (.imm simm13))
    | .reg rs2 asi => if asiIsBlock asi then .ok (.ldblockf rd rs1 rs2 asi) else if asiIsShort asi then .ok (.ldshortf rd rs1 rs2 asi) else .ok (.lddfa rd rs1 (.reg rs2 asi))) = _
  rw [decAsi_enc]
  show (if asiIsBlock asi then .ok (.ldblockf rd rs1 rs2 asi) else if asiIsShort asi then .ok (.ldshortf rd rs1 rs2 asi) else Except.ok (Instr.lddfa rd rs1 (.reg rs2 asi))) = _
  rw [if_pos h]

theorem ldshortf (rd rs1 rs2 asi) : Statement (.ldshortf rd rs1 rs2 asi) := fun h => by
  replace h : asiIsShort asi = true := h
  refine (decode_mem _ _ _ _).trans ?_
  show (match decAsi (encAsi (.reg rs2 asi)) with
    | .imm simm13 => Except.ok (Instr.lddfa rd rs1 (.imm simm13))
    | .reg rs2 asi => if asiIsBlock asi then .ok (.ldblockf rd rs1 rs2 asi) else if asiIsShort asi then .ok (.ldshortf rd rs1 rs2 asi) else .ok (.lddfa rd rs1 (.reg rs2 asi))) = _
  rw [decAsi_enc]
  show (if asiIsBlock asi then .ok (.ldblockf rd rs1 rs2 asi) else if asiIsShort asi then .ok (.ldshortf rd rs1 rs2 asi) else Except.ok (Instr.lddfa rd rs1 (.reg rs2 asi))) = _
  rw [if_neg (by rw [short_not_block asi h]; decide), if_pos h]

theorem stf (rd rs1 op2) : Statement (.stf rd rs1 op2) := fun _ => (decode_mem _ _ _ _).trans (withSrc2_enc _ _ (.stf rd rs1))

theorem stdf (rd rs1 op2) : Statement (.stdf rd rs1 op2) := fun _ => (decode_mem _ _ _ _).trans (withSrc2_enc _ _ (.stdf rd rs1))

theorem stxfsr (rs1 op2) : Statement (.stxfsr rs1 op2) := fun _ => (decode_mem _ _ _ _).trans (withSrc2_enc _ _ (.stxfsr rs1))

theorem stqf (rd rs1 op2) : Statement (.stqf rd rs1 op2) := fun _ => (decode_mem _ _ _ _).trans (withSrc2_enc _ _ (.stqf rd rs1))

theorem stfsr (rs1 op2) : Statement (.stfsr rs1 op2) := fun _ => (decode_mem _ _ _ _).trans (withSrc2_enc _ _ (.stfsr rs1))

theorem stfa (rd rs1 ea) : Statement (.stfa rd rs1 ea) := fun _ => (decode_mem _ _ _ _).trans (congrArg (fun e => Except.ok (Instr.stfa rd rs1 e)) (decAsi_enc ea))

theorem stdfa (rd rs1 ea) : Statement (.stdfa rd rs1 ea) := fun h => by
  refine (decode_mem _ _ _ _).trans ?_
  show (match decAsi (encAsi ea) with
    | .imm simm13 => Except.ok (Instr.stdfa rd rs1 (.imm simm13))
    | .reg rs2 asi => if asiIsBlock asi then .ok (.stblockf rd rs1 rs2 asi) else if asiIsShort asi then .ok (.stshortf rd rs1 rs2 asi) else if asiIsPartial asi then .ok (.stpartialf rd rs1 rs2 asi) else .ok (.stdfa rd rs1 (.reg rs2 asi))) = _
  rw [decAsi_enc]
  cases ea with
  | imm _ => rfl
  | reg rs2 asi => simp_all [wellFormed, selects]

theorem stblockf (rd rs1 rs2 asi) : Statement (.stblockf rd rs1 rs2 asi) := fun h => by
  replace h : asiIsBlock asi = true := h
  refine (decode_mem _ _ _ _).trans ?_
  show (match decAsi (encAsi (.reg rs2 asi)) with
    | .imm simm13 => Except.ok (Instr.stdfa rd rs1 (.imm simm13))
    | .reg rs2 asi => if asiIsBlock asi then .ok (.stblockf rd rs1 rs2 asi) else if asiIsShort asi then .ok (.stshortf rd rs1 rs2 asi) else if asiIsPartial asi then .ok (.stpartialf rd rs1 rs2 asi) else .ok (.stdfa rd rs1 (.reg rs2 asi))) = _
  rw [decAsi_enc]
  show (if asiIsBlock asi then .ok (.stblockf rd rs1 rs2 asi) else if asiIsShort asi then .ok (.stshortf rd rs1 rs2 asi) else if asiIsPartial asi then .ok (.stpartialf rd rs1 rs2 asi) else Except.ok (Instr.stdfa rd rs1 (.reg rs2 asi))) = _
  rw [if_pos h]

theorem stshortf (rd rs1 rs2 asi) : Statement (.stshortf rd rs1 rs2 asi) := fun h => by
  replace h : asiIsShort asi = true := h
  refine (decode_mem _ _ _ _).trans ?_
  show (match decAsi (encAsi (.reg rs2 asi)) with
    | .imm simm13 => Except.ok (Instr.stdfa rd rs1 (.imm simm13))
    | .reg rs2 asi => if asiIsBlock asi then .ok (.stblockf rd rs1 rs2 asi) else if asiIsShort asi then .ok (.stshortf rd rs1 rs2 asi) else if asiIsPartial asi then .ok (.stpartialf rd rs1 rs2 asi) else .ok (.stdfa rd rs1 (.reg rs2 asi))) = _
  rw [decAsi_enc]
  show (if asiIsBlock asi then .ok (.stblockf rd rs1 rs2 asi) else if asiIsShort asi then .ok (.stshortf rd rs1 rs2 asi) else if asiIsPartial asi then .ok (.stpartialf rd rs1 rs2 asi) else Except.ok (Instr.stdfa rd rs1 (.reg rs2 asi))) = _
  rw [if_neg (by rw [short_not_block asi h]; decide), if_pos h]

theorem stpartialf (rd rs1 rs2 asi) : Statement (.stpartialf rd rs1 rs2 asi) := fun h => by
  replace h : asiIsPartial asi = true := h
  refine (decode_mem _ _ _ _).trans ?_
  show (match decAsi (encAsi (.reg rs2 asi)) with
    | .imm simm13 => Except.ok (Instr.stdfa rd rs1 (.imm simm13))
    | .reg rs2 asi => if asiIsBlock asi then .ok (.stblockf rd rs1 rs2 asi) else if asiIsShort asi then .ok (.stshortf rd rs1 rs2 asi) else if asiIsPartial asi then .ok (.stpartialf rd rs1 rs2 asi) else .ok (.stdfa rd rs1 (.reg rs2 asi))) = _
  rw [decAsi_enc]
  show (if asiIsBlock asi then .ok (.stblockf rd rs1 rs2 asi) else if asiIsShort asi then .ok (.stshortf rd rs1 rs2 asi) else if asiIsPartial asi then .ok (.stpartialf rd rs1 rs2 asi) else Except.ok (Instr.stdfa rd rs1 (.reg rs2 asi))) = _
  rw [if_neg (by rw [partial_not_block asi h]; decide), if_neg (by rw [partial_not_short asi h]; decide), if_pos h]

theorem stqfa (rd rs1 ea) : Statement (.stqfa rd rs1 ea) := fun _ => (decode_mem _ _ _ _).trans (congrArg (fun e => Except.ok (Instr.stqfa rd rs1 e)) (decAsi_enc ea))

theorem save (rd rs1 op2) : Statement (.save rd rs1 op2) := fun _ => (decode_arith _ _ _ _).trans (withSrc2_enc _ _ (.save rd rs1))

theorem restore (rd rs1 op2) : Statement (.restore rd rs1 op2) := fun _ => (decode_arith _ _ _ _).trans (withSrc2_enc _ _ (.restore rd rs1))

theorem saved : Statement (.saved) := fun _ => (decode_arith _ _ _ _).trans rfl

theorem restored : Statement (.restored) := fun _ => (decode_arith _ _ _ _).trans rfl

theorem allclean : Statement (.allclean) := fun _ => (decode_arith _ _ _ _).trans rfl

theorem otherw : Statement (.otherw) := fun _ => (decode_arith _ _ _ _).trans rfl

theorem normalw : Statement (.normalw) := fun _ => (decode_arith _ _ _ _).trans rfl

theorem invalw : Statement (.invalw) := fun _ => (decode_arith _ _ _ _).trans rfl

theorem flushw : Statement (.flushw) := fun _ => (decode_arith _ _ _ _).trans rfl

theorem rdy (rd) : Statement (.rdy rd) := fun _ => (decode_arith _ _ _ _).trans rfl

theorem rdccr (rd) : Statement (.rdccr rd) := fun _ => (decode_arith _ _ _ _).trans rfl

theorem rdasi (rd) : Statement (.rdasi rd) := fun _ => (decode_arith _ _ _ _).trans rfl

theorem rdtick (rd) : Statement (.rdtick rd) := fun _ => (decode_arith _ _ _ _).trans rfl

theorem rdpc (rd) : Statement (.rdpc rd) := fun _ => (decode_arith _ _ _ _).trans rfl

theorem rdfprs (rd) : Statement (.rdfprs rd) := fun _ => (decode_arith _ _ _ _).trans rfl

theorem rdpcr (rd) : Statement (.rdpcr rd) := fun _ => (decode_arith _ _ _ _).trans rfl

theorem rdpic (rd) : Statement (.rdpic rd) := fun _ => (decode_arith _ _ _ _).trans rfl

theorem rdgsr (rd) : Statement (.rdgsr rd) := fun _ => (decode_arith _ _ _ _).trans rfl

theorem rdsoftint (rd) : Statement (.rdsoftint rd) := fun _ => (decode_arith _ _ _ _).trans rfl

theorem rdtick_cmpr (rd) : Statement (.rdtick_cmpr rd) := fun _ => (decode_arith _ _ _ _).trans rfl

theorem rdstick (rd) : Statement (.rdstick rd) := fun _ => (decode_arith _ _ _ _).trans rfl

theorem rdstick_cmpr (rd) : Statement (.rdstick_cmpr rd) := fun _ => (decode_arith _ _ _ _).trans rfl

theorem wry (rs1 op2) : Statement (.wry rs1 op2) := fun _ => (decode_arith _ _ _ _).trans (withSrc2_enc _ _ (.wry rs1))

theorem wrccr (rs1 op2) : Statement (.wrccr rs1 op2) := fun _ => (decode_arith _ _ _ _).trans (withSrc2_enc _ _ (.wrccr rs1))

theorem wrasi (rs1 op2) : Statement (.wrasi rs1 op2) := fun _ => (decode_arith _ _ _ _).trans (withSrc2_enc _ _ (.wrasi rs1))

theorem wrfprs (rs1 op2) : Statement (.wrfprs rs1 op2) := fun _ => (decode_arith _ _ _ _).trans (withSrc2_enc _ _ (.wrfprs rs1))

theorem wrpcr (rs1 op2) : Statement (.wrpcr rs1 op2) := fun _ => (decode_arith _ _ _ _).trans (withSrc2_enc _ _ (.wrpcr rs1))

theorem wrpic (rs1 op2) : Statement (.wrpic rs1 op2) := fun _ => (decode_arith _ _ _ _).trans (withSrc2_enc _ _ (.wrpic rs1))

theorem wrgsr (rs1 op2) : Statement (.wrgsr rs1 op2) := fun _ => (decode_arith _ _ _ _).trans (withSrc2_enc _ _ (.wrgsr rs1))

theorem wrsoftint_set (rs1 op2) : Statement (.wrsoftint_set rs1 op2) := fun _ => (decode_arith _ _ _ _).trans (withSrc2_enc _ _ (.wrsoftint_set rs1))

theorem wrsoftint_clr (rs1 op2) : Statement (.wrsoftint_clr rs1 op2) := fun _ => (decode_arith _ _ _ _).trans (withSrc2_enc _ _ (.wrsoftint_clr rs1))

theorem wrsoftint (rs1 op2) : Statement (.wrsoftint rs1 op2) := fun _ => (decode_arith _ _ _ _).trans (withSrc2_enc _ _ (.wrsoftint rs1))

theorem wrtick_cmpr (rs1 op2) : Statement (.wrtick_cmpr rs1 op2) := fun _ => (decode_arith _ _ _ _).trans (withSrc2_enc _ _ (.wrtick_cmpr rs1))

theorem wrstick (rs1 op2) : Statement (.wrstick rs1 op2) := fun _ => (decode_arith _ _ _ _).trans (withSrc2_enc _ _ (.wrstick rs1))

theorem wrstick_cmpr (rs1 op2) : Statement (.wrstick_cmpr rs1 op2) := fun _ => (decode_arith _ _ _ _).trans (withSrc2_enc _ _ (.wrstick_cmpr rs1))

theorem sir (simm13) : Statement (.sir simm13) := fun _ => by
  refine (decode_arith _ _ _ _).trans ?_
  show (if 0#5 = 0#5 ∧ (1#1 ++ simm13).extractLsb' 13 1 = 1#1 then
    Except.ok (Instr.sir ((1#1 ++ simm13).extractLsb' 0 13)) else _) = _
  rw [(sir_fields _).1, (sir_fields _).2]
  rfl

theorem rdpr (rd rs1) : Statement (.rdpr rd rs1) := fun _ => (decode_arith _ _ _ _).trans rfl

theorem wrpr (rd rs1 op2) : Statement (.wrpr rd rs1 op2) := fun _ => (decode_arith _ _ _ _).trans (withSrc2_enc _ _ (.wrpr rd rs1))

theorem rdhpr (rd rs1) : Statement (.rdhpr rd rs1) := fun _ => (decode_arith _ _ _ _).trans rfl

theorem wrhpr (rd rs1 op2) : Statement (.wrhpr rd rs1 op2) := fun _ => (decode_arith _ _ _ _).trans (withSrc2_enc _ _ (.wrhpr rd rs1))

theorem shutdown : Statement (.shutdown) := fun _ => (decode_vis _ _ _ _).trans rfl

theorem impdep1 (rd rs1 opf rs2) : Statement (.impdep1 rd rs1 opf rs2) := fun h => by
  refine (decode_vis _ _ _ _).trans ?_
  have h' : visAssigned opf = false := by simpa [wellFormed] using h
  have hn : ∀ v, visAssigned v = true → opf ≠ v := fun v hv e => by rw [e, hv] at h'; cases h'
  unfold decodeVis
  iterate 83 rw [if_neg (hn _ (by decide))]

theorem impdep2a (rd mid rs2) : Statement (.impdep2a rd mid rs2) := fun _ => decode_impdep2 _ _ _ _

theorem impdep2b (rd mid op4 rs2) : Statement (.impdep2b rd mid op4 rs2) := fun h => by
  have h' : op4 ≠ 0#2 := by simpa [wellFormed] using h
  exact (decode_impdep2 _ _ _ _).trans (if_neg h')

theorem fadds (rd rs1 rs2) : Statement (.fadds rd rs1 rs2) := fun _ => (decode_fpop1 _ _ _ _).trans rfl

theorem faddd (rd rs1 rs2) : Statement (.faddd rd rs1 rs2) := fun _ => (decode_fpop1 _ _ _ _).trans rfl

theorem faddq (rd rs1 rs2) : Statement (.faddq rd rs1 rs2) := fun _ => (decode_fpop1 _ _ _ _).trans rfl

theorem fsubs (rd rs1 rs2) : Statement (.fsubs rd rs1 rs2) := fun _ => (decode_fpop1 _ _ _ _).trans rfl

theorem fsubd (rd rs1 rs2) : Statement (.fsubd rd rs1 rs2) := fun _ => (decode_fpop1 _ _ _ _).trans rfl

theorem fsubq (rd rs1 rs2) : Statement (.fsubq rd rs1 rs2) := fun _ => (decode_fpop1 _ _ _ _).trans rfl

theorem fmuls (rd rs1 rs2) : Statement (.fmuls rd rs1 rs2) := fun _ => (decode_fpop1 _ _ _ _).trans rfl

theorem fmuld (rd rs1 rs2) : Statement (.fmuld rd rs1 rs2) := fun _ => (decode_fpop1 _ _ _ _).trans rfl

theorem fmulq (rd rs1 rs2) : Statement (.fmulq rd rs1 rs2) := fun _ => (decode_fpop1 _ _ _ _).trans rfl

theorem fdivs (rd rs1 rs2) : Statement (.fdivs rd rs1 rs2) := fun _ => (decode_fpop1 _ _ _ _).trans rfl

theorem fdivd (rd rs1 rs2) : Statement (.fdivd rd rs1 rs2) := fun _ => (decode_fpop1 _ _ _ _).trans rfl

theorem fdivq (rd rs1 rs2) : Statement (.fdivq rd rs1 rs2) := fun _ => (decode_fpop1 _ _ _ _).trans rfl

theorem fsmuld (rd rs1 rs2) : Statement (.fsmuld rd rs1 rs2) := fun _ => (decode_fpop1 _ _ _ _).trans rfl

theorem fdmulq (rd rs1 rs2) : Statement (.fdmulq rd rs1 rs2) := fun _ => (decode_fpop1 _ _ _ _).trans rfl

theorem fsqrts (rd rs2) : Statement (.fsqrts rd rs2) := fun _ => (decode_fpop1 _ _ _ _).trans rfl

theorem fsqrtd (rd rs2) : Statement (.fsqrtd rd rs2) := fun _ => (decode_fpop1 _ _ _ _).trans rfl

theorem fsqrtq (rd rs2) : Statement (.fsqrtq rd rs2) := fun _ => (decode_fpop1 _ _ _ _).trans rfl

theorem fcmps (cc rs1 rs2) : Statement (.fcmps cc rs1 rs2) := fun _ => by
  refine (decode_fpop2 _ _ _ _).trans ?_
  show whenZero _ (decide ((0#3 ++ cc).extractLsb' 2 3 = 0#3)) (Instr.fcmps ((0#3 ++ cc).extractLsb' 0 2) rs1 rs2) = _
  rw [(fcmp_cc cc).1, (fcmp_cc cc).2]
  rfl

theorem fcmpd (cc rs1 rs2) : Statement (.fcmpd cc rs1 rs2) := fun _ => by
  refine (decode_fpop2 _ _ _ _).trans ?_
  show whenZero _ (decide ((0#3 ++ cc).extractLsb' 2 3 = 0#3)) (Instr.fcmpd ((0#3 ++ cc).extractLsb' 0 2) rs1 rs2) = _
  rw [(fcmp_cc cc).1, (fcmp_cc cc).2]
  rfl

theorem fcmpq (cc rs1 rs2) : Statement (.fcmpq cc rs1 rs2) := fun _ => by
  refine (decode_fpop2 _ _ _ _).trans ?_
  show whenZero _ (decide ((0#3 ++ cc).extractLsb' 2 3 = 0#3)) (Instr.fcmpq ((0#3 ++ cc).extractLsb' 0 2) rs1 rs2) = _
  rw [(fcmp_cc cc).1, (fcmp_cc cc).2]
  rfl

theorem fcmpes (cc rs1 rs2) : Statement (.fcmpes cc rs1 rs2) := fun _ => by
  refine (decode_fpop2 _ _ _ _).trans ?_
  show whenZero _ (decide ((0#3 ++ cc).extractLsb' 2 3 = 0#3)) (Instr.fcmpes ((0#3 ++ cc).extractLsb' 0 2) rs1 rs2) = _
  rw [(fcmp_cc cc).1, (fcmp_cc cc).2]
  rfl

theorem fcmped (cc rs1 rs2) : Statement (.fcmped cc rs1 rs2) := fun _ => by
  refine (decode_fpop2 _ _ _ _).trans ?_
  show whenZero _ (decide ((0#3 ++ cc).extractLsb' 2 3 = 0#3)) (Instr.fcmped ((0#3 ++ cc).extractLsb' 0 2) rs1 rs2) = _
  rw [(fcmp_cc cc).1, (fcmp_cc cc).2]
  rfl

theorem fcmpeq (cc rs1 rs2) : Statement (.fcmpeq cc rs1 rs2) := fun _ => by
  refine (decode_fpop2 _ _ _ _).trans ?_
  show whenZero _ (decide ((0#3 ++ cc).extractLsb' 2 3 = 0#3)) (Instr.fcmpeq ((0#3 ++ cc).extractLsb' 0 2) rs1 rs2) = _
  rw [(fcmp_cc cc).1, (fcmp_cc cc).2]
  rfl

theorem fitos (rd rs2) : Statement (.fitos rd rs2) := fun _ => (decode_fpop1 _ _ _ _).trans rfl

theorem fitod (rd rs2) : Statement (.fitod rd rs2) := fun _ => (decode_fpop1 _ _ _ _).trans rfl

theorem fitoq (rd rs2) : Statement (.fitoq rd rs2) := fun _ => (decode_fpop1 _ _ _ _).trans rfl

theorem fxtos (rd rs2) : Statement (.fxtos rd rs2) := fun _ => (decode_fpop1 _ _ _ _).trans rfl

theorem fxtod (rd rs2) : Statement (.fxtod rd rs2) := fun _ => (decode_fpop1 _ _ _ _).trans rfl

theorem fxtoq (rd rs2) : Statement (.fxtoq rd rs2) := fun _ => (decode_fpop1 _ _ _ _).trans rfl

theorem fstox (rd rs2) : Statement (.fstox rd rs2) := fun _ => (decode_fpop1 _ _ _ _).trans rfl

theorem fdtox (rd rs2) : Statement (.fdtox rd rs2) := fun _ => (decode_fpop1 _ _ _ _).trans rfl

theorem fqtox (rd rs2) : Statement (.fqtox rd rs2) := fun _ => (decode_fpop1 _ _ _ _).trans rfl

theorem fstoi (rd rs2) : Statement (.fstoi rd rs2) := fun _ => (decode_fpop1 _ _ _ _).trans rfl

theorem fdtoi (rd rs2) : Statement (.fdtoi rd rs2) := fun _ => (decode_fpop1 _ _ _ _).trans rfl

theorem fqtoi (rd rs2) : Statement (.fqtoi rd rs2) := fun _ => (decode_fpop1 _ _ _ _).trans rfl

theorem fstod (rd rs2) : Statement (.fstod rd rs2) := fun _ => (decode_fpop1 _ _ _ _).trans rfl

theorem fstoq (rd rs2) : Statement (.fstoq rd rs2) := fun _ => (decode_fpop1 _ _ _ _).trans rfl

theorem fdtos (rd rs2) : Statement (.fdtos rd rs2) := fun _ => (decode_fpop1 _ _ _ _).trans rfl

theorem fdtoq (rd rs2) : Statement (.fdtoq rd rs2) := fun _ => (decode_fpop1 _ _ _ _).trans rfl

theorem fqtos (rd rs2) : Statement (.fqtos rd rs2) := fun _ => (decode_fpop1 _ _ _ _).trans rfl

theorem fqtod (rd rs2) : Statement (.fqtod rd rs2) := fun _ => (decode_fpop1 _ _ _ _).trans rfl

theorem fmovs (rd rs2) : Statement (.fmovs rd rs2) := fun _ => (decode_fpop1 _ _ _ _).trans rfl

theorem fmovd (rd rs2) : Statement (.fmovd rd rs2) := fun _ => (decode_fpop1 _ _ _ _).trans rfl

theorem fmovq (rd rs2) : Statement (.fmovq rd rs2) := fun _ => (decode_fpop1 _ _ _ _).trans rfl

theorem fnegs (rd rs2) : Statement (.fnegs rd rs2) := fun _ => (decode_fpop1 _ _ _ _).trans rfl

theorem fnegd (rd rs2) : Statement (.fnegd rd rs2) := fun _ => (decode_fpop1 _ _ _ _).trans rfl

theorem fnegq (rd rs2) : Statement (.fnegq rd rs2) := fun _ => (decode_fpop1 _ _ _ _).trans rfl

theorem fabss (rd rs2) : Statement (.fabss rd rs2) := fun _ => (decode_fpop1 _ _ _ _).trans rfl

theorem fabsd (rd rs2) : Statement (.fabsd rd rs2) := fun _ => (decode_fpop1 _ _ _ _).trans rfl

theorem fabsq (rd rs2) : Statement (.fabsq rd rs2) := fun _ => (decode_fpop1 _ _ _ _).trans rfl

theorem fmovsicc (rd cond rs2) : Statement (.fmovsicc rd cond rs2) := fun _ => by
  refine (decode_fmovcc rd cond 0x4#3 _ rs2 (.inl rfl)).trans ?_
  simp only [decodeFmovcc, (fmovcc_rs1 cond).1, (fmovcc_rs1 cond).2]
  rfl

theorem fmovdicc (rd cond rs2) : Statement (.fmovdicc rd cond rs2) := fun _ => by
  refine (decode_fmovcc rd cond 0x4#3 _ rs2 (.inr (.inl rfl))).trans ?_
  simp only [decodeFmovcc, (fmovcc_rs1 cond).1, (fmovcc_rs1 cond).2]
  rfl

theorem fmovqicc (rd cond rs2) : Statement (.fmovqicc rd cond rs2) := fun _ => by
  refine (decode_fmovcc rd cond 0x4#3 _ rs2 (.inr (.inr rfl))).trans ?_
  simp only [decodeFmovcc, (fmovcc_rs1 cond).1, (fmovcc_rs1 cond).2]
  rfl

theorem fmovsxcc (rd cond rs2) : Statement (.fmovsxcc rd cond rs2) := fun _ => by
  refine (decode_fmovcc rd cond 0x6#3 _ rs2 (.inl rfl)).trans ?_
  simp only [decodeFmovcc, (fmovcc_rs1 cond).1, (fmovcc_rs1 cond).2]
  rfl

theorem fmovdxcc (rd cond rs2) : Statement (.fmovdxcc rd cond rs2) := fun _ => by
  refine (decode_fmovcc rd cond 0x6#3 _ rs2 (.inr (.inl rfl))).trans ?_
  simp only [decodeFmovcc, (fmovcc_rs1 cond).1, (fmovcc_rs1 cond).2]
  rfl

theorem fmovqxcc (rd cond rs2) : Statement (.fmovqxcc rd cond rs2) := fun _ => by
  refine (decode_fmovcc rd cond 0x6#3 _ rs2 (.inr (.inr rfl))).trans ?_
  simp only [decodeFmovcc, (fmovcc_rs1 cond).1, (fmovcc_rs1 cond).2]
  rfl

theorem fmovsfcc (rd cond cc rs2) : Statement (.fmovsfcc rd cond cc rs2) := fun _ => by
  refine (decode_fmovcc rd cond (0#1 ++ cc) _ rs2 (.inl rfl)).trans ?_
  simp only [decodeFmovcc, (fmovcc_rs1 cond).1, (fmovcc_rs1 cond).2, (fmovcc_cc cc).1, (fmovcc_cc cc).2]
  rfl

theorem fmovdfcc (rd cond cc rs2) : Statement (.fmovdfcc rd cond cc rs2) := fun _ => by
  refine (decode_fmovcc rd cond (0#1 ++ cc) _ rs2 (.inr (.inl rfl))).trans ?_
  simp only [decodeFmovcc, (fmovcc_rs1 cond).1, (fmovcc_rs1 cond).2, (fmovcc_cc cc).1, (fmovcc_cc cc).2]
  rfl

theorem fmovqfcc (rd cond cc rs2) : Statement (.fmovqfcc rd cond cc rs2) := fun _ => by
  refine (decode_fmovcc rd cond (0#1 ++ cc) _ rs2 (.inr (.inr rfl))).trans ?_
  simp only [decodeFmovcc, (fmovcc_rs1 cond).1, (fmovcc_rs1 cond).2, (fmovcc_cc cc).1, (fmovcc_cc cc).2]
  rfl

theorem fmovrsz (rd rs1 rs2) : Statement (.fmovrsz rd rs1 rs2) := fun _ => (decode_fpop2 _ _ _ _).trans rfl

theorem fmovrslez (rd rs1 rs2) : Statement (.fmovrslez rd rs1 rs2) := fun _ => (decode_fpop2 _ _ _ _).trans rfl

theorem fmovrslz (rd rs1 rs2) : Statement (.fmovrslz rd rs1 rs2) := fun _ => (decode_fpop2 _ _ _ _).trans rfl

theorem fmovrsnz (rd rs1 rs2) : Statement (.fmovrsnz rd rs1 rs2) := fun _ => (decode_fpop2 _ _ _ _).trans rfl

theorem fmovrsgz (rd rs1 rs2) : Statement (.fmovrsgz rd rs1 rs2) := fun _ => (decode_fpop2 _ _ _ _).trans rfl

theorem fmovrsgez (rd rs1 rs2) : Statement (.fmovrsgez rd rs1 rs2) := fun _ => (decode_fpop2 _ _ _ _).trans rfl

theorem fmovrdz (rd rs1 rs2) : Statement (.fmovrdz rd rs1 rs2) := fun _ => (decode_fpop2 _ _ _ _).trans rfl

theorem fmovrdlez (rd rs1 rs2) : Statement (.fmovrdlez rd rs1 rs2) := fun _ => (decode_fpop2 _ _ _ _).trans rfl

theorem fmovrdlz (rd rs1 rs2) : Statement (.fmovrdlz rd rs1 rs2) := fun _ => (decode_fpop2 _ _ _ _).trans rfl

theorem fmovrdnz (rd rs1 rs2) : Statement (.fmovrdnz rd rs1 rs2) := fun _ => (decode_fpop2 _ _ _ _).trans rfl

theorem fmovrdgz (rd rs1 rs2) : Statement (.fmovrdgz rd rs1 rs2) := fun _ => (decode_fpop2 _ _ _ _).trans rfl

theorem fmovrdgez (rd rs1 rs2) : Statement (.fmovrdgez rd rs1 rs2) := fun _ => (decode_fpop2 _ _ _ _).trans rfl

theorem fmovrqz (rd rs1 rs2) : Statement (.fmovrqz rd rs1 rs2) := fun _ => (decode_fpop2 _ _ _ _).trans rfl

theorem fmovrqlez (rd rs1 rs2) : Statement (.fmovrqlez rd rs1 rs2) := fun _ => (decode_fpop2 _ _ _ _).trans rfl

theorem fmovrqlz (rd rs1 rs2) : Statement (.fmovrqlz rd rs1 rs2) := fun _ => (decode_fpop2 _ _ _ _).trans rfl

theorem fmovrqnz (rd rs1 rs2) : Statement (.fmovrqnz rd rs1 rs2) := fun _ => (decode_fpop2 _ _ _ _).trans rfl

theorem fmovrqgz (rd rs1 rs2) : Statement (.fmovrqgz rd rs1 rs2) := fun _ => (decode_fpop2 _ _ _ _).trans rfl

theorem fmovrqgez (rd rs1 rs2) : Statement (.fmovrqgez rd rs1 rs2) := fun _ => (decode_fpop2 _ _ _ _).trans rfl

theorem alignaddress (rd rs1 rs2) : Statement (.alignaddress rd rs1 rs2) := fun _ => (decode_vis _ _ _ _).trans rfl

theorem alignaddress_little (rd rs1 rs2) : Statement (.alignaddress_little rd rs1 rs2) := fun _ => (decode_vis _ _ _ _).trans rfl

theorem faligndata (rd rs1 rs2) : Statement (.faligndata rd rs1 rs2) := fun _ => (decode_vis _ _ _ _).trans rfl

theorem bmask (rd rs1 rs2) : Statement (.bmask rd rs1 rs2) := fun _ => (decode_vis _ _ _ _).trans rfl

theorem bshuffle (rd rs1 rs2) : Statement (.bshuffle rd rs1 rs2) := fun _ => (decode_vis _ _ _ _).trans rfl

theorem edge8cc (rd rs1 rs2) : Statement (.edge8cc rd rs1 rs2) := fun _ => (decode_vis _ _ _ _).trans rfl

theorem edge8lcc (rd rs1 rs2) : Statement (.edge8lcc rd rs1 rs2) := fun _ => (decode_vis _ _ _ _).trans rfl

theorem edge16cc (rd rs1 rs2) : Statement (.edge16cc rd rs1 rs2) := fun _ => (decode_vis _ _ _ _).trans rfl

theorem edge16lcc (rd rs1 rs2) : Statement (.edge16lcc rd rs1 rs2) := fun _ => (decode_vis _ _ _ _).trans rfl

theorem edge32cc (rd rs1 rs2) : Statement (.edge32cc rd rs1 rs2) := fun _ => (decode_vis _ _ _ _).trans rfl

theorem edge32lcc (rd rs1 rs2) : Statement (.edge32lcc rd rs1 rs2) := fun _ => (decode_vis _ _ _ _).trans rfl

theorem edge8n (rd rs1 rs2) : Statement (.edge8n rd rs1 rs2) := fun _ => (decode_vis _ _ _ _).trans rfl

theorem edge8ln (rd rs1 rs2) : Statement (.edge8ln rd rs1 rs2) := fun _ => (decode_vis _ _ _ _).trans rfl

theorem edge16n (rd rs1 rs2) : Statement (.edge16n rd rs1 rs2) := fun _ => (decode_vis _ _ _ _).trans rfl

theorem edge16ln (rd rs1 rs2) : Statement (.edge16ln rd rs1 rs2) := fun _ => (decode_vis _ _ _ _).trans rfl

theorem edge32n (rd rs1 rs2) : Statement (.edge32n rd rs1 rs2) := fun _ => (decode_vis _ _ _ _).trans rfl

theorem edge32ln (rd rs1 rs2) : Statement (.edge32ln rd rs1 rs2) := fun _ => (decode_vis _ _ _ _).trans rfl

theorem array8 (rd rs1 rs2) : Statement (.array8 rd rs1 rs2) := fun _ => (decode_vis _ _ _ _).trans rfl

theorem array16 (rd rs1 rs2) : Statement (.array16 rd rs1 rs2) := fun _ => (decode_vis _ _ _ _).trans rfl

theorem array32 (rd rs1 rs2) : Statement (.array32 rd rs1 rs2) := fun _ => (decode_vis _ _ _ _).trans rfl

theorem fcmple16 (rd rs1 rs2) : Statement (.fcmple16 rd rs1 rs2) := fun _ => (decode_vis _ _ _ _).trans rfl

theorem fcmpne16 (rd rs1 rs2) : Statement (.fcmpne16 rd rs1 rs2) := fun _ => (decode_vis _ _ _ _).trans rfl

theorem fcmple32 (rd rs1 rs2) : Statement (.fcmple32 rd rs1 rs2) := fun _ => (decode_vis _ _ _ _).trans rfl

theorem fcmpne32 (rd rs1 rs2) : Statement (.fcmpne32 rd rs1 rs2) := fun _ => (decode_vis _ _ _ _).trans rfl

theorem fcmpgt16 (rd rs1 rs2) : Statement (.fcmpgt16 rd rs1 rs2) := fun _ => (decode_vis _ _ _ _).trans rfl

theorem fcmpeq16 (rd rs1 rs2) : Statement (.fcmpeq16 rd rs1 rs2) := fun _ => (decode_vis _ _ _ _).trans rfl

theorem fcmpgt32 (rd rs1 rs2) : Statement (.fcmpgt32 rd rs1 rs2) := fun _ => (decode_vis _ _ _ _).trans rfl

theorem fcmpeq32 (rd rs1 rs2) : Statement (.fcmpeq32 rd rs1 rs2) := fun _ => (decode_vis _ _ _ _).trans rfl

theorem fpadd16 (rd rs1 rs2) : Statement (.fpadd16 rd rs1 rs2) := fun _ => (decode_vis _ _ _ _).trans rfl

theorem fpadd16s (rd rs1 rs2) : Statement (.fpadd16s rd rs1 rs2) := fun _ => (decode_vis _ _ _ _).trans rfl

theorem fpadd32 (rd rs1 rs2) : Statement (.fpadd32 rd rs1 rs2) := fun _ => (decode_vis _ _ _ _).trans rfl

theorem fpadd32s (rd rs1 rs2) : Statement (.fpadd32s rd rs1 rs2) := fun _ => (decode_vis _ _ _ _).trans rfl

theorem fpsub16 (rd rs1 rs2) : Statement (.fpsub16 rd rs1 rs2) := fun _ => (decode_vis _ _ _ _).trans rfl

theorem fpsub16s (rd rs1 rs2) : Statement (.fpsub16s rd rs1 rs2) := fun _ => (decode_vis _ _ _ _).trans rfl

theorem fpsub32 (rd rs1 rs2) : Statement (.fpsub32 rd rs1 rs2) := fun _ => (decode_vis _ _ _ _).trans rfl

theorem fpsub32s (rd rs1 rs2) : Statement (.fpsub32s rd rs1 rs2) := fun _ => (decode_vis _ _ _ _).trans rfl

theorem fzero (rd) : Statement (.fzero rd) := fun _ => (decode_vis _ _ _ _).trans rfl

theorem fzeros (rd) : Statement (.fzeros rd) := fun _ => (decode_vis _ _ _ _).trans rfl

theorem fone (rd) : Statement (.fone rd) := fun _ => (decode_vis _ _ _ _).trans rfl

theorem fones (rd) : Statement (.fones rd) := fun _ => (decode_vis _ _ _ _).trans rfl

theorem fsrc1 (rd rs1) : Statement (.fsrc1 rd rs1) := fun _ => (decode_vis _ _ _ _).trans rfl

theorem fsrc1s (rd rs1) : Statement (.fsrc1s rd rs1) := fun _ => (decode_vis _ _ _ _).trans rfl

theorem fsrc2 (rd rs2) : Statement (.fsrc2 rd rs2) := fun _ => (decode_vis _ _ _ _).trans rfl

theorem fsrc2s (rd rs2) : Statement (.fsrc2s rd rs2) := fun _ => (decode_vis _ _ _ _).trans rfl

theorem fnot1 (rd rs1) : Statement (.fnot1 rd rs1) := fun _ => (decode_vis _ _ _ _).trans rfl

theorem fnot1s (rd rs1) : Statement (.fnot1s rd rs1) := fun _ => (decode_vis _ _ _ _).trans rfl

theorem fnot2 (rd rs2) : Statement (.fnot2 rd rs2) := fun _ => (decode_vis _ _ _ _).trans rfl

theorem fnot2s (rd rs2) : Statement (.fnot2s rd rs2) := fun _ => (decode_vis _ _ _ _).trans rfl

theorem for_ (rd rs1 rs2) : Statement (.for_ rd rs1 rs2) := fun _ => (decode_vis _ _ _ _).trans rfl

theorem fors (rd rs1 rs2) : Statement (.fors rd rs1 rs2) := fun _ => (decode_vis _ _ _ _).trans rfl

theorem fnor (rd rs1 rs2) : Statement (.fnor rd rs1 rs2) := fun _ => (decode_vis _ _ _ _).trans rfl

theorem fnors (rd rs1 rs2) : Statement (.fnors rd rs1 rs2) := fun _ => (decode_vis _ _ _ _).trans rfl

theorem fand (rd rs1 rs2) : Statement (.fand rd rs1 rs2) := fun _ => (decode_vis _ _ _ _).trans rfl

theorem fands (rd rs1 rs2) : Statement (.fands rd rs1 rs2) := fun _ => (decode_vis _ _ _ _).trans rfl

theorem fnand (rd rs1 rs2) : Statement (.fnand rd rs1 rs2) := fun _ => (decode_vis _ _ _ _).trans rfl

theorem fnands (rd rs1 rs2) : Statement (.fnands rd rs1 rs2) := fun _ => (decode_vis _ _ _ _).trans rfl

theorem fxor (rd rs1 rs2) : Statement (.fxor rd rs1 rs2) := fun _ => (decode_vis _ _ _ _).trans rfl

theorem fxors (rd rs1 rs2) : Statement (.fxors rd rs1 rs2) := fun _ => (decode_vis _ _ _ _).trans rfl

theorem fxnor (rd rs1 rs2) : Statement (.fxnor rd rs1 rs2) := fun _ => (decode_vis _ _ _ _).trans rfl

theorem fxnors (rd rs1 rs2) : Statement (.fxnors rd rs1 rs2) := fun _ => (decode_vis _ _ _ _).trans rfl

theorem fornot1 (rd rs1 rs2) : Statement (.fornot1 rd rs1 rs2) := fun _ => (decode_vis _ _ _ _).trans rfl

theorem fornot1s (rd rs1 rs2) : Statement (.fornot1s rd rs1 rs2) := fun _ => (decode_vis _ _ _ _).trans rfl

theorem fornot2 (rd rs1 rs2) : Statement (.fornot2 rd rs1 rs2) := fun _ => (decode_vis _ _ _ _).trans rfl

theorem fornot2s (rd rs1 rs2) : Statement (.fornot2s rd rs1 rs2) := fun _ => (decode_vis _ _ _ _).trans rfl

theorem fandnot1 (rd rs1 rs2) : Statement (.fandnot1 rd rs1 rs2) := fun _ => (decode_vis _ _ _ _).trans rfl

theorem fandnot1s (rd rs1 rs2) : Statement (.fandnot1s rd rs1 rs2) := fun _ => (decode_vis _ _ _ _).trans rfl

theorem fandnot2 (rd rs1 rs2) : Statement (.fandnot2 rd rs1 rs2) := fun _ => (decode_vis _ _ _ _).trans rfl

theorem fandnot2s (rd rs1 rs2) : Statement (.fandnot2s rd rs1 rs2) := fun _ => (decode_vis _ _ _ _).trans rfl

theorem siam (mode) : Statement (.siam mode) := fun _ => by
  show decode (enc3 2#2 0#5 0x36#6 0#5 (0x081#9 ++ 0#2 ++ mode)) = _
  rw [append3]
  refine (decode_vis _ _ _ _).trans ?_
  show whenZero _ (true && decide ((0#2 ++ mode).extractLsb' 3 2 = 0#2)) (.siam ((0#2 ++ mode).extractLsb' 0 3)) = _
  rw [(siam_fields mode).1, (siam_fields mode).2]
  rfl

theorem fexpand (rd rs2) : Statement (.fexpand rd rs2) := fun _ => (decode_vis _ _ _ _).trans rfl

theorem fmul8x16 (rd rs1 rs2) : Statement (.fmul8x16 rd rs1 rs2) := fun _ => (decode_vis _ _ _ _).trans rfl

theorem fmul8x16au (rd rs1 rs2) : Statement (.fmul8x16au rd rs1 rs2) := fun _ => (decode_vis _ _ _ _).trans rfl

theorem fmul8x16al (rd rs1 rs2) : Statement (.fmul8x16al rd rs1 rs2) := fun _ => (decode_vis _ _ _ _).trans rfl

theorem fmul8sux16 (rd rs1 rs2) : Statement (.fmul8sux16 rd rs1 rs2) := fun _ => (decode_vis _ _ _ _).trans rfl

theorem fmul8ulx16 (rd rs1 rs2) : Statement (.fmul8ulx16 rd rs1 rs2) := fun _ => (decode_vis _ _ _ _).trans rfl

theorem fmuld8sux16 (rd rs1 rs2) : Statement (.fmuld8sux16 rd rs1 rs2) := fun _ => (decode_vis _ _ _ _).trans rfl

theorem fmuld8ulx16 (rd rs1 rs2) : Statement (.fmuld8ulx16 rd rs1 rs2) := fun _ => (decode_vis _ _ _ _).trans rfl

theorem fpack16 (rd rs2) : Statement (.fpack16 rd rs2) := fun _ => (decode_vis _ _ _ _).trans rfl

theorem fpack32 (rd rs1 rs2) : Statement (.fpack32 rd rs1 rs2) := fun _ => (decode_vis _ _ _ _).trans rfl

theorem fpackfix (rd rs2) : Statement (.fpackfix rd rs2) := fun _ => (decode_vis _ _ _ _).trans rfl

theorem fpmerge (rd rs1 rs2) : Statement (.fpmerge rd rs1 rs2) := fun _ => (decode_vis _ _ _ _).trans rfl

theorem pdist (rd rs1 rs2) : Statement (.pdist rd rs1 rs2) := fun _ => (decode_vis _ _ _ _).trans rfl

end Sys2Proof.Laws.RoundTrip
end

