-- ==== Sys2Proof/Laws/Traps.lean ====
section
/-! SUPPORT. Trap entry: the trap stack, the limits of TL and GL, CWP on a window trap, and which of the two kinds of entry a
trap makes. -/

namespace Sys2Proof.Machine

theorem trapCwp_trapType (w : WindowRegs) (e : Trap) : trapCwp w (trapType e) = cwpAfterTrap w e := by
  have eight : ∀ n : BitVec 3, n = 0 ∨ n = 1 ∨ n = 2 ∨ n = 3 ∨ n = 4 ∨ n = 5 ∨ n = 6 ∨ n = 7 := by decide
  cases e with
  | spill o n => cases o <;> rcases eight n with rfl | rfl | rfl | rfl | rfl | rfl | rfl | rfl <;> rfl
  | fill o n => cases o <;> rcases eight n with rfl | rfl | rfl | rfl | rfl | rfl | rfl | rfl <;> rfl
  | softwareTrap n =>
    unfold trapCwp cwpAfterTrap trapType
    have h1 : ¬1#1 ++ n = (0x024 : BitVec 9) := by revert n; decide
    have h2 : ¬((0x080 : BitVec 9) ≤ 1#1 ++ n ∧ 1#1 ++ n ≤ (0x0BF : BitVec 9)) := by revert n; decide
    have h3 : ¬((0x0C0 : BitVec 9) ≤ 1#1 ++ n ∧ 1#1 ++ n ≤ (0x0FF : BitVec 9)) := by revert n; decide
    rw [if_neg h1, if_neg h2, if_neg h3]
  | interruptLevel n =>
    unfold trapCwp cwpAfterTrap trapType
    have h1 : ¬0x4#5 ++ n = (0x024 : BitVec 9) := by revert n; decide
    have h2 : ¬((0x080 : BitVec 9) ≤ 0x4#5 ++ n ∧ 0x4#5 ++ n ≤ (0x0BF : BitVec 9)) := by revert n; decide
    have h3 : ¬((0x0C0 : BitVec 9) ≤ 0x4#5 ++ n ∧ 0x4#5 ++ n ≤ (0x0FF : BitVec 9)) := by revert n; decide
    rw [if_neg h1, if_neg h2, if_neg h3]
  | _ => rfl

theorem frameAt_setFrame (s : State) (n m : BitVec 3) (f : TrapFrame) :
    frameAt (setFrame s n f) m = if m = n then f else frameAt s m := by
  unfold frameAt setFrame
  simp only [Vector.getElem_set]
  by_cases h : m = n
  · subst h; simp
  · rw [if_neg h, if_neg]
    exact fun e => h (BitVec.eq_of_toNat_eq e.symm)

theorem raiseGl_two (g : BitVec 2) : raiseGl g 2 = BitVec.ofNat 2 (min (g.toNat + 1) 2) := by revert g; decide

theorem raiseGl_three (g : BitVec 2) : raiseGl g 3 = BitVec.ofNat 2 (min (g.toNat + 1) 3) := by revert g; decide

theorem raiseTl_eq (t : BitVec 3) : raiseTl t = BitVec.ofNat 3 (min (t.toNat + 1) 6) := by revert t; decide

theorem saved_savedFrame (s : State) (tt : BitVec 9) : Saved s (savedFrame s tt) tt := by
  refine ⟨rfl, rfl, ?_, rfl, rfl, rfl, rfl, rfl, rfl, rfl⟩
  show (0#1 ++ s.gl).toNat = s.gl.toNat
  generalize s.gl = g
  revert g; decide

/-- Which entry a trap makes: a normal one, or one into RED_state (rules R1229 to R1237). -/
theorem enterTrap_normal {s : State} {e : Trap} (hr : s.hpstate.red = false) (ht : s.tl.toNat < 5) (he : isResetTrap e = false) :
    enterTrap s e = normalTrap s e := by
  have h5 : ¬s.tl = 5 := fun h => by rw [h] at ht; simp at ht
  unfold enterTrap
  rw [if_neg (by omega)]
  split
  · cases he
  · cases he
  · rw [if_neg h5, if_neg (by simp [hr])]

theorem enterTrap_red {s : State} {e : Trap} (ht : s.tl.toNat ≤ 6)
    (h : s.tl.toNat = 6 ∨ isResetTrap e = true ∨ s.tl.toNat = 5 ∨ s.hpstate.red = true) :
    enterTrap s e = redStateTrap s (trapType e)
      (if s.tl.toNat = 6 then 0x40 else if e = .externallyInitiatedReset then 0x60
        else if e = .softwareInitiatedReset then 0x80 else 0xA0)
      (decide (s.tl.toNat < 5 ∧ isResetTrap e = false) && s.hpstate.tlz) := by
  unfold enterTrap
  by_cases h6 : s.tl.toNat = 6
  · rw [if_pos (by omega), if_pos h6]; simp [h6]
  rw [if_neg (by omega), if_neg h6]
  split
  · simp [isResetTrap]
  · simp [isResetTrap]
  · have h1 : e ≠ .externallyInitiatedReset := by assumption
    have h2 : e ≠ .softwareInitiatedReset := by assumption
    have hr : isResetTrap e = false := by cases e <;> first | rfl | contradiction
    rw [if_neg h1, if_neg h2]
    by_cases h5 : s.tl = 5
    · rw [if_pos h5]; simp [h5]
    · have h5' : s.tl.toNat ≠ 5 := fun e => h5 (BitVec.eq_of_toNat_eq e)
      have hred : s.hpstate.red = true := by rcases h with h | h | h | h <;> simp_all
      have hlt : s.tl.toNat < 5 := by omega
      rw [if_neg h5, if_pos hred]
      simp [hr, hlt]

/-- The trap stack after a trap: the frame saved, at the new trap level. -/
theorem frameAt_takeTrap_normal {s : State} {e : Trap} (h : enterTrap s e = normalTrap s e) (n : BitVec 3) :
    frameAt (takeTrap s e) n = if n = s.tl + 1 then savedFrame s (trapType e) else frameAt s n := by
  unfold takeTrap; rw [h]; exact frameAt_setFrame _ _ _ _

theorem frameAt_takeTrap_red {s : State} {e : Trap} {tt : BitVec 9} {off : Byte} {tlz : Bool}
    (h : enterTrap s e = redStateTrap s tt off tlz) (n : BitVec 3) :
    frameAt (takeTrap s e) n = if n = raiseTl s.tl then savedFrame s tt else frameAt s n := by
  unfold takeTrap; rw [h]; exact frameAt_setFrame _ _ _ _

end Sys2Proof.Machine
end

