-- ==== Sys2Proof/Laws/Step.lean ====
section
/-! SUPPORT. What a step can do, said once: the cases of `step`, of fetching and running a word, and the building blocks of the
invariant. -/

namespace Sys2Proof.Machine

/-! ### The cases of a step -/

/-- What a word that is run can lead to: the meaning of an instruction, or a trap with at most FSR.ftt changed before it. -/
theorem runWord_next {s t : State} {w : Word} (h : runWord s w = .next t) :
    (∃ i, decode w = .ok i ∧ exec i s = .next t)
      ∨ ∃ u e, t = takeTrap u e ∧ u = { s with fsr := { s.fsr with ftt := u.fsr.ftt } } := by
  unfold runWord at h
  rw [if_neg (by simp [breakpointHit, Config.instrBreakpoint])] at h
  split at h
  · exact .inl ⟨_, by assumption, h⟩
  · refine .inr ?_
    rename_i r _
    cases r with
    | unassignedFPop =>
      simp only [runReject, unimplementedFPop, id] at h
      split at h <;> cases h
      · exact ⟨_, _, rfl, rfl⟩
      · exact ⟨_, _, rfl, rfl⟩
    | _ => cases h; exact ⟨_, _, rfl, rfl⟩

/-- The fetch's exception changes only an MMU tag register before its trap. -/
theorem translateFetch_error {s : State} {a : DWord} {x : Stop} (h : translateFetch s a = .error x) :
    x.state = { s with mmu := { s.mmu with itagAccess := x.state.mmu.itagAccess } } := by
  unfold translateFetch throughFetchEntry raise at h
  simp only [reachedFetch_eq, missFetch_eq] at h
  split at h
  · cases h
  · split at h <;> split at h
    · cases h; rfl
    · split at h <;> cases h; rfl
    · cases h; rfl
    · split at h <;> cases h; rfl

theorem runNext_next {s t : State} (h : runNext s = .next t) :
    (∃ i, exec i s = .next t)
      ∨ ∃ u e, t = takeTrap u e ∧ u = { s with fsr := u.fsr, mmu := { s.mmu with itagAccess := u.mmu.itagAccess } } := by
  unfold runNext at h
  simp only [walkedFetch_eq] at h
  split at h
  · cases h
    have hx := translateFetch_error (by assumption)
    refine .inr ⟨_, _, rfl, ?_⟩
    rw [hx]
  · rcases runWord_next h with ⟨i, -, h⟩ | ⟨u, e, h1, h2⟩
    · exact .inl ⟨i, h⟩
    · refine .inr ⟨u, e, h1, ?_⟩
      rw [h2]

/-- A selection has the next state of what it selects from, or takes the trap. -/
theorem selectTrap_next {s t : State} {e : Trap} {run : Run} (h : selectTrap s e run = .next t) :
    run = .next t ∨ t = takeTrap s e := by
  unfold selectTrap at h
  split at h
  · split at h
    · split at h
      · exact .inl h
      · cases h; exact .inr rfl
    · cases h; exact .inr rfl
  · cases h; exact .inr rfl
  · cases h; exact .inr rfl

theorem selectErrors_next {s t : State} {run : Run} {es : List Trap} (h : es.foldl (selectError s) run = .next t) :
    run = .next t ∨ ∃ e ∈ es, t = takeTrap (errorReported s e) e := by
  induction es generalizing run with
  | nil => exact .inl h
  | cons e es ih =>
    rcases ih h with h | ⟨e', he, rfl⟩
    · rcases selectTrap_next h with h | rfl
      · exact .inl h
      · exact .inr ⟨e, by simp, rfl⟩
    · exact .inr ⟨e', by simp [he], rfl⟩

/-- Where the fetch meets an error the instruction raises nothing: a trap is one of its fetch (rule R1201). -/
theorem runHidden_next {s t : State} (h : runHidden s = .next t) :
    ∃ u e, t = takeTrap u e ∧ u = { s with mmu := { s.mmu with itagAccess := u.mmu.itagAccess } } := by
  unfold runHidden at h
  simp only [walkedFetch_eq] at h
  split at h
  · cases h
    exact ⟨_, _, rfl, translateFetch_error (by assumption)⟩
  · cases h; exact ⟨_, _, rfl, rfl⟩

/-- With no error reported the step is the ordinary one. -/
theorem runStep_ordinary {s : State} (hr : s.hpstate.red = false ∨ s.hpstate.hpriv = true) (hx : s.xirPending = false)
    (hp : s.errors.precise = none) (he : errorTraps s = []) : runStep s = ordinaryStep s (runNext s) := by
  unfold runStep
  rw [if_neg (by rcases hr with h | h <;> simp [h]), if_neg (by simp [hx]), he]
  have hs : pastError s = s := by unfold pastError; rw [← hp]
  rw [List.foldl_nil, runAtPc, if_neg (by simp [hp]), hs]

/-- A step of a running strand whose error traps compete answers a next state, by a trap at least as urgent as each of them. -/
theorem selectErrors_lastTrap {s : State} {es : List Trap} {run : Run} {e : Trap} (he : e ∈ es) :
    ∃ t p, es.foldl (selectError s) run = .next t ∧ t.lastTrap = some p ∧ p ≤ trapPriority e := by
  have keep : ∀ (es : List Trap) (t : State) (p : Nat), t.lastTrap = some p →
      ∃ t' p', es.foldl (selectError s) (.next t) = .next t' ∧ t'.lastTrap = some p' ∧ p' ≤ p := by
    intro es
    induction es with
    | nil => exact fun t p h => ⟨t, p, rfl, h, le_rfl⟩
    | cons e es ih =>
      intro t p h
      rw [List.foldl_cons]
      unfold selectError selectTrap
      simp only [h]
      split
      · exact ih t p h
      · obtain ⟨t', p', h1, h2, h3⟩ := ih (takeTrap (errorReported s e) e) (trapPriority e) rfl
        exact ⟨t', p', h1, h2, by omega⟩
  induction es generalizing run with
  | nil => simp at he
  | cons e' es ih =>
    rcases List.mem_cons.mp he with rfl | he
    · rw [List.foldl_cons]
      have : ∃ t p, selectError s run e = .next t ∧ t.lastTrap = some p ∧ p ≤ trapPriority e := by
        unfold selectError selectTrap
        split
        · split
          · split
            · exact ⟨_, _, rfl, by assumption, by omega⟩
            · exact ⟨_, _, rfl, rfl, le_rfl⟩
          · exact ⟨_, _, rfl, rfl, le_rfl⟩
        · exact ⟨_, _, rfl, rfl, le_rfl⟩
        · exact ⟨_, _, rfl, rfl, le_rfl⟩
      obtain ⟨t, p, h1, h2, h3⟩ := this
      obtain ⟨t', p', h4, h5, h6⟩ := keep es t p h2
      exact ⟨t', p', h1 ▸ h4, h5, h6.trans h3⟩
    · exact ih he

/-- Everything a step with a next state can have done (rules R1201, R1407, R1453): the last case is every trap that is taken in
place of an instruction's own effect. -/
theorem step_next {s t : State} (h : step s = .next t) :
    (isRunning s = false ∧ t = parkedStep s)
      ∨ t = takeTrap (xirAccepted (startStep s)) .externallyInitiatedReset
      ∨ (∃ i, exec i (pastError (startStep s)) = .next t)
      ∨ ∃ u e, t = takeTrap u e
          ∧ u = { startStep s with fsr := u.fsr, errors := u.errors, mmu := { s.mmu with itagAccess := u.mmu.itagAccess } } := by
  have hn : runAtPc (startStep s) = .next t → (∃ i, exec i (pastError (startStep s)) = .next t)
      ∨ ∃ u e, t = takeTrap u e
          ∧ u = { startStep s with fsr := u.fsr, errors := u.errors, mmu := { s.mmu with itagAccess := u.mmu.itagAccess } } := by
    intro h
    unfold runAtPc at h
    split at h
    · obtain ⟨u, e, h1, h2⟩ := runHidden_next h
      refine .inr ⟨u, e, h1, ?_⟩
      rw [h2]; rfl
    · rcases runNext_next h with h | ⟨u, e, h1, h2⟩
      · exact .inl h
      · refine .inr ⟨u, e, h1, ?_⟩
        rw [h2]; rfl
  unfold step at h
  split at h
  · unfold runStep at h
    split at h
    · cases h
    split at h
    · cases h; exact .inr (.inl rfl)
    refine .inr (.inr ?_)
    rcases selectErrors_next h with h | ⟨e, -, rfl⟩
    · unfold ordinaryStep at h
      split at h
      · cases h; exact .inr ⟨_, _, rfl, rfl⟩
      unfold runOrInterrupt at h
      split at h
      · exact hn h
      · rcases selectTrap_next h with h | rfl
        · exact hn h
        · exact .inr ⟨_, _, rfl, rfl⟩
    · refine .inr ⟨_, e, rfl, ?_⟩
      unfold errorReported
      split <;> rfl
  · rename_i hr
    cases h
    exact .inl ⟨by simpa using hr, rfl⟩

/-! ### The invariant -/

/-- A state that agrees with a good one on what the invariant reads is good. -/
theorem inv_congr {s t : State} (h : s.Inv) (hm : t.memory = s.memory) (hw : t.paWidth = s.paWidth) (hh : t.chip = s.chip)
    (hp : t.pc = s.pc ∧ t.npc = s.npc) (ht : t.tl = s.tl) (hq : t.queues = s.queues) (hc : t.cmt = s.cmt)
    (hi : t.mmu.itlb = s.mmu.itlb) (hd : t.mmu.dtlb = s.mmu.dtlb) : t.Inv where
  memory := by rw [hm, hw]; exact h.memory
  pcs := by rw [hp.1, hp.2]; exact h.pcs
  tl := ht ▸ h.tl
  queues := hq ▸ h.queues
  cmt := hc ▸ h.cmt
  available := by rw [hc, hh]; exact h.available
  chip := hh ▸ h.chip
  tlbs := by rw [hi, hd]; exact h.tlbs

/-- A multiple of 4 plus 4 is one. -/
theorem low_two_add_four {a : DWord} (h : a.extractLsb' 0 2 = 0) : (a + 4).extractLsb' 0 2 = 0 := by
  have h1 := congrArg BitVec.toNat h
  apply BitVec.eq_of_toNat_eq
  simp [BitVec.extractLsb'_toNat] at h1 ⊢
  omega

theorem low_two_append_zero (a : BitVec 59) : (a ++ 0#5 : DWord).extractLsb' 0 2 = 0 := by
  rw [BitVec.extractLsb'_append_eq_of_add_le (by decide)]; rfl

/-- Every trap-table entry is a multiple of 4. -/
theorem takeTrap_pc_aligned (s : State) (e : Trap) (h : s.tl.toNat ≤ 6) : (takeTrap s e).pc.extractLsb' 0 2 = 0 := by
  have hv : ∀ o : Byte, o.extractLsb' 0 2 = 0 → (redVector s.paWidth o).extractLsb' 0 2 = 0 := by
    intro o ho
    unfold redVector
    rw [BitVec.extractLsb'_append_eq_of_add_le (by decide)]
    exact ho
  by_cases hr : s.tl.toNat = 6 ∨ isResetTrap e = true ∨ s.tl.toNat = 5 ∨ s.hpstate.red = true
  · unfold takeTrap
    rw [enterTrap_red h hr]
    refine hv _ ?_
    split
    · rfl
    split
    · rfl
    split <;> rfl
  · push Not at hr
    unfold takeTrap
    rw [enterTrap_normal (by simpa using hr.2.2.2) (by omega) (by simpa using hr.2.1)]
    show (normalVector s e).extractLsb' 0 2 = 0
    unfold normalVector privVector guestWatchdogVector hypVector
    split
    · exact low_two_append_zero _
    split
    · rw [BitVec.extractLsb'_append_eq_of_add_le (by decide)]; rfl
    · exact low_two_append_zero _

/-- Where NPC points after a trap. -/
theorem takeTrap_npc (s : State) (e : Trap) : (takeTrap s e).npc = (takeTrap s e).pc + 4 := by
  unfold takeTrap enterTrap
  split
  · rfl
  · split
    · rfl
    · rfl
    · split
      · rfl
      · split <;> rfl

/-- TL after a trap is the smaller of TL + 1 and MAXTL (rule R1229). -/
theorem takeTrap_tl (s : State) (e : Trap) (h : s.tl.toNat ≤ 6) : (takeTrap s e).tl.toNat = min (s.tl.toNat + 1) 6 := by
  by_cases hr : s.tl.toNat = 6 ∨ isResetTrap e = true ∨ s.tl.toNat = 5 ∨ s.hpstate.red = true
  · unfold takeTrap
    rw [enterTrap_red h hr]
    show (raiseTl s.tl).toNat = _
    rw [raiseTl_eq, BitVec.toNat_ofNat]
    omega
  · push Not at hr
    unfold takeTrap
    rw [enterTrap_normal (by simpa using hr.2.2.2) (by omega) (by simpa using hr.2.1)]
    show (s.tl + 1).toNat = _
    have := hr.1
    rw [BitVec.toNat_add]
    simp
    omega

/-- A trap changes no memory, no width, no chip, no queue, no TLB and no CMT register. -/
theorem takeTrap_other (s : State) (e : Trap) :
    (takeTrap s e).memory = s.memory ∧ (takeTrap s e).paWidth = s.paWidth ∧ (takeTrap s e).chip = s.chip
      ∧ (takeTrap s e).queues = s.queues ∧ (takeTrap s e).cmt = s.cmt ∧ (takeTrap s e).mmu = s.mmu := by
  unfold takeTrap enterTrap
  split
  · exact ⟨rfl, rfl, rfl, rfl, rfl, rfl⟩
  · split
    · exact ⟨rfl, rfl, rfl, rfl, rfl, rfl⟩
    · exact ⟨rfl, rfl, rfl, rfl, rfl, rfl⟩
    · split
      · exact ⟨rfl, rfl, rfl, rfl, rfl, rfl⟩
      · split <;> exact ⟨rfl, rfl, rfl, rfl, rfl, rfl⟩

/-- A trap keeps the invariant. -/
theorem inv_takeTrap {s : State} (h : s.Inv) (e : Trap) : (takeTrap s e).Inv := by
  obtain ⟨hm, hw, hh, hq, hc, hmm⟩ := takeTrap_other s e
  have hp := takeTrap_pc_aligned s e h.tl
  refine ⟨by rw [hm, hw]; exact h.memory, ⟨hp, ?_⟩, ?_, hq ▸ h.queues, hc ▸ h.cmt, by rw [hc, hh]; exact h.available,
    hh ▸ h.chip, hmm ▸ h.tlbs⟩
  · rw [takeTrap_npc]; exact low_two_add_four hp
  · rw [takeTrap_tl s e h.tl]; omega

end Sys2Proof.Machine
end

