-- ==== Sys2Proof/Laws/Tlb.lean ====
section
/-! SUPPORT. What the constraints of rule R1382 on a store to an MMU register say of the TLBs after it. -/

namespace Sys2Proof.Machine

theorem PageSize.bytes_pos (z : PageSize) : 0 < z.bytes := by cases z <;> decide

theorem entriesConflict_comm (d e : TlbEntry) : entriesConflict d e = entriesConflict e d := by
  unfold entriesConflict
  rw [Bool.eq_iff_iff]
  simp only [Bool.and_eq_true, Bool.or_eq_true, beq_iff_eq, decide_eq_true_eq]
  constructor <;> rintro ⟨⟨⟨⟨h1, h2⟩, h3⟩, h4⟩, h5⟩ <;>
    exact ⟨⟨⟨⟨h1.symm, h2.symm⟩, h3.imp (fun h => by rw [← h, h1]) Eq.symm⟩, h5⟩, h4⟩

/-- No two different entries of a list without conflicts conflict. -/
theorem not_conflict_of_pairwise {l : List TlbEntry} (h : l.Pairwise fun d e => entriesConflict d e = false) {d e : TlbEntry}
    (hd : d ∈ l) (he : e ∈ l) (hne : e ≠ d) : entriesConflict d e = false := by
  induction l with
  | nil => cases hd
  | cons a l ih =>
    obtain ⟨h1, h2⟩ := List.pairwise_cons.mp h
    rcases List.mem_cons.mp hd with rfl | hl <;> rcases List.mem_cons.mp he with rfl | hr
    · exact absurd rfl hne
    · exact h1 e hr
    · rw [entriesConflict_comm]; exact h1 d hl
    · exact ih h2 hl hr

/-- Two entries that match one address conflict. -/
theorem conflict_of_matches {d e : TlbEntry} {q : DWord} {x : Option (BitVec 16)} {y : DWord}
    (hd : tlbMatches q x y d = true) (he : tlbMatches q x y e = true) : entriesConflict d e = true := by
  unfold tlbMatches at hd he
  unfold entriesConflict
  cases x <;> simp only [Bool.and_eq_true, Bool.or_eq_true, beq_iff_eq, decide_eq_true_eq, Bool.not_eq_true'] at hd he ⊢
  · obtain ⟨⟨⟨h1, h2⟩, h3⟩, h4⟩ := hd
    obtain ⟨⟨⟨g1, g2⟩, g3⟩, g4⟩ := he
    exact ⟨⟨⟨⟨h4.trans g4.symm, h1.trans g1.symm⟩, .inl h4⟩, by omega⟩, by omega⟩
  · obtain ⟨⟨⟨h1, h2⟩, h3⟩, h4, h5⟩ := hd
    obtain ⟨⟨⟨g1, g2⟩, g3⟩, g4, g5⟩ := he
    exact ⟨⟨⟨⟨h4.trans g4.symm, h1.trans g1.symm⟩, .inr (h5.trans g5.symm)⟩, by omega⟩, by omega⟩

/-- Entries of which no two conflict match an address at most once. -/
theorem matches_le_one {l : List TlbEntry} (h : l.Pairwise fun d e => entriesConflict d e = false) (q : DWord)
    (x : Option (BitVec 16)) (y : DWord) : (l.filter (tlbMatches q x y)).length ≤ 1 := by
  induction l with
  | nil => simp
  | cons d l ih =>
    obtain ⟨h1, h2⟩ := List.pairwise_cons.mp h
    by_cases hd : tlbMatches q x y d = true
    · rw [List.filter_cons_of_pos hd, List.filter_eq_nil_iff.mpr]
      · rfl
      · intro e he hm
        simpa [conflict_of_matches hd hm] using h1 e he
    · rw [List.filter_cons_of_neg hd]
      exact ih h2

/-- A lawful store keeps a TLB consistent. -/
theorem TlbLawful.consistent {c : Option Nat} {old new : List TlbEntry} (h : TlbLawful c old new) (ho : TlbConsistent old) :
    TlbConsistent new := by
  obtain ⟨⟨ins, kept, rfl, hk, -, hi, hx⟩, -⟩ := h
  intro q x y
  have h1 := matches_le_one hi q x y
  have h2 := (List.Sublist.filter (tlbMatches q x y) hk).length_le.trans (ho q x y)
  rw [List.filter_append, List.length_append]
  by_contra hlt
  have ha : 0 < (ins.filter (tlbMatches q x y)).length := by omega
  have hb : 0 < (kept.filter (tlbMatches q x y)).length := by omega
  obtain ⟨d, hd⟩ := List.exists_mem_of_length_pos ha
  obtain ⟨e, he⟩ := List.exists_mem_of_length_pos hb
  rw [List.mem_filter] at hd he
  simpa [conflict_of_matches hd.2 he.2] using hx d hd.1 e he.1

/-- What a lawful store installs makes no address match two entries. -/
theorem TlbLawful.installsLawfully {c : Option Nat} {old new : List TlbEntry} (h : TlbLawful c old new) :
    InstallsLawfully old new := by
  obtain ⟨⟨ins, kept, rfl, hk, -, hi, hx⟩, -⟩ := h
  intro d hd hold e he hne q x y hm
  have hc := conflict_of_matches hm.1 hm.2
  have hins : d ∈ ins := (List.mem_append.mp hd).resolve_right fun hd => hold (hk.subset hd)
  rcases List.mem_append.mp he with he | he
  · simpa [hc] using not_conflict_of_pairwise hi hins he hne
  · simpa [hc] using hx d hins e he

/-- The constraints on both TLBs, whatever the register stored to. -/
theorem mmuStxa_lawful {m : Mmu} {asi : Byte} {va v : DWord} (k : { n : Mmu // MmuStxaLawful m asi va v n }) :
    TlbLawful Config.itlbEntries m.itlb k.val.itlb ∧ TlbLawful Config.dtlbEntries m.dtlb k.val.dtlb :=
  ⟨k.property.1, k.property.2.1⟩

end Sys2Proof.Machine
end

