-- ==== Sys2Proof/Tests/Slice0.lean ====
section
/-! SUPPORT. Tests. Their words and expected values come from spec/opcode_table.json and spec/95_test_vectors.md, written out by hand
or by the masks of the table, never by the encoder. The last part gives each obligation with hypotheses a state and operands that
meet them all together. -/

namespace Sys2Proof.Tests

open Sys2Proof Sys2Proof.Machine

set_option Elab.async false

/-! ### Decoding: one word of every constructor, its fields at the places the table gives -/

/-- Each word decodes to the instruction beside it. -/
abbrev DecodesTo (l : List (Word × Instr)) : Prop := l.map (fun p => decode p.1) = l.map (fun p => .ok p.2)

theorem test_decode_add_to_subccc : DecodesTo
  [(0x86007FFC, .add 3 1 (.imm 0x1ffc)), (0x8A808003, .addcc 5 2 (.reg 3)), (0x8E08FFFA, .and 7 3 (.imm 0x1ffa)),
   (0x92890005, .andcc 9 4 (.reg 5)), (0x96117FFB, .or 0xb 5 (.imm 0x1ffb)), (0x86918007, .orcc 3 6 (.reg 7)),
   (0x8A19FFFC, .xor 5 7 (.imm 0x1ffc)), (0x8E984009, .xorcc 7 1 (.reg 9)), (0x9220BFFA, .sub 9 2 (.imm 0x1ffa)),
   (0x96A0C00B, .subcc 0xb 3 (.reg 0xb)), (0x86293FFB, .andn 3 4 (.imm 0x1ffb)), (0x8AA94002, .andncc 5 5 (.reg 2)),
   (0x8E31BFFC, .orn 7 6 (.imm 0x1ffc)), (0x92B1C004, .orncc 9 7 (.reg 4)), (0x96387FFA, .xnor 0xb 1 (.imm 0x1ffa)),
   (0x86B88006, .xnorcc 3 2 (.reg 6)), (0x8A40FFFB, .addc 5 3 (.imm 0x1ffb)), (0x8EC10008, .addccc 7 4 (.reg 8)),
   (0x92617FFC, .subc 9 5 (.imm 0x1ffc)), (0x96E1800A, .subccc 0xb 6 (.reg 0xa))] := rfl

theorem test_decode_mulx_to_tsubcctv : DecodesTo
  [(0x8649FFFA, .mulx 3 7 (.imm 0x1ffa)), (0x8B68400C, .sdivx 5 1 (.reg 0xc)), (0x8E68BFFB, .udivx 7 2 (.imm 0x1ffb)),
   (0x9250C003, .umul 9 3 (.reg 3)), (0x96593FFC, .smul 0xb 4 (.imm 0x1ffc)), (0x86D14005, .umulcc 3 5 (.reg 5)),
   (0x8AD9BFFA, .smulcc 5 6 (.imm 0x1ffa)), (0x8E71C007, .udiv 7 7 (.reg 7)), (0x92787FFB, .sdiv 9 1 (.imm 0x1ffb)),
   (0x96F08009, .udivcc 0xb 2 (.reg 9)), (0x86F8FFFC, .sdivcc 3 3 (.imm 0x1ffc)),
   (0x8B21000B, .mulscc 5 4 (.reg 0xb)), (0x8F017FFA, .taddcc 7 5 (.imm 0x1ffa)),
   (0x93118002, .taddcctv 9 6 (.reg 2)), (0x9709FFFB, .tsubcc 0xb 7 (.imm 0x1ffb)),
   (0x87184004, .tsubcctv 3 1 (.reg 4))] := rfl

theorem test_decode_sll_to_popc : DecodesTo
  [(0x8B28A01E, .sll 5 2 (.imm 0x1e)), (0x8F28D006, .sllx 7 3 (.reg 6)), (0x9331201E, .srl 9 4 (.imm 0x1e)),
   (0x97315008, .srlx 0xb 5 (.reg 8)), (0x8739A01E, .sra 3 6 (.imm 0x1e)), (0x8B39D00A, .srax 5 7 (.reg 0xa)),
   (0x0F3FFFFE, .sethi 7 0x3ffffe), (0x01000000, .nop), (0x97703FFA, .popc 0xb (.imm 0x1ffa))] := rfl

theorem test_decode_mova_to_movvs : DecodesTo
  [(0x87660003, .mova 3 .icc (.reg 3)), (0x8B6437F1, .movn 5 .xcc (.imm 0x7f1)), (0x8F664005, .movne 7 .icc (.reg 5)),
   (0x936477F3, .move 9 .xcc (.imm 0x7f3)), (0x97668007, .movg 0xb .icc (.reg 7)),
   (0x8764B7F0, .movle 3 .xcc (.imm 0x7f0)), (0x8B66C009, .movge 5 .icc (.reg 9)),
   (0x8F64F7F2, .movl 7 .xcc (.imm 0x7f2)), (0x9367000B, .movgu 9 .icc (.reg 0xb)),
   (0x976537F4, .movleu 0xb .xcc (.imm 0x7f4)), (0x87674002, .movcc 3 .icc (.reg 2)),
   (0x8B6577F1, .movcs 5 .xcc (.imm 0x7f1)), (0x8F678004, .movpos 7 .icc (.reg 4)),
   (0x9365B7F3, .movneg 9 .xcc (.imm 0x7f3)), (0x9767C006, .movvc 0xb .icc (.reg 6)),
   (0x8765F7F0, .movvs 3 .xcc (.imm 0x7f0))] := rfl

theorem test_decode_movfa_to_movfo : DecodesTo
  [(0x8B620808, .movfa 5 1 (.reg 8)), (0x8F6037F2, .movfn 7 2 (.imm 0x7f2)), (0x9361D80A, .movfu 9 3 (.reg 0xa)),
   (0x9761A7F4, .movfg 0xb 0 (.imm 0x7f4)), (0x8761480C, .movfug 3 1 (.reg 0xc)),
   (0x8B6137F1, .movfl 5 2 (.imm 0x7f1)), (0x8F60D803, .movful 7 3 (.reg 3)), (0x9360A7F3, .movflg 9 0 (.imm 0x7f3)),
   (0x97604805, .movfne 0xb 1 (.reg 5)), (0x876277F0, .movfe 3 2 (.imm 0x7f0)), (0x8B629807, .movfue 5 3 (.reg 7)),
   (0x8F62E7F2, .movfge 7 0 (.imm 0x7f2)), (0x93630809, .movfuge 9 1 (.reg 9)),
   (0x976377F4, .movfle 0xb 2 (.imm 0x7f4)), (0x8763980B, .movfule 3 3 (.reg 0xb)),
   (0x8B63E7F1, .movfo 5 0 (.imm 0x7f1))] := rfl

theorem test_decode_movrz_to_movrgez : DecodesTo
  [(0x8F784402, .movrz 7 1 (.reg 2)), (0x9378AA04, .movrlez 9 2 (.imm 0x204)), (0x9778CC04, .movrlz 0xb 3 (.reg 4)),
   (0x87793601, .movrnz 3 4 (.imm 0x201)), (0x8B795806, .movrgz 5 5 (.reg 6)), (0x8F79BE03, .movrgez 7 6 (.imm 0x203))] := rfl

theorem test_decode_ba_to_bvs : DecodesTo
  [(0x10BFFFF3, .ba 0 0x3ffff3), (0x20BFFFF4, .bn 1 0x3ffff4), (0x12BFFFF5, .bne 0 0x3ffff5),
   (0x22BFFFF6, .be 1 0x3ffff6), (0x14BFFFF7, .bg 0 0x3ffff7), (0x24BFFFF8, .ble 1 0x3ffff8),
   (0x16BFFFF9, .bge 0 0x3ffff9), (0x26BFFFFA, .bl 1 0x3ffffa), (0x18BFFFFB, .bgu 0 0x3ffffb),
   (0x28BFFFFC, .bleu 1 0x3ffffc), (0x1ABFFFFD, .bcc 0 0x3ffffd), (0x2ABFFFFE, .bcs 1 0x3ffffe),
   (0x1CBFFFFF, .bpos 0 0x3fffff), (0x2CBFFFF0, .bneg 1 0x3ffff0), (0x1EBFFFF1, .bvc 0 0x3ffff1),
   (0x2EBFFFF2, .bvs 1 0x3ffff2)] := rfl

theorem test_decode_bpa_to_bpvs : DecodesTo
  [(0x104C0004, .bpa 0 .icc 1 0x40004), (0x20640005, .bpn 1 .xcc 0 0x40005), (0x124C0006, .bpne 0 .icc 1 0x40006),
   (0x22640007, .bpe 1 .xcc 0 0x40007), (0x144C0008, .bpg 0 .icc 1 0x40008), (0x24640009, .bple 1 .xcc 0 0x40009),
   (0x164C000A, .bpge 0 .icc 1 0x4000a), (0x2664000B, .bpl 1 .xcc 0 0x4000b), (0x184C000C, .bpgu 0 .icc 1 0x4000c),
   (0x2864000D, .bpleu 1 .xcc 0 0x4000d), (0x1A4C000E, .bpcc 0 .icc 1 0x4000e), (0x2A64000F, .bpcs 1 .xcc 0 0x4000f),
   (0x1C4C0010, .bppos 0 .icc 1 0x40010), (0x2C640001, .bpneg 1 .xcc 0 0x40001), (0x1E4C0002, .bpvc 0 .icc 1 0x40002),
   (0x2E640003, .bpvs 1 .xcc 0 0x40003)] := rfl

theorem test_decode_brz_to_call : DecodesTo
  [(0x02E91238, .brz 0 1 4 0x9238), (0x24E15235, .brlez 1 0 5 0x9235), (0x06E99236, .brlz 0 1 6 0x9236),
   (0x2AE1D237, .brnz 1 0 7 0x9237), (0x0CE85238, .brgz 0 1 1 0x9238), (0x2EE09235, .brgez 1 0 2 0x9235),
   (0x6ABCDEF1, .call 0x2abcdef1)] := rfl

theorem test_decode_fba_to_fbo : DecodesTo
  [(0x31BFFFFA, .fba 1 0x3ffffa), (0x01BFFFFB, .fbn 0 0x3ffffb), (0x2FBFFFFC, .fbu 1 0x3ffffc),
   (0x0DBFFFFD, .fbg 0 0x3ffffd), (0x2BBFFFFE, .fbug 1 0x3ffffe), (0x09BFFFFF, .fbl 0 0x3fffff),
   (0x27BFFFF0, .fbul 1 0x3ffff0), (0x05BFFFF1, .fblg 0 0x3ffff1), (0x23BFFFF2, .fbne 1 0x3ffff2),
   (0x13BFFFF3, .fbe 0 0x3ffff3), (0x35BFFFF4, .fbue 1 0x3ffff4), (0x17BFFFF5, .fbge 0 0x3ffff5),
   (0x39BFFFF6, .fbuge 1 0x3ffff6), (0x1BBFFFF7, .fble 0 0x3ffff7), (0x3DBFFFF8, .fbule 1 0x3ffff8),
   (0x1FBFFFF9, .fbo 0 0x3ffff9)] := rfl

theorem test_decode_fbpa_to_jmpl : DecodesTo
  [(0x3164000B, .fbpa 1 2 0 0x4000b), (0x017C000C, .fbpn 0 3 1 0x4000c), (0x2F44000D, .fbpu 1 0 0 0x4000d),
   (0x0D5C000E, .fbpg 0 1 1 0x4000e), (0x2B64000F, .fbpug 1 2 0 0x4000f), (0x097C0010, .fbpl 0 3 1 0x40010),
   (0x27440001, .fbpul 1 0 0 0x40001), (0x055C0002, .fbplg 0 1 1 0x40002), (0x23640003, .fbpne 1 2 0 0x40003),
   (0x137C0004, .fbpe 0 3 1 0x40004), (0x35440005, .fbpue 1 0 0 0x40005), (0x175C0006, .fbpge 0 1 1 0x40006),
   (0x39640007, .fbpuge 1 2 0 0x40007), (0x1B7C0008, .fbple 0 3 1 0x40008), (0x3D440009, .fbpule 1 0 0 0x40009),
   (0x1F5C000A, .fbpo 0 1 1 0x4000a), (0x002ABCDE, .illtrap 0x2abcde), (0x87C08003, .jmpl 3 2 (.reg 3))] := rfl

theorem test_decode_return_to_return : DecodesTo
  [(0x81C8FFFC, .return_ 3 (.imm 0x1ffc))] := rfl

theorem test_decode_ta_to_retry : DecodesTo
  [(0x91D10005, .ta .icc 4 (.reg 5)), (0x81D17083, .tn .xcc 5 (.imm 0x83)), (0x93D18007, .tne .icc 6 (.reg 7)),
   (0x83D1F083, .te .xcc 7 (.imm 0x83)), (0x95D04009, .tg .icc 1 (.reg 9)), (0x85D0B083, .tle .xcc 2 (.imm 0x83)),
   (0x97D0C00B, .tge .icc 3 (.reg 0xb)), (0x87D13083, .tl .xcc 4 (.imm 0x83)), (0x99D14002, .tgu .icc 5 (.reg 2)),
   (0x89D1B083, .tleu .xcc 6 (.imm 0x83)), (0x9BD1C004, .tcc .icc 7 (.reg 4)), (0x8BD07083, .tcs .xcc 1 (.imm 0x83)),
   (0x9DD08006, .tpos .icc 2 (.reg 6)), (0x8DD0F083, .tneg .xcc 3 (.imm 0x83)), (0x9FD10008, .tvc .icc 4 (.reg 8)),
   (0x8FD17083, .tvs .xcc 5 (.imm 0x83)), (0x81F00000, .done), (0x83F00000, .retry)] := rfl

theorem test_decode_ldsb_to_ldx : DecodesTo
  [(0xC648400C, .ldsb 3 1 (.reg 0xc)), (0xCA50BFFA, .ldsh 5 2 (.imm 0x1ffa)), (0xCE40C003, .ldsw 7 3 (.reg 3)),
   (0xD2093FFB, .ldub 9 4 (.imm 0x1ffb)), (0xD6114005, .lduh 0xb 5 (.reg 5)), (0xC601BFFC, .lduw 3 6 (.imm 0x1ffc)),
   (0xCA59C007, .ldx 5 7 (.reg 7))] := rfl

theorem test_decode_ldsba_to_stxa : DecodesTo
  [(0xCEC86012, .ldsba 7 1 (.imm 0x12)), (0xD2D09109, .ldsha 9 2 (.reg 9 0x88)),
   (0xD6C0E011, .ldswa 0xb 3 (.imm 0x11)), (0xC689110B, .lduba 3 4 (.reg 0xb 0x88)),
   (0xCA916010, .lduha 5 5 (.imm 0x10)), (0xCE819102, .lduwa 7 6 (.reg 2 0x88)), (0xD2D9E012, .ldxa 9 7 (.imm 0x12)),
   (0xD6184004, .ldtw 0xb 1 (.reg 4)), (0xC698A011, .ldtwa 3 2 (.imm 0x11)), (0xCA98C4C6, .ldtxa 5 3 6 0x26),
   (0xCE293FFC, .stb 7 4 (.imm 0x1ffc)), (0xD2314008, .sth 9 5 (.reg 8)), (0xD621BFFA, .stw 0xb 6 (.imm 0x1ffa)),
   (0xC671C00A, .stx 3 7 (.reg 0xa)), (0xCAA86011, .stba 5 1 (.imm 0x11)), (0xCEB0910C, .stha 7 2 (.reg 0xc 0x88)),
   (0xD2A0E010, .stwa 9 3 (.imm 0x10)), (0xD6F11103, .stxa 0xb 4 (.reg 3 0x88))] := rfl

theorem test_decode_sttw_to_ldfsr : DecodesTo
  [(0xC6397FFA, .sttw 3 5 (.imm 0x1ffa)), (0xCAB99105, .sttwa 5 6 (.reg 5 0x88)),
   (0xCE69FFFB, .ldstub 7 7 (.imm 0x1ffb)), (0xD2E85107, .ldstuba 9 1 (.reg 7 0x88)),
   (0xD678BFFC, .swap 0xb 2 (.imm 0x1ffc)), (0xC6F8D109, .swapa 3 3 (.reg 9 0x88)),
   (0xCBE1200A, .casa 5 4 0xa .asiReg), (0xCFF1500B, .casxa 7 5 0xb (.imm 0x80)),
   (0xC369BFFB, .prefetch 1 6 (.imm 0x1ffb)), (0xC3E9D102, .prefetcha 1 7 (.reg 2 0x88)), (0x8143E059, .membar 5 9),
   (0x8143C000, .stbar), (0x81D8FFFA, .flush 3 (.imm 0x1ffa)), (0xD3010006, .ldf 9 4 (.reg 6)),
   (0xD7197FFB, .lddf 0xb 5 (.imm 0x1ffb)), (0xC3098008, .ldxfsr 6 (.reg 8)), (0xCB11FFFC, .ldqf 5 7 (.imm 0x1ffc)),
   (0xC108400A, .ldfsr 1 (.reg 0xa))] := rfl

theorem test_decode_ldfa_to_restore : DecodesTo
  [(0xD380A012, .ldfa 9 2 (.imm 0x12)), (0xD798D10C, .lddfa 0xb 3 (.reg 0xc 0x88)),
   (0xC7912011, .ldqfa 3 4 (.imm 0x11)), (0xE1995E03, .ldblockf 0x10 5 3 0xf0), (0xCF999A04, .ldshortf 7 6 4 0xd0),
   (0xD321C005, .stf 9 7 (.reg 5)), (0xD7387FFA, .stdf 0xb 1 (.imm 0x1ffa)), (0xC3288007, .stxfsr 2 (.reg 7)),
   (0xCB30FFFB, .stqf 5 3 (.imm 0x1ffb)), (0xC1290009, .stfsr 4 (.reg 9)), (0xD3A16010, .stfa 9 5 (.imm 0x10)),
   (0xD7B9910B, .stdfa 0xb 6 (.reg 0xb 0x88)), (0xE1B9DF0C, .stblockf 0x10 7 0xc 0xf8),
   (0xCBB85B02, .stshortf 5 1 2 0xd8), (0xCFB89803, .stpartialf 7 2 3 0xc0), (0xD3B0D104, .stqfa 9 3 (.reg 4 0x88)),
   (0x97E13FFC, .save 0xb 4 (.imm 0x1ffc)), (0x87E94006, .restore 3 5 (.reg 6))] := rfl

theorem test_decode_saved_to_flushw : DecodesTo
  [(0x81880000, .saved), (0x83880000, .restored), (0x85880000, .allclean), (0x87880000, .otherw),
   (0x89880000, .normalw), (0x8B880000, .invalw), (0x81580000, .flushw)] := rfl

theorem test_decode_rdy_to_rdstick_cmpr : DecodesTo
  [(0x93400000, .rdy 9), (0x97408000, .rdccr 0xb), (0x8740C000, .rdasi 3), (0x8B410000, .rdtick 5),
   (0x8F414000, .rdpc 7), (0x93418000, .rdfprs 9), (0x97440000, .rdpcr 0xb), (0x87444000, .rdpic 3),
   (0x8B44C000, .rdgsr 5), (0x8F458000, .rdsoftint 7), (0x9345C000, .rdtick_cmpr 9), (0x97460000, .rdstick 0xb),
   (0x87464000, .rdstick_cmpr 3)] := rfl

theorem test_decode_wry_to_wrhpr : DecodesTo
  [(0x81817FFB, .wry 5 (.imm 0x1ffb)), (0x85818006, .wrccr 6 (.reg 6)), (0x8781FFFC, .wrasi 7 (.imm 0x1ffc)),
   (0x8D804008, .wrfprs 1 (.reg 8)), (0xA180BFFA, .wrpcr 2 (.imm 0x1ffa)), (0xA380C00A, .wrpic 3 (.reg 0xa)),
   (0xA7813FFB, .wrgsr 4 (.imm 0x1ffb)), (0xA981400C, .wrsoftint_set 5 (.reg 0xc)),
   (0xAB81BFFC, .wrsoftint_clr 6 (.imm 0x1ffc)), (0xAD81C003, .wrsoftint 7 (.reg 3)),
   (0xAF807FFA, .wrtick_cmpr 1 (.imm 0x1ffa)), (0xB1808005, .wrstick 2 (.reg 5)),
   (0xB380FFFB, .wrstick_cmpr 3 (.imm 0x1ffb)), (0x9F803234, .sir 0x1234), (0x87518000, .rdpr 3 6),
   (0x8B918009, .wrpr 5 6 (.reg 9)), (0x8F49C000, .rdhpr 7 7), (0x9398400B, .wrhpr 9 1 (.reg 0xb))] := rfl

theorem test_decode_shutdown_to_impdep2b : DecodesTo
  [(0x81B01000, .shutdown), (0x87B0FFE2, .impdep1 3 3 0x1ff 2), (0x8BBD5E03, .impdep2a 5 0xabc 3),
   (0x8FBD5E44, .impdep2b 7 0xabc 2 4)] := rfl

theorem test_decode_fadds_to_fsqrtq : DecodesTo
  [(0x93A18825, .fadds 9 6 5), (0x97A1C846, .faddd 0xb 7 6), (0x87A04867, .faddq 3 1 7), (0x8BA088A8, .fsubs 5 2 8),
   (0x8FA0C8C9, .fsubd 7 3 9), (0x93A108EA, .fsubq 9 4 0xa), (0x97A1492B, .fmuls 0xb 5 0xb),
   (0x87A1894C, .fmuld 3 6 0xc), (0x8BA1C962, .fmulq 5 7 2), (0x8FA049A3, .fdivs 7 1 3), (0x93A089C4, .fdivd 9 2 4),
   (0x97A0C9E5, .fdivq 0xb 3 5), (0x87A10D26, .fsmuld 3 4 6), (0x8BA14DC7, .fdmulq 5 5 7), (0x8FA00528, .fsqrts 7 8),
   (0x93A00549, .fsqrtd 9 9), (0x97A0056A, .fsqrtq 0xb 0xa)] := rfl

theorem test_decode_fcmps_to_fcmpeq : DecodesTo
  [(0x87A88A2B, .fcmps 3 2 0xb), (0x81A8CA4C, .fcmpd 0 3 0xc), (0x83A90A62, .fcmpq 1 4 2),
   (0x85A94AA3, .fcmpes 2 5 3), (0x87A98AC4, .fcmped 3 6 4), (0x81A9CAE5, .fcmpeq 0 7 5)] := rfl

theorem test_decode_fitos_to_fmovd : DecodesTo
  [(0x8BA01886, .fitos 5 6), (0x8FA01907, .fitod 7 7), (0x93A01988, .fitoq 9 8), (0x97A01089, .fxtos 0xb 9),
   (0x87A0110A, .fxtod 3 0xa), (0x8BA0118B, .fxtoq 5 0xb), (0x8FA0102C, .fstox 7 0xc), (0x93A01042, .fdtox 9 2),
   (0x97A01063, .fqtox 0xb 3), (0x87A01A24, .fstoi 3 4), (0x8BA01A45, .fdtoi 5 5), (0x8FA01A66, .fqtoi 7 6),
   (0x93A01927, .fstod 9 7), (0x97A019A8, .fstoq 0xb 8), (0x87A018C9, .fdtos 3 9), (0x8BA019CA, .fdtoq 5 0xa),
   (0x8FA018EB, .fqtos 7 0xb), (0x93A0196C, .fqtod 9 0xc), (0x97A00022, .fmovs 0xb 2), (0x87A00043, .fmovd 3 3)] := rfl

theorem test_decode_fmovq_to_fabsq : DecodesTo
  [(0x8BA00064, .fmovq 5 4), (0x8FA000A5, .fnegs 7 5), (0x93A000C6, .fnegd 9 6), (0x97A000E7, .fnegq 0xb 7),
   (0x87A00128, .fabss 3 8), (0x8BA00149, .fabsd 5 9), (0x8FA0016A, .fabsq 7 0xa)] := rfl

theorem test_decode_fmovsicc_to_fmovqfcc : DecodesTo
  [(0x93ABA02B, .fmovsicc 9 0xe 0xb), (0x97A8E04C, .fmovdicc 0xb 3 0xc), (0x87AA2062, .fmovqicc 3 8 2),
   (0x8BAB7023, .fmovsxcc 5 0xd 3), (0x8FA8B044, .fmovdxcc 7 2 4), (0x93A9F065, .fmovqxcc 9 7 5),
   (0x97AB1026, .fmovsfcc 0xb 0xc 2 6), (0x87A85847, .fmovdfcc 3 1 3 7), (0x8BA98068, .fmovqfcc 5 6 0 8)] := rfl

theorem test_decode_fmovrsz_to_fmovrqgez : DecodesTo
  [(0x8FA884A9, .fmovrsz 7 2 9), (0x93A8C8AA, .fmovrslez 9 3 0xa), (0x97A90CAB, .fmovrslz 0xb 4 0xb),
   (0x87A954AC, .fmovrsnz 3 5 0xc), (0x8BA998A2, .fmovrsgz 5 6 2), (0x8FA9DCA3, .fmovrsgez 7 7 3),
   (0x93A844C4, .fmovrdz 9 1 4), (0x97A888C5, .fmovrdlez 0xb 2 5), (0x87A8CCC6, .fmovrdlz 3 3 6),
   (0x8BA914C7, .fmovrdnz 5 4 7), (0x8FA958C8, .fmovrdgz 7 5 8), (0x93A99CC9, .fmovrdgez 9 6 9),
   (0x97A9C4EA, .fmovrqz 0xb 7 0xa), (0x87A848EB, .fmovrqlez 3 1 0xb), (0x8BA88CEC, .fmovrqlz 5 2 0xc),
   (0x8FA8D4E2, .fmovrqnz 7 3 2), (0x93A918E3, .fmovrqgz 9 4 3), (0x97A95CE4, .fmovrqgez 0xb 5 4)] := rfl

theorem test_decode_alignaddress_to_edge16n : DecodesTo
  [(0x87B18305, .alignaddress 3 6 5), (0x8BB1C346, .alignaddress_little 5 7 6), (0x8FB04907, .faligndata 7 1 7),
   (0x93B08328, .bmask 9 2 8), (0x97B0C989, .bshuffle 0xb 3 9), (0x87B1000A, .edge8cc 3 4 0xa),
   (0x8BB1404B, .edge8lcc 5 5 0xb), (0x8FB1808C, .edge16cc 7 6 0xc), (0x93B1C0C2, .edge16lcc 9 7 2),
   (0x97B04103, .edge32cc 0xb 1 3), (0x87B08144, .edge32lcc 3 2 4), (0x8BB0C025, .edge8n 5 3 5),
   (0x8FB10066, .edge8ln 7 4 6), (0x93B140A7, .edge16n 9 5 7)] := rfl

theorem test_decode_edge16ln_to_fcmpeq32 : DecodesTo
  [(0x97B180E8, .edge16ln 0xb 6 8), (0x87B1C129, .edge32n 3 7 9), (0x8BB0416A, .edge32ln 5 1 0xa),
   (0x8FB0820B, .array8 7 2 0xb), (0x93B0C24C, .array16 9 3 0xc), (0x97B10282, .array32 0xb 4 2),
   (0x87B14403, .fcmple16 3 5 3), (0x8BB18444, .fcmpne16 5 6 4), (0x8FB1C485, .fcmple32 7 7 5),
   (0x93B044C6, .fcmpne32 9 1 6), (0x97B08507, .fcmpgt16 0xb 2 7), (0x87B0C548, .fcmpeq16 3 3 8),
   (0x8BB10589, .fcmpgt32 5 4 9), (0x8FB145CA, .fcmpeq32 7 5 0xa)] := rfl

theorem test_decode_fpadd16_to_fsrc1s : DecodesTo
  [(0x93B18A0B, .fpadd16 9 6 0xb), (0x97B1CA2C, .fpadd16s 0xb 7 0xc), (0x87B04A42, .fpadd32 3 1 2),
   (0x8BB08A63, .fpadd32s 5 2 3), (0x8FB0CA84, .fpsub16 7 3 4), (0x93B10AA5, .fpsub16s 9 4 5),
   (0x97B14AC6, .fpsub32 0xb 5 6), (0x87B18AE7, .fpsub32s 3 6 7), (0x8BB00C00, .fzero 5), (0x8FB00C20, .fzeros 7),
   (0x93B00FC0, .fone 9), (0x97B00FE0, .fones 0xb), (0x87B10E80, .fsrc1 3 4), (0x8BB14EA0, .fsrc1s 5 5)] := rfl

theorem test_decode_fsrc2_to_fnands : DecodesTo
  [(0x8FB00F03, .fsrc2 7 3), (0x93B00F24, .fsrc2s 9 4), (0x97B04D40, .fnot1 0xb 1), (0x87B08D60, .fnot1s 3 2),
   (0x8BB00CC7, .fnot2 5 7), (0x8FB00CE8, .fnot2s 7 8), (0x93B14F89, .for_ 9 5 9), (0x97B18FAA, .fors 0xb 6 0xa),
   (0x87B1CC4B, .fnor 3 7 0xb), (0x8BB04C6C, .fnors 5 1 0xc), (0x8FB08E02, .fand 7 2 2), (0x93B0CE23, .fands 9 3 3),
   (0x97B10DC4, .fnand 0xb 4 4), (0x87B14DE5, .fnands 3 5 5)] := rfl

theorem test_decode_fxor_to_fexpand : DecodesTo
  [(0x8BB18D86, .fxor 5 6 6), (0x8FB1CDA7, .fxors 7 7 7), (0x93B04E48, .fxnor 9 1 8), (0x97B08E69, .fxnors 0xb 2 9),
   (0x87B0CF4A, .fornot1 3 3 0xa), (0x8BB10F6B, .fornot1s 5 4 0xb), (0x8FB14ECC, .fornot2 7 5 0xc),
   (0x93B18EE2, .fornot2s 9 6 2), (0x97B1CD03, .fandnot1 0xb 7 3), (0x87B04D24, .fandnot1s 3 1 4),
   (0x8BB08C85, .fandnot2 5 2 5), (0x8FB0CCA6, .fandnot2s 7 3 6), (0x81B01025, .siam 5), (0x97B009A8, .fexpand 0xb 8)] := rfl

theorem test_decode_fmul8x16_to_pdist : DecodesTo
  [(0x87B18629, .fmul8x16 3 6 9), (0x8BB1C66A, .fmul8x16au 5 7 0xa), (0x8FB046AB, .fmul8x16al 7 1 0xb),
   (0x93B086CC, .fmul8sux16 9 2 0xc), (0x97B0C6E2, .fmul8ulx16 0xb 3 2), (0x87B10703, .fmuld8sux16 3 4 3),
   (0x8BB14724, .fmuld8ulx16 5 5 4), (0x8FB00765, .fpack16 7 5), (0x93B1C746, .fpack32 9 7 6),
   (0x97B007A7, .fpackfix 0xb 7), (0x87B08968, .fpmerge 3 2 8), (0x8BB0C7C9, .pdist 5 3 9)] := rfl
/-! ### One step of each family, on the vectors of spec/95_test_vectors.md -/

/-- The premises of spec/95: nonprivileged, TL = 0, FPU enabled, the MMU on with one page over addresses 0 to 256 M. -/
def page : TlbEntry := ⟨false, 0, 0, 0, .p256M, 0, false, false, false, true, true, false, true, true⟩

/-- See `page`; TBA is 0x400000 and HTBA 0x80000000, as in section 60 of the file. -/
def user : State :=
  { State.reset with
    pc := 0x1000, npc := 0x1004, tl := 0, gl := 0, asi := 0x80, tba := 0x80, htba := 0x20000
    pstate := ⟨false, false, false, true, false, false, true⟩
    hpstate := ⟨false, false, false, false⟩
    fprs := ⟨true, false, false⟩
    win := ⟨0, 6, 0, 7, 0, 0, 0⟩
    mmu := { Mmu.afterPor with immuEnable := true, dmmuEnable := true, itlb := [page], dtlb := [page] } }

/-- The same in privileged mode. -/
def priv : State := { user with pstate := { user.pstate with priv := true } }

/-- The same in hyperprivileged mode. -/
def hyper : State := { user with hpstate := ⟨false, false, true, false⟩ }

/-- The FPU off. -/
def noFpu : State := { user with fprs := ⟨false, false, false⟩ }

/-- Registers set. -/
def withR (s : State) (l : List (BitVec 5 × DWord)) : State := l.foldl (fun u p => setR u p.1 p.2) s

/-- Single registers set, by field. -/
def withFS (s : State) (l : List (BitVec 5 × Word)) : State := l.foldl (fun u p => { setFS u p.1 p.2 with fprs := s.fprs }) s

/-- Double registers set, by field. -/
def withFD (s : State) (l : List (BitVec 5 × DWord)) : State := l.foldl (fun u p => { setFD u p.1 p.2 with fprs := s.fprs }) s

/-- A doubleword of memory set. -/
def withMem (s : State) (a v : DWord) : State := { s with memory := writeMem s.paWidth s.memory a 8 false v }

/-- CCR from its image's bits, the most significant first. -/
def ccrOf (n z v c n' z' v' c' : Bool) : Ccr := ⟨⟨n, z, v, c⟩, ⟨n', z', v', c'⟩⟩

/-- What is seen of a next state. -/
noncomputable def seen {α : Type} (f : State → α) (s : State) (w : Word) : Option α :=
  match runWord s w with
  | .next t => some (f t)
  | _ => none

/-- Trap type, TL and PC after a trap. -/
def trapSeen (t : State) : Nat × Nat × Nat := ((frameAt t t.tl).tt.toNat, t.tl.toNat, t.pc.toNat)

/-- R[3] and CCR after a word run on R[1] and R[2], with icc.c as given. -/
noncomputable def alu (p : Word × DWord × DWord × Bool) : Option (DWord × Nat) :=
  seen (fun t => (getR t 3, ccrImage t.ccr))
    { withR user [(1, p.2.1), (2, p.2.2.1)] with ccr := ccrOf false false false false false false false p.2.2.2 } p.1

theorem test_add_sub_flags :
    [(0x86804002#32, 0x7FFFFFFFFFFFFFFF#64, 1#64, false), (0x86804002, 0xFFFFFFFFFFFFFFFF, 1, false),
      (0x86804002, 0xFFFFFFFF, 1, false), (0x86804002, 0x80000000, 0x80000000, false),
      (0x86804002, 0x8000000000000000, 0x8000000000000000, false), (0x86A04002, 0, 1, false),
      (0x86A04002, 0x80000000, 1, false), (0x86A04002, 0x8000000000000000, 1, false), (0x86A04002, 5, 5, false),
      (0x86A04002, 0x100000000, 1, false), (0x86A04002, 1, 0xFFFFFFFFFFFFFFFF, false),
      (0x86A04002, 0x7FFFFFFFFFFFFFFF, 0xFFFFFFFFFFFFFFFF, false), (0x86C04002, 0xFFFFFFFFFFFFFFFF, 0, true),
      (0x86404002, 0xFFFFFFFF, 0, true), (0x86E04002, 0, 0, true), (0x86E04002, 0x100000000, 0xFFFFFFFF, true)].map alu
    = [some (0x8000000000000000, 0xA5), some (0, 0x55), some (0x100000000, 0x05), some (0x100000000, 0x07), some (0, 0x74),
      some (0xFFFFFFFFFFFFFFFF, 0x99), some (0x7FFFFFFF, 0x02), some (0x7FFFFFFFFFFFFFFF, 0x29), some (0, 0x44),
      some (0xFFFFFFFF, 0x09), some (2, 0x11), some (0x8000000000000000, 0xB4), some (0, 0x55), some (0x100000000, 0x01),
      some (0xFFFFFFFFFFFFFFFF, 0x99), some (0, 0x45)] := by decide +kernel

theorem test_logic :
    ([0x86884002, 0x86A84002, 0x86904002, 0x86B04002, 0x86984002, 0x86B84002].map fun w =>
      alu (w, 0xFF00FF00FF00FF00, 0x0FF00FF00FF00FF0, true))
    = [some (0x0F000F000F000F00, 0), some (0xF000F000F000F000, 0x88), some (0xFFF0FFF0FFF0FFF0, 0x88),
      some (0xFF0FFF0FFF0FFF0F, 0x88), some (0xF0F0F0F0F0F0F0F0, 0x88), some (0x0F0F0F0F0F0F0F0F, 0)] := by decide +kernel

theorem test_tagged :
    [(0x87004002#32, 4#64, 8#64, false), (0x87004002, 5, 8, false), (0x87004002, 0x7FFFFFFC, 4, false),
      (0x87084002, 8, 4, false), (0x87084002, 8, 6, false), (0x87084002, 0x80000000, 4, false), (0x87104002, 4, 8, false),
      (0x87184002, 8, 4, false)].map alu
    = [some (0xC, 0), some (0xD, 2), some (0x80000000, 0xA), some (4, 0), some (2, 2), some (0x7FFFFFFC, 2), some (0xC, 0),
      some (4, 0)] := by decide +kernel

theorem test_tagged_trap :
    ([0x87104002, 0x87184002].map fun w => seen trapSeen (withR user [(1, 5), (2, 8)]) w)
    = [some (0x23, 1, 0x400460), some (0x23, 1, 0x400460)] := by decide +kernel

theorem test_shifts :
    ([0x85286001, 0x85284003, 0x85306001, 0x85306000, 0x85386001, 0x85386000].map fun w =>
      seen (fun t => getR t 2) (withR user [(1, 0xFFFFFFFF80000001), (3, 33)]) w)
    = [some 0xFFFFFFFF00000002, some 0xFFFFFFFF00000002, some 0x40000000, some 0x80000001, some 0xFFFFFFFFC0000000,
      some 0xFFFFFFFF80000001]
    ∧ ([0x8528703F, 0x8530703F, 0x8538703F, 0x85387001].map fun w =>
      seen (fun t => getR t 2) (withR user [(1, 0x8000000000000001)]) w)
    = [some 0x8000000000000000, some 1, some 0xFFFFFFFFFFFFFFFF, some 0xC000000000000000] := by decide +kernel

/-- R[3], Y and CCR after a word run on R[1], R[2] and Y. -/
noncomputable def mul (p : Word × DWord × DWord) : Option (DWord × Word × Nat) :=
  seen (fun t => (getR t 3, t.y, ccrImage t.ccr)) (withR user [(1, p.2.1), (2, p.2.2)]) p.1

theorem test_multiply :
    [(0x86484002#32, 0xFFFFFFFFFFFFFFFF#64, 2#64), (0x86484002, 0x100000000, 0x100000000),
      (0x86504002, 0x5FFFFFFFF, 0x7FFFFFFFF), (0x86584002, 0xFFFFFFFF, 0xFFFFFFFF), (0x86584002, 0x80000000, 2),
      (0x86D84002, 0xFFFFFFFF, 2), (0x86D04002, 0x80000000, 2)].map mul
    = [some (0xFFFFFFFFFFFFFFFE, 0, 0), some (0, 0, 0), some (0xFFFFFFFE00000001, 0xFFFFFFFE, 0), some (1, 0, 0),
      some (0xFFFFFFFF00000000, 0xFFFFFFFF, 0), some (0xFFFFFFFFFFFFFFFE, 0xFFFFFFFF, 0x88),
      some (0x100000000, 1, 0x04)] := by decide +kernel

/-- R[3] and icc.v after a divide of Y and R[1] by R[2]. -/
noncomputable def div (p : Word × Word × DWord × DWord) : Option (DWord × Bool) :=
  seen (fun t => (getR t 3, t.ccr.icc.v)) { withR user [(1, p.2.2.1), (2, p.2.2.2)] with y := p.2.1 } p.1

theorem test_divide :
    [(0x86704002#32, 0#32, 11#64, 4#64), (0x86784002, 0xFFFFFFFF, 0xFFFFFFF9, 4), (0x86704002, 1, 0, 2), (0x86704002, 2, 0, 2),
      (0x86784002, 0, 0x80000000, 1), (0x86784002, 0xFFFFFFFF, 0x80000000, 1), (0x86784002, 0xFFFFFFFF, 0, 1),
      (0x86F84002, 0, 0x80000000, 1), (0x86F04002, 2, 0, 2), (0x87684002, 0, 0xFFFFFFFFFFFFFFF9, 2),
      (0x87684002, 0, 0x8000000000000000, 0xFFFFFFFFFFFFFFFF), (0x86684002, 0, 0xFFFFFFFFFFFFFFFF, 2)].map div
    = [some (2, false), some (0xFFFFFFFFFFFFFFFF, false), some (0x80000000, false), some (0xFFFFFFFF, false),
      some (0x7FFFFFFF, false), some (0xFFFFFFFF80000000, false), some (0xFFFFFFFF80000000, false), some (0x7FFFFFFF, true),
      some (0xFFFFFFFF, true), some (0xFFFFFFFFFFFFFFFD, false), some (0x8000000000000000, false),
      some (0x7FFFFFFFFFFFFFFF, false)] := by decide +kernel

theorem test_division_by_zero :
    ([0x86704002, 0x86784002, 0x86F04002, 0x86F84002].map fun w =>
      seen (fun t => (trapSeen t, getR { t with gl := 0 } 3)) (withR user [(2, 0x100000000), (3, 7)]) w)
    = List.replicate 4 (some ((0x28, 1, 0x400500), 7))
    ∧ ([0x86686000, 0x87686000].map fun w => seen trapSeen user w) = List.replicate 2 (some (0x28, 1, 0x400500)) := by
  decide +kernel

theorem test_multiply_step :
    [(false, 3#64, 5#64, 1#32), (true, 0, 5, 6), (false, 0xFFFFFFFE, 0x80000000, 1)].map (fun p =>
      seen (fun t => (t.y, binary [t.ccr.icc.n, t.ccr.icc.z, t.ccr.icc.v, t.ccr.icc.c]))
        { withR user [(1, p.2.1), (2, p.2.2.1)] with y := p.2.2.2, ccr := ccrOf false false false false p.1 false false false }
        0x87204002)
    = [some (0x80000000, 0), some (3, 8), some (0, 8)] := by decide +kernel

theorem test_sethi_and_moves :
    seen (fun t => getR t 1) user 0x033FFFFF = some 0xFFFFFC00
    ∧ seen (fun t => getR t 8) user 0x112AF344 = some 0xABCD1000
    ∧ seen (fun t => getR t 8) (withR user [(8, 0x5432EC00)]) 0x901A3E34 = some 0xFFFFFFFFABCD1234
    ∧ ([ccrOf false true false false false false false false, ccrOf false false false false false true false false].map fun c =>
      seen (fun t => getR t 2) { withR user [(1, 9), (2, 7)] with ccr := c } 0x85664001) = [some 9, some 7]
    ∧ ([0, 1, 2, 3].map fun f => seen (fun t => getR t 2) { withR user [(2, 7)] with fsr := { user.fsr with fcc2 := f } } 0x8560F7FF)
      = [some 7, some 0xFFFFFFFFFFFFFFFF, some 7, some 0xFFFFFFFFFFFFFFFF]
    ∧ ([0x8000000000000000, 0].map fun a => seen (fun t => getR t 2) (withR user [(1, a), (2, 7)]) 0x85786E00)
      = [some 0xFFFFFFFFFFFFFE00, some 7] := by decide +kernel

/-- PC and NPC after a control transfer. -/
def pcs (t : State) : DWord × DWord := (t.pc, t.npc)

theorem test_integer_branches :
    ([0x30800002, 0x10800002, 0x20800005, 0x12BFFFFC, 0x34680003, 0x02C84004, 0x04800004].map fun w => seen pcs user w)
    = [some (0x1008, 0x100C), some (0x1004, 0x1008), some (0x1008, 0x100C), some (0x1004, 0xFF0), some (0x1004, 0x100C),
      some (0x1004, 0x1010), some (0x1004, 0x1008)]
    ∧ ([0x12BFFFFC, 0x34680003].map fun w => seen pcs { user with ccr := ccrOf false true false false false true false false } w)
      = [some (0x1004, 0x1008), some (0x1008, 0x100C)]
    ∧ seen pcs { user with ccr := ccrOf false false false true false false false false } 0x0A67FFFF = some (0x1004, 0xFFC)
    ∧ seen pcs { user with ccr := ccrOf false false false false true false true false } 0x04800004 = some (0x1004, 0x1008)
    ∧ seen pcs (withR user [(8, 0x8000000000000000)]) 0x2EE20000 = some (0x1008, 0x100C)
    ∧ seen pcs (withR user [(1, 1)]) 0x0AD87FFF = some (0x1004, 0x20FFC) := by decide +kernel

theorem test_fp_branches :
    ([0, 1].map fun f => seen pcs { user with fsr := { user.fsr with fcc0 := f } } 0x03800004)
      = [some (0x1004, 0x1008), some (0x1004, 0x1010)]
    ∧ seen pcs { user with fsr := { user.fsr with fcc0 := 2 } } 0x3D800004 = some (0x1008, 0x100C)
    ∧ seen pcs { user with fsr := { user.fsr with fcc3 := 1 } } 0x3B780003 = some (0x1004, 0x100C)
    ∧ seen pcs { user with fsr := { user.fsr with fcc1 := 3 } } 0x0F500004 = some (0x1004, 0x1010)
    ∧ seen trapSeen { user with fprs := ⟨false, false, false⟩ } 0x03800004 = some (0x20, 1, 0x400400) := by decide +kernel

theorem test_call_jmpl_return :
    seen (fun t => (pcs t, getR t 15)) user 0x4000000F = some ((0x1004, 0x103C), 0x1000)
    ∧ seen (fun t => (pcs t, getR t 15)) { user with pc := 0x100001000, npc := 0x100001004, pstate := { user.pstate with am := true } } 0x4000000F
      = some ((0x100001004, 0x10000103C), 0x1000)
    ∧ seen (fun t => (pcs t, getR t 15)) (withR user [(1, 0x3000), (2, 4)]) 0x9FC04002 = some ((0x1004, 0x3004), 0x1000)
    ∧ seen trapSeen (withR user [(1, 0x3000), (2, 2)]) 0x9FC04002 = some (0x34, 1, 0x80000680)
    ∧ seen (fun t => (pcs t, t.win.cwp, t.win.canrestore, t.win.cansave)) (withR { user with win := ⟨1, 5, 1, 7, 0, 0, 0⟩ } [(31, 0x8004)]) 0x81CFE008
      = some ((0x1004, 0x800C), 0, 0, 6)
    ∧ seen (fun t => (trapSeen t, t.win.cwp)) (withR { user with win := ⟨1, 6, 0, 7, 0, 0, 2⟩ } [(31, 0x8002)]) 0x81CFE008
      = some ((0xC8, 1, 0x401900), 0)
    ∧ seen (fun t => (trapSeen t, t.win.cwp)) (withR { user with win := ⟨1, 5, 1, 7, 0, 0, 2⟩ } [(31, 0x8002)]) 0x81CFE008
      = some ((0x34, 1, 0x80000680), 1) := by decide +kernel

theorem test_trap_on_condition :
    ([0x91D02005, 0x91D02083].map fun w => seen trapSeen user w) = [some (0x105, 1, 0x4020A0), some (0x103, 1, 0x402060)]
    ∧ ([0x91D02005, 0x91D02083].map fun w => seen trapSeen hyper w) = [some (0x105, 1, 0x800020A0), some (0x183, 1, 0x80003060)]
    ∧ seen trapSeen priv 0x91D02083 = some (0x183, 1, 0x80003060)
    ∧ seen pcs { user with ccr := ccrOf false true false false false false false false } 0x93D07003 = some (0x1004, 0x1008)
    ∧ seen trapSeen (withR user [(1, 0x7E)]) 0x93D07003 = some (0x101, 1, 0x402020)
    ∧ seen trapSeen (withR user [(1, 0x100), (2, 0x20)]) 0x91D04002 = some (0x120, 1, 0x402400)
    ∧ seen pcs user 0x81D02001 = some (0x1004, 0x1008) := by decide +kernel

/-- The frame of the DONE and RETRY vectors, at TL = 1. -/
def inHandler (gl : BitVec 3) : State :=
  { setFrame priv 1 ⟨0x4000, 0x4001, ⟨gl, ccrOf false true false false false true false false, 0x80,
    ⟨false, false, false, true, false, false, true⟩, 3⟩, 0x105, ⟨false, false, false, false⟩, false⟩ with tl := 1, gl := 1, asi := 0x11 }

theorem test_done_retry :
    ([0x81F00000, 0x83F00000].map fun w =>
      seen (fun t => (pcs t, [t.tl.toNat, t.gl.toNat, ccrImage t.ccr, t.asi.toNat, pstateImage t.pstate, t.win.cwp.toNat])) (inHandler 0) w)
      = [some ((0x10004, 0x10008), [0, 0, 0x44, 0x80, 0x012, 3]), some ((0x10000, 0x10004), [0, 0, 0x44, 0x80, 0x012, 3])]
    ∧ seen (fun t => t.gl) (inHandler 3) 0x81F00000 = some 2
    ∧ seen trapSeen user 0x81F00000 = some (0x11, 1, 0x400220)
    ∧ seen trapSeen priv 0x83F00000 = some (0x10, 1, 0x80000200) := by decide +kernel

/-- A RETRY in a delay slot, interrupted and reached again by the handler's RETRY, is refused as it was before (log entry 15). -/
theorem test_retry_resumes_delay_slot :
    (match exec .retry (takeTrap { inHandler 0 with delaySlot := true } .fpDisabled) with
      | .next t => some (match exec .retry t with | .refused r => some r | _ => none)
      | _ => none) = some (some .doneRetryInDelaySlot) := by decide +kernel

/-- Memory and registers of the load vectors. -/
def loads (s : State) : State := withR (withMem s 0x20000 0x0123456789ABCDEF) [(1, 0x20000)]

theorem test_loads :
    ([0xC4086001, 0xC4486004, 0xC4106002, 0xC4506004, 0xC4006004, 0xC4406004, 0xC4584003, 0xC4805100, 0xC4D85100].map fun w =>
      seen (fun t => getR t 2) (loads user) w)
    = [some 0x23, some 0xFFFFFFFFFFFFFF89, some 0x4567, some 0xFFFFFFFFFFFF89AB, some 0x89ABCDEF, some 0xFFFFFFFF89ABCDEF,
      some 0x0123456789ABCDEF, some 0x67452301, some 0xEFCDAB8967452301]
    ∧ ([0xC4886000, 0xC4906000, 0xC4C06004, 0xC4C86000, 0xC4D06000].map fun w => seen (fun t => getR t 2) { loads user with asi := 0x88 } w)
      = [some 0x01, some 0x2301, some 0xFFFFFFFFEFCDAB89, some 0x01, some 0x2301]
    ∧ ([0xC4186000, 0xC4985100].map fun w => seen (fun t => (getR t 2, getR t 3)) (loads user) w)
      = [some (0x01234567, 0x89ABCDEF), some (0x67452301, 0xEFCDAB89)] := by decide +kernel

theorem test_load_endianness :
    ([(true, false), (false, true), (true, true)].map fun p =>
      seen (fun t => getR t 2)
        { loads user with
          pstate := { user.pstate with cle := p.1 }
          mmu := { user.mmu with dtlb := [{ page with ie := p.2 }] } } 0xC4006000)
    = [some 0x67452301, some 0x67452301, some 0x01234567] := by decide +kernel

theorem test_load_traps :
    ([0xC4106001, 0xC4586004, 0xC6186000, 0xC4186004, 0xC4804080].map fun w => seen (fun t => (frameAt t 1).tt.toNat) (loads user) w)
      = [some 0x34, some 0x34, some 0x10, some 0x34, some 0x37]
    ∧ seen (fun t => (frameAt t 1).tt.toNat) (loads priv) 0xC4804600 = some 0x37
    ∧ seen (fun t => (frameAt t 1).tt.toNat) { loads user with mmu := { user.mmu with dtlb := [{ page with e := true }] } } 0xC4805040 = some 0x30 := by
  decide +kernel

/-- Eight bytes at 0x20000 after a store of R[2]. -/
noncomputable def stored (w : Word) : Option DWord :=
  seen (fun t => readMem t.paWidth t.memory 0x20000 8 false)
    (withR user [(1, 0x20000), (2, 0x1122334455667788), (3, 0xAAAAAAAABBBBBBBB)]) w

theorem test_stores :
    [0xC4286007, 0xC4306006, 0xC4206004, 0xC4706000, 0xC4F05100, 0xC4A05100, 0xC4386000, 0xC4B85100].map stored
    = [some 0x88, some 0x7788, some 0x55667788, some 0x1122334455667788, some 0x8877665544332211, some 0x8877665500000000,
      some 0x55667788BBBBBBBB, some 0x88776655BBBBBBBB]
    ∧ [0xC4A86007, 0xC4B06006].map stored = [some 0x88, some 0x7788] := by decide +kernel

theorem test_store_traps :
    seen (fun t => ((frameAt t 1).tt.toNat, t.memory.length)) (withR user [(1, 0x20000), (2, 1)]) 0xC4206002 = some (0x34, 0)
    ∧ seen (fun t => ((frameAt t 1).tt.toNat, t.memory.length))
        { withR user [(1, 0x20000), (2, 1)] with mmu := { user.mmu with dtlb := [{ page with w := false }] } } 0xC4206000 = some (0x6C, 0)
    ∧ seen (fun t => ((frameAt t 1).tt.toNat, t.memory.length)) (withR user [(1, 0x20000), (2, 1)]) 0xC4A85040 = some (0x30, 0) := by
  decide +kernel

/-- R[2] and the doubleword at 0x20000 after an atomic access. -/
noncomputable def atomic (p : Word × DWord × DWord × DWord) : Option (DWord × DWord) :=
  seen (fun t => (getR t 2, readMem t.paWidth t.memory 0x20000 8 false))
    (withR (withMem user 0x20000 p.2.1) [(1, 0x20000), (2, p.2.2.1), (3, p.2.2.2)]) p.1

theorem test_atomics :
    [(0xC4686000#32, 0#64, 7#64, 0#64), (0xC4686000, 0xFF00000000000000, 7, 0), (0xC4786000, 0xCAFEBABE00000000, 0x1122334455667788, 0),
      (0xC5E05003, 0x500000000, 0xAAAAAAAABBBBBBBB, 0xFFFFFFFF00000005), (0xC5E05003, 0x500000000, 0xBBBBBBBB, 6),
      (0xC5E05103, 0x0500000000000000, 0x11223344, 5), (0xC5F05003, 0, 1, 0), (0xC5E06003, 0x500000000, 0xAAAAAAAABBBBBBBB, 5),
      (0xC4E85000, 0, 7, 0), (0xC4F85000, 0xCAFEBABE00000000, 0x1122334455667788, 0)].map atomic
    = [some (0, 0xFF00000000000000), some (0xFF, 0xFF00000000000000), some (0xCAFEBABE, 0x5566778800000000),
      some (5, 0xBBBBBBBB00000000), some (5, 0x500000000), some (5, 0x4433221100000000), some (0, 1),
      some (5, 0xBBBBBBBB00000000), some (0, 0xFF00000000000000), some (0xCAFEBABE, 0x5566778800000000)] := by decide +kernel

theorem test_prefetch_and_barriers :
    ([0xC1686000, 0xC9686000, 0xE1686000, 0xC3E85000, 0x8143E001, 0x8143E07F, 0x8143C000, 0x81D86008, 0x81580000].map fun w =>
      seen pcs user w) = List.replicate 9 (some (0x1004, 0x1008))
    ∧ seen trapSeen user 0xCB686000 = some (0x10, 1, 0x80000200) := by decide +kernel

/-- Memory of the floating-point load vectors. -/
def fpLoads : State := withR (withMem (withMem user 0x20000 0x3FF0000000000000) 0x20008 0x4000000000000000) [(1, 0x20000)]

theorem test_fp_loads :
    seen (fun t => (getFS t 1, t.fprs.dl)) (withFS fpLoads [(1, 5)]) 0xC3006004 = some (0, true)
    ∧ seen (fun t => (getFD t 2, getFS t 2, t.fprs.dl)) fpLoads 0xC5186008 = some (0x4000000000000000, 0x40000000, true)
    ∧ seen (fun t => (getFD t 1, t.fprs.du)) fpLoads 0xC3186000 = some (0x3FF0000000000000, true)
    ∧ ([0xC5186004, 0xC5186002, 0xC9106000].map fun w => seen (fun t => (frameAt t 1).tt.toNat) fpLoads w)
      = [some 0x35, some 0x34, some 0x10]
    ∧ seen (fun t => ((frameAt t 1).tt.toNat, t.fprs.dl)) { fpLoads with fprs := ⟨false, false, false⟩ } 0xC3006000 = some (0x20, true)
    ∧ seen (fun t => (t.fsr.fcc3, t.fsr.fcc0, t.fsr.rd, t.fsr.tem, t.fsr.ftt)) (withMem fpLoads 0x20000 0xFFFFFFFFFFFFFFFF) 0xC3086000
      = some (3, 3, 3, ⟨true, true, true, true, true⟩, 0)
    ∧ seen (fun t => (t.fsr.fcc3, t.fsr.fcc0, t.fsr.rd, t.fsr.ftt)) (withMem fpLoads 0x20000 0xFFFFFFFFFFFFFFFF) 0xC1086000
      = some (0, 3, 3, 0) := by decide +kernel

theorem test_fp_stores :
    ([0xC5B85100, 0xC5386000, 0xC5206000].map fun w =>
      seen (fun t => readMem t.paWidth t.memory 0x20000 8 false) (withFD (withR user [(1, 0x20000)]) [(2, 0x0011223344556677)]) w)
      = [some 0x7766554433221100, some 0x0011223344556677, some 0x0011223300000000]
    ∧ seen (fun t => (frameAt t 1).tt.toNat) (withR user [(1, 0x20000)]) 0xC5386004 = some 0x36
    ∧ seen (fun t => t.fsr.ftt) { withR user [(1, 0x20000)] with fsr := { user.fsr with ftt := 3 } } 0xC3286000 = some 0 := by decide +kernel

theorem test_block_transfers :
    seen (fun t => (getFDn t 8, getFDn t 9, getFDn t 15, t.fprs.dl))
        (withR (withMem (withMem user 0x20000 0x1111) 0x20038 0x2222) [(1, 0x20000)]) 0xE1985E00 = some (0x1111, 0, 0x2222, true)
    ∧ seen (fun t => (readMem t.paWidth t.memory 0x20000 8 false, readMem t.paWidth t.memory 0x20038 8 false))
        (withFD (withR user [(1, 0x20000)]) [(0x11, 0x0102030405060708), (0x1F, 0x1122334455667788)]) 0xE3B85F00
      = some (0x0807060504030201, 0x8877665544332211)
    ∧ ([0xC5985E00, 0xC5985A00, 0xC5B85803].map fun w => seen (fun t => (frameAt t 1).tt.toNat) (withR user [(1, 0x20000)]) w)
      = [some 0x10, some 0x30, some 0x30]
    ∧ seen (fun t => (frameAt t 1).tt.toNat) (withR user [(1, 0x20020)]) 0xE1985E00 = some 0x34 := by decide +kernel

/-- CWP, CANSAVE, CANRESTORE, OTHERWIN, CLEANWIN and the trap type of frame 1. -/
def windowsSeen (t : State) : List Nat :=
  [t.win.cwp.toNat, t.win.cansave.toNat, t.win.canrestore.toNat, t.win.otherwin.toNat, t.win.cleanwin.toNat, (frameAt t 1).tt.toNat]

theorem test_save :
    [(⟨0, 6, 0, 7, 0, 0, 0⟩ : WindowRegs), ⟨7, 3, 3, 7, 0, 0, 0⟩, ⟨2, 0, 6, 7, 0, 0, 1⟩, ⟨2, 0, 4, 7, 2, 3, 1⟩, ⟨2, 3, 3, 3, 0, 0, 0⟩].map
      (fun w => seen windowsSeen { user with win := w } 0x9DE3BFA0)
    = [some [1, 5, 1, 0, 7, 0], some [0, 2, 4, 0, 7, 0], some [4, 0, 6, 0, 7, 0x84], some [4, 0, 4, 2, 7, 0xAC],
      some [3, 3, 3, 0, 3, 0x24]]
    ∧ seen (fun t => (getR t 14, getR t 30)) (withR user [(14, 0x1000)]) 0x9DE3BFA0 = some (0x0FA0, 0x1000) := by decide +kernel

theorem test_restore :
    seen windowsSeen { user with win := ⟨1, 5, 1, 7, 0, 0, 0⟩ } 0x81E80000 = some [0, 6, 0, 0, 7, 0]
    ∧ seen (fun t => (t.win.cwp, getR t 8)) (withR { user with win := ⟨1, 5, 1, 7, 0, 0, 0⟩ } [(9, 9)]) 0x91E80009 = some (0, 9)
    ∧ seen windowsSeen { user with win := ⟨1, 6, 0, 7, 0, 0, 0⟩ } 0x81E80000 = some [0, 6, 0, 0, 7, 0xC0] := by decide +kernel

theorem test_saved_restored_flushw :
    [(⟨1, 0, 6, 7, 0, 0, 0⟩ : WindowRegs), ⟨1, 0, 4, 7, 2, 0, 0⟩].map (fun w => seen windowsSeen { priv with win := w } 0x81880000)
      = [some [1, 1, 5, 0, 7, 0], some [1, 1, 4, 1, 7, 0]]
    ∧ [(⟨1, 6, 0, 3, 0, 0, 0⟩ : WindowRegs), ⟨1, 6, 0, 7, 0, 0, 0⟩].map (fun w => seen windowsSeen { priv with win := w } 0x83880000)
      = [some [1, 5, 1, 0, 4, 0], some [1, 5, 1, 0, 7, 0]]
    ∧ seen windowsSeen { user with win := ⟨2, 3, 3, 7, 0, 0, 2⟩ } 0x81580000 = some [7, 3, 3, 0, 7, 0x88]
    ∧ seen trapSeen user 0x81880000 = some (0x11, 1, 0x400220) := by decide +kernel

theorem test_state_register_reads :
    seen (fun t => getR t 1) { user with y := 0xDEADBEEF } 0x83400000 = some 0xDEADBEEF
    ∧ seen (fun t => getR t 1) { user with ccr := ccrOf true false false true true false false true } 0x83408000 = some 0x99
    ∧ ([false, true].map fun am => seen (fun t => getR t 1) { user with pc := 0x100004000, pstate := { user.pstate with am := am } } 0x83414000)
      = [some 0x100004000, some 0x4000]
    ∧ seen (fun t => (frameAt t 1).tt.toNat) { user with tick := ⟨true, 0x1234⟩ } 0x83410000 = some 0x37
    ∧ seen (fun t => getR t 1) { user with tick := ⟨false, 0x1234⟩ } 0x83410000 = some 0x1234
    ∧ seen (fun t => (frameAt t 1).tt.toNat) { user with fprs := ⟨false, false, false⟩ } 0x8344C000 = some 0x20
    ∧ seen (fun t => getR t 1) { setFrame priv 1 { TrapFrame.zero with tt := 0x105 } with tl := 1 } 0x8350C000 = some 0x105
    ∧ ([(priv, 0x83500000), (user, 0x83500000), (priv, 0x8353C000), (priv, 0x83480000)].map fun p =>
      seen (fun t => (frameAt t 1).tt.toNat) p.1 p.2) = [some 0x10, some 0x11, some 0x10, some 0x10]
    ∧ seen (fun t => getR t 1) hyper 0x83480000 = some 4 := by decide +kernel

theorem test_state_register_writes :
    seen (fun t => t.y) (withR user [(1, 0xF0), (2, 0x0F)]) 0x81804002 = some 0xFF
    ∧ seen (fun t => t.y) (withR user [(1, 0x55), (2, 0x55)]) 0x81804002 = some 0
    ∧ seen (fun t => ccrImage t.ccr) user 0x85802044 = some 0x44 ∧ seen (fun t => t.asi) user 0x87802088 = some 0x88
    ∧ seen (fun t => t.fprs) user 0x8D802004 = some ⟨true, false, false⟩
    ∧ seen (fun t => t.softint) { withR priv [(1, 0x10000)] with softint := 2 } 0xA9806000 = some 0x10002
    ∧ seen (fun t => t.softint) { withR priv [(1, 2)] with softint := 0x10002 } 0xAB806000 = some 0x10000
    ∧ seen (fun t => t.tl) priv 0x8F902005 = some 2 ∧ seen (fun t => t.tl) hyper 0x8F902009 = some 1
    ∧ seen (fun t => t.gl) hyper 0xA1902007 = some 3 ∧ seen (fun t => t.gl) priv 0xA1902007 = some 2
    ∧ seen (fun t => t.win.cwp) priv 0x93902003 = some 3 ∧ seen (fun t => pstateImage t.pstate) priv 0x8D902006 = some 6
    ∧ ([(hyper, 0x8D986000), (hyper, 0x81B01000), (user, 0x81B80000), (user, 0x81B80020), (priv, 0x9F802000)].map fun p =>
      seen (fun t => (frameAt t 1).tt.toNat) p.1 p.2) = List.replicate 5 (some 0x10) := by decide +kernel

/-- F_S[3], FSR.cexc and FPRS.dl after a single-precision operation on F_S[1] and F_S[2]. -/
noncomputable def single (p : Word × BitVec 2 × Word × Word) : Option (Word × Nat) :=
  seen (fun t => (getFS t 3, ieeeImage t.fsr.cexc))
    { withFS user [(1, p.2.2.1), (2, p.2.2.2)] with fsr := { user.fsr with rd := p.2.1 } } p.1

theorem test_fp_single :
    [(0x87A04822#32, 0#2, 0x3F800000#32, 0x40000000#32), (0x87A04822, 0, 0x7F800000, 0xFF800000),
      (0x87A04822, 0, 0x7FC00001, 0x7FC00002), (0x87A04822, 0, 0x7F800001, 0x7FC00002), (0x87A048A2, 0, 0x40400000, 0x40400000),
      (0x87A048A2, 3, 0x40400000, 0x40400000), (0x87A04922, 0, 0x7F7FFFFF, 0x40000000), (0x87A04922, 1, 0x7F7FFFFF, 0x40000000),
      (0x87A04922, 0, 0x00800000, 0x3F000000), (0x87A04922, 0, 0x00800001, 0x3F000000), (0x87A049A2, 0, 0x3F800000, 0x40400000),
      (0x87A049A2, 0, 0x3F800000, 0), (0x87A049A2, 0, 0, 0)].map single
    = [some (0x40400000, 0), some (0x7FFFFFFF, 0x10), some (0x7FC00002, 0), some (0x7FC00001, 0x10), some (0, 0),
      some (0x80000000, 0), some (0x7F800000, 9), some (0x7F7FFFFF, 9), some (0x00400000, 0), some (0x00400000, 5),
      some (0x3EAAAAAB, 1), some (0x7F800000, 2), some (0x7FFFFFFF, 0x10)] := by decide +kernel

theorem test_fp_double :
    seen (fun t => (getFD t 4, ieeeImage t.fsr.cexc)) (withFD user [(0, 0x3FB999999999999A), (2, 0x3FC999999999999A)]) 0x89A00842
      = some (0x3FD3333333333334, 1)
    ∧ seen (fun t => getFD t 4) (withFS user [(1, 0x3FC00000), (2, 0x40000000)]) 0x89A04D22 = some 0x4008000000000000
    ∧ seen (fun t => (getFS t 3, ieeeImage t.fsr.cexc))
        { withFS user [(1, 0x3F800000), (2, 0x33800000)] with gsr := { user.gsr with im := true, irnd := 2 } } 0x87A04822 = some (0x3F800001, 1)
    := by decide +kernel

/-- The trap type, FSR.ftt, cexc and aexc after a trapping FMULs. -/
noncomputable def trapping (tem : IeeeFlags) : Option (Nat × BitVec 3 × Nat × Nat) :=
  seen (fun t => ((frameAt t 1).tt.toNat, t.fsr.ftt, ieeeImage t.fsr.cexc, ieeeImage t.fsr.aexc))
    { withFS user [(1, 0x7F7FFFFF), (2, 0x40000000)] with fsr := { user.fsr with tem := tem } } 0x87A04922

theorem test_fp_traps :
    trapping ⟨false, true, false, false, false⟩ = some (0x21, 1, 8, 0)
    ∧ trapping ⟨false, false, false, false, true⟩ = some (0x21, 1, 1, 0)
    ∧ ([0x91A00864, 0x81A00000, 0x87A00522].map fun w => seen (fun t => ((frameAt t 1).tt.toNat, t.fsr.ftt)) user w)
      = List.replicate 3 (some (0x22, 3)) := by decide +kernel

theorem test_fp_conversions :
    ([0x85A01881, 0x85A01901].map fun w => seen (fun t => getFD t 2) (withFS user [(1, 0xFFFFFFFF)]) w) = [some 0xBF80000000000000, some 0xBFF0000000000000]
    ∧ ([0, 2].map fun r => seen (fun t => getFS t 2) { withFS user [(1, 0x01000001)] with fsr := { user.fsr with rd := r } } 0x85A01881)
      = [some 0x4B800000, some 0x4B800001]
    ∧ seen (fun t => getFS t 1) (withFD user [(2, 0x7FFFFFFFFFFFFFFF)]) 0x83A01082 = some 0x5F000000
    ∧ seen (fun t => getFD t 4) (withFD user [(2, 0x0020000000000001)]) 0x89A01102 = some 0x4340000000000000
    ∧ seen (fun t => getFD t 2) (withFS user [(1, 0xC0200000)]) 0x85A01021 = some 0xFFFFFFFFFFFFFFFE
    ∧ seen (fun t => (getFD t 4, ieeeImage t.fsr.cexc)) (withFD user [(2, 0x43E0000000000000)]) 0x89A01042 = some (0x7FFFFFFFFFFFFFFF, 0x10)
    ∧ ([0x40200000, 0x7FC00000, 0xFF800000].map fun a => seen (fun t => (getFS t 2, ieeeImage t.fsr.cexc)) (withFS user [(1, a)]) 0x85A01A21)
      = [some (2, 1), some (0x7FFFFFFF, 0x10), some (0x80000000, 0x10)]
    ∧ seen (fun t => (getFS t 1, ieeeImage t.fsr.cexc)) (withFD user [(2, 0xC1E0000000100000)]) 0x83A01A42 = some (0x80000000, 1)
    ∧ ([0x3FC00000, 1, 0x7F800001].map fun a => seen (fun t => getFD t 2) (withFS user [(1, a)]) 0x85A01921)
      = [some 0x3FF8000000000000, some 0x36A0000000000000, some 0x7FF8000020000000]
    ∧ seen (fun t => (getFS t 1, ieeeImage t.fsr.cexc)) (withFD user [(2, 0x47F0000000000000)]) 0x83A018C2 = some (0x7F800000, 9) := by decide +kernel

theorem test_fp_compares :
    [(0x83A80A22#32, 0x3F800000#32, 0x40000000#32), (0x83A80A22, 0, 0x80000000), (0x83A80A22, 0x7FC00000, 0x3F800000),
      (0x83A80A22, 0x7F800001, 0x3F800000), (0x83A80AA2, 0x7FC00000, 0x3F800000)].map (fun p =>
      seen (fun t => (t.fsr.fcc1, ieeeImage t.fsr.cexc)) (withFS user [(0, p.2.1), (2, p.2.2)]) p.1)
    = [some (1, 0), some (0, 0), some (3, 0), some (3, 0x10), some (3, 0x10)]
    ∧ seen (fun t => t.fsr.fcc3) (withFD user [(0, 0x4000000000000000), (2, 0x3FF0000000000000)]) 0x87A80A42 = some 2 := by decide +kernel

theorem test_fp_moves :
    ([0x83A00020, 0x83A000A0, 0x83A00120].map fun w =>
      seen (fun t => (getFS t 1, ieeeImage t.fsr.cexc)) { withFS user [(0, 0xFFC00001)] with fsr := { user.fsr with cexc := ⟨true, true, true, true, true⟩ } } w)
      = [some (0xFFC00001, 0), some (0x7FC00001, 0), some (0x7FC00001, 0)]
    ∧ ([2, 1].map fun f => seen (fun t => (getFD t 22, t.fprs.dl)) { withFD user [(20, 9), (22, 7)] with fsr := { user.fsr with fcc2 := f } } 0xADA99054)
      = [some (9, true), some (7, false)]
    ∧ ([0, 1].map fun a => seen (fun t => (getFD t 4, t.fprs.dl)) (withR (withFD user [(2, 9), (4, 7)]) [(1, a)]) 0x89A844C2)
      = [some (9, true), some (7, false)] := by decide +kernel

theorem test_vis_addresses :
    ([0x87B04302, 0x87B04342].map fun w => seen (fun t => (getR t 3, t.gsr.align)) (withR user [(1, 0x1005), (2, 6)]) w)
      = [some (0x1008, 3), some (0x1008, 5)]
    ∧ seen (fun t => (getR t 3, t.gsr.mask)) (withR user [(1, 0x101234567)]) 0x87B04322 = some (0x101234567, 0x01234567)
    ∧ ([0, 1, 2, 3, 4, 5].map fun n => seen (fun t => getR t 3) (withR user [(1, 0x0F80014A00091FFF), (2, n)]) 0x87B04202)
      = [some 0x1F317, some 0x1F317, some 0x11F317, some 0x29F317, some 0x49F317, some 0x89F317]
    ∧ ([0x87B04242, 0x87B04282].map fun w => seen (fun t => getR t 3) (withR user [(1, 0x0F80014A00091FFF)]) w) = [some 0x3E62E, some 0x7CC5C]
    ∧ seen (fun t => getR t 3) (withR user [(1, 0xFFFFFFFFFFFFFFFF), (2, 5)]) 0x87B04202 = some 0x7FFFFFFF
    ∧ seen (fun t => (t.gsr.im, t.gsr.irnd)) user 0x81B01025 = some (true, 1) := by decide +kernel

theorem test_vis_edges :
    [(0x87B04002#32, 0x1003#64, 0x1005#64), (0x87B04002, 0x1003, 0x2005), (0x87B04042, 0x1003, 0x1005), (0x87B04082, 0x1002, 0x1006),
      (0x87B04102, 0x1004, 0x1004), (0x87B04022, 0x1003, 0x1005)].map (fun p =>
      seen (fun t => (getR t 3, ccrImage t.ccr)) (withR user [(1, p.2.1), (2, p.2.2)]) p.1)
    = [some (0x1C, 0x99), some (0x1F, 0x99), some (0x38, 0x99), some (7, 0x99), some (1, 0x44), some (0x1C, 0)]
    ∧ seen (fun t => getR t 3) (withR { user with pstate := { user.pstate with am := true } } [(1, 0x100001003), (2, 0x200001005)]) 0x87B04002
      = some 0x1C := by decide +kernel

theorem test_vis_alignment_and_shuffle :
    ([0, 3, 7].map fun a => seen (fun t => getFD t 4)
        { withFD user [(0, 0x0011223344556677), (2, 0x8899AABBCCDDEEFF)] with gsr := { user.gsr with align := a } } 0x89B00902)
      = [some 0x0011223344556677, some 0x33445566778899AA, some 0x778899AABBCCDDEE]
    ∧ ([0x01234567, 0xFEDCBA98, 0x0F0F1E2D].map fun m => seen (fun t => getFD t 4)
        { withFD user [(0, 0x0011223344556677), (2, 0x8899AABBCCDDEEFF)] with gsr := { user.gsr with mask := m } } 0x89B00982)
      = [some 0x0011223344556677, some 0xFFEEDDCCBBAA9988, some 0x00FF00FF11EE22DD] := by decide +kernel

/-- F_D[4] and R[1] after a VIS instruction on F_D[0] and F_D[2]. -/
noncomputable def vis (p : Word × DWord × DWord) : Option (DWord × DWord) :=
  seen (fun t => (getFD t 4, getR t 1)) (withFD user [(0, p.2.1), (2, p.2.2)]) p.1

theorem test_vis_compares :
    ([0x83B00402, 0x83B00442, 0x83B00502, 0x83B00542].map fun w => vis (w, 0x000180007FFF0000, 0x000100008000FFFF))
      = [some (0, 0xC), some (0, 7), some (0, 3), some (0, 8)]
    ∧ ([0x83B00582, 0x83B005C2, 0x83B00482, 0x83B004C2].map fun w => vis (w, 0x8000000000000001, 0x7FFFFFFF00000001))
      = [some (0, 0), some (0, 1), some (0, 3), some (0, 2)] := by decide +kernel

/-- F_S[3] after a VIS instruction on F_S[1] and F_S[2]. -/
noncomputable def single' (p : Word × Word × Word) : Option Word :=
  seen (fun t => getFS t 3) (withFS user [(1, p.2.1), (2, p.2.2)]) p.1

theorem test_vis_arithmetic_and_logic :
    [(0x89B00A02#32, 0xFFFF7FFF00018000#64, 0x0001000100018000#64), (0x89B00A42, 0xFFFFFFFF7FFFFFFF, 0x0000000100000001),
      (0x89B00A82, 0x0000800000010000, 0x000100010001FFFF), (0x89B00C00, 1, 1), (0x89B00FC0, 1, 1), (0x89B00D40, 0x00FF00FF00FF00FF, 0),
      (0x89B00D02, 0xFF00FF00FF00FF00, 0x0FF00FF00FF00FF0), (0x89B00E42, 0xFF00FF00FF00FF00, 0x0FF00FF00FF00FF0)].map vis
    = [some (0x0000800000020000, 0), some (0x0000000080000000, 0), some (0xFFFF7FFF00000001, 0), some (0, 0),
      some (0xFFFFFFFFFFFFFFFF, 0), some (0xFF00FF00FF00FF00, 0), some (0x00F000F000F000F0, 0), some (0x0F0F0F0F0F0F0F0F, 0)]
    ∧ [(0x87B04A22#32, 0xFFFF8000#32, 0x00028000#32), (0x87B04AE2, 0, 1)].map single'
      = [some 0x00010000, some 0xFFFFFFFF] := by decide +kernel

theorem test_vis_traps :
    ([0x85B009A1, 0x89B04622, 0x89B007C2, 0x83B00762].map fun w => seen (fun t => (frameAt t 1).tt.toNat) user w) = List.replicate 4 (some 0x10)
    ∧ ([0x87B04302, 0x89B00902, 0x83B00402, 0x81B01025].map fun w => seen (fun t => (frameAt t 1).tt.toNat) { user with fprs := ⟨false, false, false⟩ } w)
      = List.replicate 4 (some 0x20) := by decide +kernel

/-! ### Traps, interrupts, translation and reset -/

theorem test_trap_entry_privileged :
    seen (fun t => (trapSeen t, [t.gl.toNat, pstateImage t.pstate, hpstateImage t.hpstate, tstateImage (frameAt t 1).tstate,
        (frameAt t 1).tpc.toNat * 4, (frameAt t 1).tnpc.toNat * 4, t.npc.toNat]))
      { user with pc := 0x10000, npc := 0x10004, ccr := ccrOf false true false false false true false false, win := ⟨3, 6, 0, 7, 0, 0, 0⟩ } 0x91D02005
    = some ((0x105, 1, 0x4020A0), [1, 0x014, 0, 0x4480001203, 0x10000, 0x10004, 0x4020A4])
    ∧ seen (fun t => (pstateImage t.pstate, pstateImage (frameAt t 1).tstate.pstate)) { user with pstate := { user.pstate with tle := true } } 0x91D02005
      = some (0x314, 0x112) := by decide +kernel

theorem test_trap_entry_hyperprivileged :
    seen (fun t => (trapSeen t, t.gl.toNat, pstateImage t.pstate, hpstateImage t.hpstate, pstateImage (frameAt t 2).tstate.pstate))
      { priv with tl := 1, gl := 1, pc := 0x400800, npc := 0x400804 } 0x85880000
      = some ((0x10, 2, 0x80000200), 2, 0x010, 4, 0x016)
    ∧ seen (fun t => (trapSeen t, t.gl.toNat, isHyper t, t.pstate.priv)) { priv with tl := 2, gl := 2, fprs := ⟨false, false, false⟩ } 0x87A04822
      = some ((0x20, 3, 0x80000040), 3, true, false) := by decide +kernel

theorem test_red_state_entry :
    seen (fun t => (trapSeen t, t.gl.toNat, hpstateImage t.hpstate)) { hyper with tl := 5, gl := 3 } 0 = some ((0x10, 6, 0x7FFFF00000A0), 3, 0x24)
    ∧ seen (fun t => (trapSeen t, hpstateImage t.hpstate)) { hyper with tl := 6, gl := 3 } 0x9FC06001 = some ((0x34, 6, 0x7FFFF0000040), 0x24)
    ∧ seen (fun t => (trapSeen t, t.hpstate.red)) { hyper with pc := 0x80001000 } 0x9F802000 = some ((4, 1, 0x7FFFF0000080), true) := by
  decide +kernel

theorem test_interrupt_conditioning :
    pendingTrap { user with softint := 0x20, pil := 5 } = none
    ∧ pendingTrap { user with softint := 0x20, pil := 4 } = some (.interruptLevel 5)
    ∧ pendingTrap { user with softint := 0x8020 } = some (.interruptLevel 15)
    ∧ pendingTrap { hyper with softint := 0x8020 } = none
    ∧ trapSeen (takeTrap user (.interruptLevel 14)) = (0x4E, 1, 0x4009C0)
    ∧ pendingTrap { priv with queues := (priv.queues.set 0 0x40).set 1 0x80 } = some .cpuMondo
    ∧ trapSeen (takeTrap priv .cpuMondo) = (0x7C, 1, 0x400F80)
    ∧ trapSeen (takeTrap user .hstickMatch) = (0x5E, 1, 0x80000BC0) := by decide +kernel

/-- The page of the translation vectors. -/
def page8K : TlbEntry := ⟨false, 0, 0x10, 0x20000, .p8K, 0x8000, false, false, false, true, true, true, true, false⟩

/-- The MMU of the translation vectors. -/
def mapped (s : State) : State := { s with mmu := { s.mmu with primaryContext := 0x10, dtlb := [page8K] } }

theorem test_translation :
    seen (fun t => getR t 2) (withR (withMem (mapped priv) 0x8008 0x77) [(1, 0x20008)]) 0xC4586000 = some 0x77
    ∧ seen (fun t => (frameAt t 1).tt.toNat) (withR (mapped priv) [(1, 0x20008)]) 0xC4706000 = some 0x6C
    ∧ seen (fun t => (frameAt t 1).tt.toNat) (withR (mapped user) [(1, 0x22000)]) 0xC4586000 = some 0x68
    ∧ seen (fun t => (frameAt t 1).tt.toNat) (withR (mapped user) [(1, 0x20008)]) 0xC4586000 = some 0x30
    ∧ seen (fun t => (frameAt t 1).tt.toNat) (withR (mapped priv) [(1, 0x9000)]) 0xC4D84280 = some 0x3F
    ∧ seen (fun t => getR t 2) (withR (withMem hyper 0x8008 0x77) [(1, 0x8008)]) 0xC4586000 = some 0x77 := by decide +kernel

theorem test_asi_registers :
    seen (fun t => bankRead t.scratchpad 3) (withR priv [(1, 0x18), (2, 9)]) 0xC4F04400 = some 9
    ∧ seen (fun t => bankRead t.scratchpad 4) (withR priv [(1, 0x20), (2, 9)]) 0xC4F04400 = some 9
    ∧ ([0x40, 4, 0x1C].map fun a => seen (fun t => (frameAt t 1).tt.toNat) (withR priv [(1, a)]) 0xC4F04400) = [some 0x30, some 0x34, some 0x34]
    ∧ seen (fun t => (frameAt t 1).tt.toNat) (withR user [(1, 0x18)]) 0xC4F04400 = some 0x37
    ∧ seen (fun t => (frameAt t 1).tt.toNat) (withR priv [(1, 0x3C8)]) 0xC4F044A0 = some 0x30
    ∧ seen (fun t => t.cmt.running) (withR hyper [(1, 0x68), (2, 3)]) 0xC4F04820 = some 1
    ∧ seen (fun t => (frameAt t 1).tt.toNat) (withR hyper [(1, 0x58), (2, 3)]) 0xC4F04820 = some 0x30 := by decide +kernel

/-- Strand 3 of a chip with the strands 2 and 3, both in one core. -/
def twoStrands (s : State) : State :=
  { s with chip := ⟨3, 0xC, 1, ⟨0, 16, 32⟩⟩, cmt := ⟨0xC, 0xC, 0xC, 0xC, 0xC, 0, 2⟩ }

/-- STRAND_ID and STRAND_AVAILABLE as rule R1402 and rule R1404 give them; strand 3 parks itself and strand 2 unparks it; strand 2 alone
runs after a power-on reset (rule R1413). -/
theorem test_two_strands :
    seen (fun t => getR t 2) (withR (twoStrands hyper) [(1, 0x10)]) 0xC4D84C60 = some 0x100030003
    ∧ seen (fun t => getR t 2) (withR (twoStrands hyper) [(1, 0)]) 0xC4D84820 = some 0xC
    ∧ seen (fun t => (t.cmt.running, isRunning t, isRunning (otherStrandStores t 0x60 8)))
        (withR (twoStrands hyper) [(1, 0x68), (2, 8)]) 0xC4F04820 = some (4, false, true)
    ∧ seen (fun t => t.cmt.enable) (withR (twoStrands hyper) [(1, 0x20), (2, 0xFB)]) 0xC4F04820 = some 8
    ∧ (State.resetOf 7 (twoStrands hyper).chip).cmt.runningStatus = 4 := by decide +kernel

/-- FLUSH in a strand that is parked and still runs completes the parking (rule R1408); in a running strand it does not. -/
theorem test_flush_completes_parking :
    ([(8, 8), (4, 12), (12, 12)] : List (DWord × DWord)).map (fun p =>
        seen (fun t => t.cmt.runningStatus) { twoStrands user with cmt := ⟨0xC, 0xC, p.1, p.2, 0xC, 0, 2⟩ } 0x81D86000)
      = [some 8, some 4, some 12] := by decide +kernel

/-- Another agent's store is seen by the strand's next load (rule R290); a store that is not one aligned access is none. -/
theorem test_other_agent_stores :
    seen (fun t => getR t 2) (withR (otherAgentStores user 0x8008 4 false 0x77) [(1, 0x8008)]) 0xC4586000 = some 0x7700000000
    ∧ (otherAgentStores user 0x8004 8 false 0x77).memory = user.memory
    ∧ (otherAgentStores user 0x8008 3 false 0x77).memory = user.memory := by decide +kernel

/-- What a delivery to the ID `id` leads to in strand 3, whose ID is 7, with strand 2 of ID `peer` and the strands `enabled`: nothing
changed in memory and the queues (`some true`), or the refusal. -/
def delivery (id peer : BitVec 16) (enabled : DWord) : Bool × Option Refusal :=
  let s : State := { twoStrands user with
    cmt := ⟨enabled, enabled, 4, 4, 0xC, 7, 2⟩, peerIntrIds := Vector.replicate 64 peer }
  match fabricDelivers s id 0 0x1000 512 (Vector.replicate 8 1) with
  | .next t => (decide (t.memory = s.memory) && decide (t.queues = s.queues), none)
  | .fault _ => (false, none)
  | .refused r => (false, some r)

/-- An ID that no strand has is dropped; a parked strand and another strand leave this one's queues as they are; one ID of two strands
and a disabled target are refused (rules R1357, R1462 U13). -/
theorem test_interrupt_delivery :
    delivery 9 5 0xC = (true, none) ∧ delivery 7 5 0xC = (true, none) ∧ delivery 5 5 0xC = (true, none)
    ∧ delivery 7 7 0xC = (false, some .duplicateInterruptId)
    ∧ delivery 7 5 4 = (false, some .interruptToDisabledStrand)
    ∧ intrIdOf (peerStoresIntrId { user with peerIntrIds := Vector.replicate 64 5 } 2 9) 2 = 9
    ∧ strandsWithIntrId (twoStrands { user with peerIntrIds := Vector.replicate 64 5 }) 5 = [2] := by decide +kernel

/-- The packet goes to the eight doublewords from the one given on, the tail 64 bytes on and round at the queue's end. -/
theorem test_packet_stored :
    seen (fun t => getR t 2) (withR (packetStored user 0x1001 (Vector.ofFn fun k => BitVec.ofNat 64 (k.val + 1))) [(1, 0x8040)])
        0xC4586000 = some 8 := by decide +kernel

/-- A power-on reset of a running machine (rules R1450, R1455): the values of TABLE 16-1, and what the environment left elsewhere. -/
theorem test_power_on_reset :
    trapSeen (powerOnReset (twoStrands user) user) = (1, 6, 0x7FFFF0000020)
    ∧ (powerOnReset (mapped user) (mapped user)).mmu.dtlb = []
    ∧ (powerOnReset (twoStrands user) user).cmt.running = 4
    ∧ getR (powerOnReset user (withR user [(9, 5)])) 9 = 5 := by decide +kernel

theorem test_reset :
    (State.reset.tl, State.reset.gl, (frameAt State.reset 6).tt, pstateImage State.reset.pstate, hpstateImage State.reset.hpstate,
      State.reset.pc, State.reset.npc) = (6, 3, 1, 0x010, 0x024, 0x7FFFF0000020, 0x7FFFF0000024)
    ∧ ([0, 7, 16].map fun w : PaWidth => (State.resetOf w singleStrand).pc) = [0xFFF0000020, 0x7FFFF0000020, 0xFFFFFFF0000020]
    ∧ trapSeen (takeTrap { priv with tl := 2, gl := 2, pc := 0x401000 } .externallyInitiatedReset) = (3, 3, 0x7FFFF0000060) := by decide +kernel

theorem test_timer_match :
    (advanceTick { user with tick := ⟨false, 0xFFE⟩, tickCmpr := ⟨false, 0x1000⟩ } 3).softint = 1
    ∧ (advanceTick { user with tick := ⟨false, 0xFFE⟩, tickCmpr := ⟨true, 0x1000⟩ } 3).softint = 0
    ∧ (advanceTick { user with tick := ⟨false, 0xFFE⟩, tickCmpr := ⟨false, 0x1002⟩ } 3).softint = 0
    ∧ (advanceStick { user with stick := ⟨false, 0x4FF⟩, hstickCmpr := ⟨false, 0x500⟩ } 1).hsp = true := by decide +kernel

/-- FPRS after fp_disabled: FADDQ (f8, f32), FSQRTs, FSQRTd (f34), LDSHORTF (f2, f34); FCMPq, an unassigned opf and LDQF mark none. -/
theorem test_fp_disabled_marks_destination :
    [0x91A00864#32, 0x83A00864, 0x85A00521, 0x87A00541, 0xC5985A00, 0xC7985A00, 0x81A80A64, 0x81A00000, 0xC5100000].map
      (seen (fun t => ((frameAt t 1).tt.toNat, t.fprs.du, t.fprs.dl)) noFpu)
    = [some (0x20, false, true), some (0x20, true, false), some (0x20, false, true), some (0x20, true, false),
      some (0x20, false, true), some (0x20, true, false), some (0x20, false, false), some (0x20, false, false),
      some (0x10, false, false)] := by decide +kernel
/-! ### Rejected words and ill-formed terms -/

theorem test_rejected_words :
    ([0x86004022, 0x85286021, 0x81F00001, 0x8143E081, 0x91D02105, 0xB1D02005, 0x81B01028].map decode).map Except.toOption
      = List.replicate 7 none
    ∧ ([0x85664801, 0x85784003, 0x12580004, 0x00C84004, 0x91D02805, 0x85704001, 0x12C84004].map decode).map Except.toOption
      = List.replicate 7 none
    ∧ ([0x85F00000, 0xC5086000, 0x8D880000, 0x83404000, 0x01C00000, 0x81A00000].map decode).map Except.toOption
      = List.replicate 6 none := by
  refine ⟨rfl, rfl, rfl⟩

theorem test_rejected_by_name :
    [0x86004022, 0x85664801, 0x01C00000, 0x81A00000].map decode
    = [.error (.reservedBits "ADD"), .error (.illegalField "MOVcc"), .error .reservedOpcode, .error .unassignedFPop] := rfl

theorem test_wf_sethi : wellFormed (.sethi 0 0) = false ∧ wellFormed (.sethi 0 1) = true := by decide
theorem test_wf_ldtwa : wellFormed (.ldtwa 2 1 (.reg 3 0x22)) = false ∧ wellFormed (.ldtwa 2 1 (.reg 3 0x80)) = true := by decide
theorem test_wf_ldtxa : wellFormed (.ldtxa 2 1 3 0x80) = false := by decide
theorem test_wf_lddfa : wellFormed (.lddfa 2 1 (.reg 3 0xF0)) = false ∧ wellFormed (.lddfa 2 1 (.reg 3 0xD0)) = false := by decide
theorem test_wf_stdfa :
    wellFormed (.stdfa 2 1 (.reg 3 0xF0)) = false ∧ wellFormed (.stdfa 2 1 (.reg 3 0xC0)) = false
    ∧ wellFormed (.stdfa 2 1 (.reg 3 0xD0)) = false := by decide
theorem test_wf_ldblockf : wellFormed (.ldblockf 16 1 3 0x80) = false := by decide
theorem test_wf_stblockf : wellFormed (.stblockf 16 1 3 0x80) = false := by decide
theorem test_wf_ldshortf : wellFormed (.ldshortf 2 1 3 0xF0) = false := by decide
theorem test_wf_stshortf : wellFormed (.stshortf 2 1 3 0xC0) = false := by decide
theorem test_wf_stpartialf : wellFormed (.stpartialf 2 1 3 0xD0) = false := by decide
theorem test_wf_impdep1 : wellFormed (.impdep1 1 2 0x048 3) = false ∧ wellFormed (.impdep1 1 2 0x1FF 3) = true := by decide
theorem test_wf_impdep2b : wellFormed (.impdep2b 1 2 0 3) = false := by decide

/-! ### Witnesses: states and operands that meet the hypotheses of the obligations -/

/-- A state whose next instruction, at PC = 0x1000, is the word given. -/
def running (s : State) (w : Word) : State := { s with memory := writeMem s.paWidth s.memory 0x1000 4 false (w.setWidth 64) }

/-- What one step with an error reported leads to: TT, the trap level and the errors still reported. -/
noncomputable def errorSeen (s : State) (e : ErrorEvent) : Option (BitVec 9 × BitVec 3 × ErrorConditions) :=
  match step (raiseError s e) with
  | .next t => some ((frameAt t t.tl).tt, t.tl, t.errors)
  | _ => none

/-- The error traps of rules R1252, R1267, R1272, R1287 and R1288: an exception of higher priority goes first, a NOP makes no data
access, store_error and a precise error are reported once, sw_recoverable_error persists. -/
theorem test_errors :
    errorSeen (running user 0x01000000) .store = some (0x007, 1, ⟨none, false, false⟩)
    ∧ errorSeen (running user 0x01000000) (.precise .dataAccess) = some (0, 0, ⟨none, false, false⟩)
    ∧ errorSeen (running user 0xC4586000) (.precise .dataAccess) = some (0x032, 1, ⟨none, false, false⟩)
    ∧ errorSeen (running noFpu 0x87A04822) (.precise .instructionAccess) = some (0x00A, 1, ⟨none, false, false⟩)
    ∧ errorSeen (running noFpu 0x87A04822) (.precise (.internalProcessor 900)) = some (0x020, 1, ⟨none, false, false⟩)
    ∧ errorSeen (running user 0x01000000) .swRecoverable = some (0x040, 1, ⟨none, false, true⟩) := by decide +kernel

/-- "If an instruction_access_error occurs, it will be taken even if the instruction is an SIR" (rule R1201); an error past the fetch
is outranked by the SIR (rule R1220), and a miss of the fetch outranks the error of it. -/
theorem test_error_of_fetch :
    errorSeen (running hyper 0x9F802000) (.precise .instructionAccess) = some (0x00A, 1, ⟨none, false, false⟩)
    ∧ errorSeen (running hyper 0x9F802000) (.precise (.internalProcessor 400)) = some (0x004, 1, ⟨none, false, false⟩)
    ∧ errorSeen { user with mmu := { user.mmu with itlb := [] } } (.precise .instructionAccess)
      = some (0x064, 1, ⟨none, false, false⟩) := by decide +kernel

/-- sw_recoverable_error is held in hyperprivileged mode with PSTATE.ie = 0 (rule R1222); a warm reset drops what is not a condition
that persists; ERROR_STEERING names the strand that an error goes to (rule R1413). -/
theorem test_error_conditions :
    errorTraps (raiseError { hyper with pstate := { hyper.pstate with ie := false } } .swRecoverable) = []
    ∧ (warmReset (raiseError (raiseError user .store) .swRecoverable)).errors = ⟨none, false, true⟩
    ∧ (match steeredError (twoStrands user) .store with | .next t => some t.errors | _ => none) = some ⟨none, false, false⟩
    ∧ (match steeredError { twoStrands user with cmt := ⟨0xC, 4, 4, 4, 0xC, 0, 3⟩ } .store with | .refused r => some r | _ => none)
      = some .errorToDisabledStrand := by decide +kernel

theorem test_step_runs_first_instruction :
    (match step (State.reset.withFetchWord 32 0x8F902001) with | .next t => some (t.tl, t.pc) | _ => none)
      = some (1, 0x7FFFF0000024) := by decide +kernel

theorem witness_DecodeEncodeRoundTrip :
    wellFormed (.add 31 0 (.imm 0x1FFF)) = true ∧ wellFormed (.ldblockf 31 31 31 0xF8) = true := by decide

theorem witness_ReservedBitsRejected :
    ((0x20 : BitVec 14).extractLsb' 13 1 = 0 ∧ (0x20 : BitVec 14).extractLsb' 5 8 ≠ 0)
    ∧ (0x1FFF : BitVec 14).extractLsb' 13 1 = 0 ∧ (0x1FFF : BitVec 14).extractLsb' 5 8 ≠ 0
    ∧ (1#5).toNat < 2 ∧ 2 ≤ (2#5).toNat := by decide

theorem witness_StepRunsDecoded :
    ∃ (s u : State) (pa : DWord), s = running user 0x01000000 ∧ isRunning s = true ∧ u = startStep s
      ∧ (u.hpstate.red = false ∨ u.hpstate.hpriv = true) ∧ u.xirPending = false ∧ u.errors.precise = none
      ∧ errorTraps u = [] ∧ trapLevelZeroPending u = false ∧ pendingTrap u = none ∧ translateFetch u (maskAm u u.pc) = .ok pa
      ∧ decode (wordOfBytes (readByte u.paWidth u.memory pa) (readByte u.paWidth u.memory (pa + 1)) (readByte u.paWidth u.memory (pa + 2))
        (readByte u.paWidth u.memory (pa + 3))) = .ok .nop :=
  ⟨_, _, 0x1000, rfl, rfl, rfl, .inl rfl, rfl, rfl, rfl, rfl, rfl, rfl, rfl⟩

theorem witness_CountersAdvanceAndMatch : { user with stickWritten := true }.stickWritten = true := rfl

theorem witness_UndecodableWordTraps :
    decode 0x01C00000 = .error .reservedOpcode ∧ decode 0x81A00000 = .error .unassignedFPop ∧ fpuEnabled user = true
    ∧ fpuEnabled noFpu = false ∧ decode 0x91A00864 = .ok (.faddq 8 0 4) ∧ decode 0x81A80B00 = .error .unassignedFPop :=
  ⟨rfl, rfl, rfl, rfl, rfl, rfl⟩

theorem witness_StepTakesPendingTrap :
    ∀ s ∈ [{ running user 0x01000000 with softint := 0x8000 }, { running noFpu 0x87A04822 with softint := 0x8000 }],
      isRunning s = true ∧ (startStep s).hpstate.red = false ∧ (startStep s).xirPending = false
      ∧ (startStep s).errors.precise = none ∧ errorTraps (startStep s) = []
      ∧ trapLevelZeroPending (startStep s) = false ∧ pendingTrap (startStep s) = some (.interruptLevel 15) := by
  intro s hs
  rcases List.mem_cons.mp hs with rfl | hs
  · exact ⟨rfl, rfl, rfl, rfl, rfl, rfl, rfl⟩
  · rcases List.mem_singleton.mp hs with rfl
    exact ⟨rfl, rfl, rfl, rfl, rfl, rfl, rfl⟩

/-- The second state above has an instruction whose exception goes first, the first one none. -/
theorem witness_StepTakesPendingTrap_outcomes :
    (match step { running noFpu 0x87A04822 with softint := 0x8000 } with | .next t => some (trapSeen t) | _ => none) = some (0x20, 1, 0x400400)
    ∧ (match step { running user 0x01000000 with softint := 0x8000 } with | .next t => some (trapSeen t) | _ => none)
      = some (0x4F, 1, 0x4009E0) := by decide +kernel

theorem witness_StepTakesPendingTrap_errors :
    ∀ p ∈ [(running user 0x01000000, Trap.storeError, ErrorEvent.store), (running hyper 0x9F802000, .instructionAccessError, .precise .instructionAccess),
        ({ user with mmu := { user.mmu with itlb := [] } }, .instructionAccessError, .precise .instructionAccess),
        (running user 0xC4586000, .dataAccessError, .precise .dataAccess), (running user 0x01000000, .internalProcessorError 500, .precise (.internalProcessor 500))],
      isRunning (raiseError p.1 p.2.2) = true ∧ (startStep (raiseError p.1 p.2.2)).hpstate.red = false
      ∧ (startStep (raiseError p.1 p.2.2)).xirPending = false ∧ errorTraps (startStep (raiseError p.1 p.2.2)) = [p.2.1]
      ∧ trapLevelZeroPending (startStep (raiseError p.1 p.2.2)) = false ∧ pendingTrap (startStep (raiseError p.1 p.2.2)) = none := by
  intro p hp
  fin_cases hp <;> exact ⟨rfl, rfl, rfl, rfl, rfl, rfl⟩

theorem witness_StepTakesPendingTrap_fetch :
    (∃ pa, translateFetch (running hyper 0x9F802000) (maskAm (running hyper 0x9F802000) (running hyper 0x9F802000).pc) = .ok pa)
    ∧ ∃ x, translateFetch { user with mmu := { user.mmu with itlb := [] } } (maskAm user user.pc) = .error x :=
  ⟨⟨_, rfl⟩, ⟨_, rfl⟩⟩

theorem witness_StepTakesPendingTrap_order :
    (∀ q ∈ ([0, 2, 4] : List (Fin 8)), isHyper { user with queues := user.queues.set q 0x40 } = false ∧ user.pstate.ie = true
      ∧ user.hsp = false ∧ bankRead (user.queues.set q 0x40) (BitVec.ofNat 3 q) ≠ bankRead (user.queues.set q 0x40) (BitVec.ofNat 3 (q + 1)))
    ∧ isHyper { hyper with hsp := true } = true := by decide +kernel

/-- No outstanding level of SOFTINT is above `n`. -/
def NoneAbove (softint : BitVec 17) (n : BitVec 4) : Prop :=
  ∀ m : BitVec 4, n.toNat < m.toNat →
    softint.getLsbD m.toNat = false ∧ (m = 14 → softint.getLsbD 0 = false ∧ softint.getLsbD 16 = false)

theorem noneAbove_of_numbers (softint : BitVec 17) (n : BitVec 4)
    (h : ∀ m < 16, n.toNat < m → softint.getLsbD m = false ∧ (m = 14 → softint.getLsbD 0 = false ∧ softint.getLsbD 16 = false)) :
    NoneAbove softint n :=
  fun m hm => ⟨(h m.toNat m.isLt hm).1, fun e => (h m.toNat m.isLt hm).2 (congrArg BitVec.toNat e)⟩

theorem witness_HighestInterruptLevelSelected :
    ((5#4 ≠ 0 ∧ (4#4).toNat < (5#4).toNat ∧ (0x20#17).getLsbD 5 = true) ∧ NoneAbove 0x20 5)
    ∧ ((14#4 ≠ 0 ∧ (13#4).toNat < (14#4).toNat ∧ (0x1#17).getLsbD 0 = true) ∧ NoneAbove 0x1 14)
    ∧ ((14#4 ≠ 0 ∧ (0#4).toNat < (14#4).toNat ∧ (0x10000#17).getLsbD 16 = true) ∧ NoneAbove 0x10000 14)
    ∧ ((15#4 ≠ 0 ∧ (14#4).toNat < (15#4).toNat ∧ (0x8001#17).getLsbD 15 = true) ∧ NoneAbove 0x8001 15) := by
  refine ⟨⟨by decide, ?_⟩, ⟨by decide, ?_⟩, ⟨by decide, ?_⟩, ⟨by decide, ?_⟩⟩ <;>
    exact noneAbove_of_numbers _ _ (by decide +kernel)

theorem witness_HighestInterruptLevelSelected_none :
    (isHyper user = false ∧ user.pstate.ie = true ∧ user.hsp = false ∧ bankRead user.queues 0 = bankRead user.queues 1
      ∧ bankRead user.queues 2 = bankRead user.queues 3)
    ∧ NoneAbove 0x20 5 ∧ NoneAbove 0x10001 14 := by
  refine ⟨by decide +kernel, ?_, ?_⟩ <;> exact noneAbove_of_numbers _ _ (by decide +kernel)

theorem witness_StepWithoutFetch :
    isRunning { user with cmt := { user.cmt with runningStatus := 0 } } = false ∧ isRunning user = true
    ∧ (({ user with hpstate := ⟨false, true, false, false⟩ } : State).hpstate.red = true
      ∧ ({ user with hpstate := ⟨false, true, false, false⟩ } : State).hpstate.hpriv = false)
    ∧ ({ user with xirPending := true } : State).xirPending = true ∧ user.hpstate.red = false
    ∧ user.xirPending = false ∧ user.errors.precise = none ∧ errorTraps { user with hpstate := ⟨false, false, false, true⟩ } = []
    ∧ ({ user with hpstate := ⟨false, false, false, true⟩ } : State).hpstate.tlz = true
    ∧ user.hpstate.hpriv = false ∧ user.tl = 0 := by decide +kernel

/-! The hypotheses of the next statements only name operands; a concrete state gives them values. -/

theorem witness_AluResults : ∃ a b : DWord, a = getR user 1 ∧ b = src2 user (.imm 5) := ⟨_, _, rfl, rfl⟩
theorem witness_ArithmeticConditionCodes : ∃ a b : DWord, a = getR user 1 ∧ b = src2 user (.reg 0) := ⟨_, _, rfl, rfl⟩
theorem witness_LogicalConditionCodes : ∃ a b : DWord, a = getR user 2 ∧ b = src2 user (.imm 0x1FFF) := ⟨_, _, rfl, rfl⟩
theorem witness_TaggedArithmetic : ∃ a b : DWord, a = getR user 1 ∧ b = src2 user (.imm 3) := ⟨_, _, rfl, rfl⟩
theorem witness_Multiply : ∃ a b : DWord, a = getR user 1 ∧ b = src2 user (.reg 2) := ⟨_, _, rfl, rfl⟩
theorem witness_Multiply_step :
    ∃ (a b : DWord) (x m : Word), a = getR user 1 ∧ b = src2 user (.reg 2)
      ∧ x = (if user.ccr.icc.n = user.ccr.icc.v then 0#1 else 1#1) ++ a.extractLsb' 1 31
      ∧ m = (if user.y.getLsbD 0 = true then lo32 b else 0) := ⟨_, _, _, _, rfl, rfl, rfl, rfl⟩
theorem witness_ShiftResults : ∃ (a : DWord) (n m : Nat), a = getR user 1 ∧ n = (getR user 2).toNat % 32 ∧ m = (63#6).toNat :=
  ⟨_, _, _, rfl, rfl, rfl⟩
theorem witness_IntegerBranches : ∃ (c : CC) (v : DWord), c = user.ccr.xcc ∧ v = getR user 1 := ⟨_, _, rfl, rfl⟩
theorem witness_TrapOnCondition :
    ∃ n : Nat, n = (getR user 1 + BitVec.ofNat 64 (127#8).toNat).toNat % (if isUser user = true then 128 else 256) := ⟨_, rfl⟩

theorem running_inv : (running user 0x86006001).Inv where
  memory := by decide +kernel
  pcs := by decide +kernel
  tl := by decide +kernel
  queues := by decide +kernel
  cmt := by decide +kernel
  available := by decide +kernel
  chip := by decide +kernel
  tlbs := ⟨fun _ _ _ => List.length_filter_le _ [page], fun _ _ _ => List.length_filter_le _ [page]⟩

theorem witness_StepKeepsInvariant : ∃ s t, s = running user 0x86006001 ∧ s.Inv ∧ step s = .next t :=
  ⟨_, _, rfl, running_inv, rfl⟩

theorem witness_StepKeepsInvariant_environment :
    ∃ t, (running user 0x86006001).cmt.enable ≠ 0 ∧ steeredError (running user 0x86006001) .store = .next t :=
  ⟨_, by decide +kernel, rfl⟩

theorem witness_ResetHasInvariant :
    ∀ c ∈ ([singleStrand, ⟨3, 0xC, 1, ⟨0, 16, 32⟩⟩, ⟨63, 0x8000000000000001, 63, ⟨58, 6, 12⟩⟩] : List Chip),
      chipLegal c = true := by decide +kernel

theorem witness_ResetHasInvariant_power_on :
    ∃ s left, s = twoStrands user ∧ left = withMem user 0x8008 0x77 ∧ chipLegal s.chip = true
      ∧ Memory.wf s.paWidth left.memory = true := ⟨_, _, rfl, rfl, rfl, by decide +kernel⟩

theorem witness_ResetValues : ∃ s, warmReset user = warmReset s := ⟨user, rfl⟩

theorem witness_NormalTraps :
    ∀ tl ∈ [0#3, 1], isHyper { user with tl := tl } = false ∧ ({ user with tl := tl } : State).hpstate.red = false
      ∧ ({ user with tl := tl } : State).tl.toNat < 2 ∧ destinedForPrivileged .divisionByZero = true
      ∧ destinedForPrivileged (.spill true 7) = true := by decide +kernel

theorem witness_NormalTraps_hyperprivileged :
    (user.hpstate.red = false ∧ user.tl.toNat < 5 ∧ isResetTrap .illegalInstruction = false
      ∧ destinedForPrivileged .illegalInstruction = false)
    ∧ (isHyper { hyper with tl := 4 } = true ∧ isResetTrap .divisionByZero = false)
    ∧ isHyper { user with tl := 2 } = false ∧ destinedForPrivileged .divisionByZero = true ∧ 2 ≤ (2#3).toNat := by decide +kernel

theorem witness_RedStateTraps :
    ({ hyper with tl := 6 } : State).tl.toNat = 6 ∧ isResetTrap .softwareInitiatedReset = true
    ∧ ({ hyper with tl := 5 } : State).tl.toNat = 5 ∧ ({ hyper with hpstate := ⟨false, true, true, false⟩ } : State).hpstate.red = true := by
  decide +kernel

theorem witness_TrapVectorBits :
    user.hpstate.red = false ∧ user.tl.toNat < 5 ∧ isResetTrap .fpDisabled = false ∧ isHyper user = false
    ∧ destinedForPrivileged .fpDisabled = true ∧ user.tl.toNat < 2 ∧ isHyper { hyper with tl := 4 } = true
    ∧ destinedForPrivileged .memAddressNotAligned = false := by decide +kernel

theorem witness_DoneAndRetryRestore :
    isUser user = true ∧ (isUser priv = false ∧ priv.tl = 0)
    ∧ (isUser { inHandler 0 with delaySlot := true } = false ∧ (inHandler 0).tl ≠ 0)
    ∧ isUser (inHandler 3) = false ∧ (inHandler 3).tl ≠ 0 ∧ (inHandler 3).delaySlot = false := by decide +kernel

theorem witness_RetryResumesTheTrappedInstruction :
    user.tl.toNat < 6 ∧ user.pc.extractLsb' 0 2 = 0 ∧ user.npc.extractLsb' 0 2 = 0 ∧ user.gl.toNat ≤ 2
    ∧ ({ hyper with tl := 5, gl := 3 } : State).tl.toNat < 6 ∧ isHyper { hyper with tl := 5, gl := 3 } = true := by decide +kernel

theorem witness_UserModeCannotChangePrivilegedState :
    ∃ t u v, isUser user = true ∧ exec (.add 1 2 (.imm 3)) user = .next t ∧ exec (.rdpr 1 6) user = .next u
      ∧ exec (.flush 1 (.imm 0)) user = .next v :=
  ⟨_, _, _, rfl, rfl, rfl, rfl⟩

/-- The operands of the register instructions: every equation between an operand and what it is read from holds of some values. -/
theorem witness_operands (s : State) (rd rs1 : BitVec 5) (op2 : RegOrImm13) :
    ∃ (a b v : DWord) (n : BitVec 64), a = getR s rs1 ∧ b = src2 s op2 ∧ v = getR s rs1 ^^^ src2 s op2 ∧ n = s.y ++ lo32 a
      ∧ ∃ c : Ccr, c = s.ccr ∧ ∃ d : DWord, d = getFD s rd := ⟨_, _, _, _, rfl, rfl, rfl, rfl, _, rfl, _, rfl⟩

theorem witness_Divide :
    lo32 (src2 (withR user [(2, 0x100000000)]) (.reg 2)) = 0 ∧ lo32 (src2 user (.imm 1)) ≠ 0
    ∧ src2 user (.imm 0) = 0 ∧ src2 user (.imm 0x1FFF) ≠ 0 := by decide +kernel

theorem witness_ConditionalMoves :
    ({ user with ccr := ccrOf true true true true true true true true } : State).ccr.xcc.z = true ∧ user.ccr.icc.z = false
    ∧ (getR user 1).toInt = 0 := by decide +kernel

theorem witness_ConditionalMoves_fp :
    user.pstate.pef = true ∧ user.fprs.fef = true ∧ noFpu.fprs.fef = false
    ∧ ∀ f ∈ [0#2, 1, 2, 3], ({ user with fsr := { user.fsr with fcc3 := f } } : State).fsr.fcc3 = f := by decide +kernel

theorem witness_FloatingPointBranches : user.pstate.pef = true ∧ user.fprs.fef = true ∧ noFpu.fprs.fef = false := by decide +kernel

theorem witness_CallJmplReturn :
    (getR user 1 + src2 user (.imm 4)).toNat % 4 = 0 ∧ (getR user 1 + src2 user (.imm 0x1FFF)).toNat % 4 ≠ 0
    ∧ user.win.canrestore = 0 ∧ ({ user with win := ⟨1, 5, 1, 7, 0, 0, 0⟩ } : State).win.canrestore ≠ 0 := by decide +kernel

theorem witness_Loads :
    translate user .load false (implicitAsi user) (maskAm user (getR user 0 + src2 user (.imm 0xFF8))) = .ok ⟨0xFF8, false⟩
    ∧ (0xFF8#64).toNat % 8 = 0 ∧ asiPermitted user 0x88 = true ∧ admitsLoad (asiClass 0x88) = true
    ∧ translate user .load false 0x88 (maskAm user (asiAddress user 0 (.reg 0 0x88))) = .ok ⟨0, true⟩
    ∧ asiNumber user (.reg 0 0x88) = 0x88 := ⟨rfl, rfl, rfl, rfl, rfl, rfl⟩

theorem witness_Stores :
    Memory.wf user.paWidth user.memory = true
    ∧ translate user .store false (implicitAsi user) (maskAm user (getR user 0 + src2 user (.imm 0xFF8))) = .ok ⟨0xFF8, false⟩
    ∧ asiPermitted user 0x88 = true ∧ admitsStore (asiClass 0x88) = true
    ∧ translate user .store false 0x88 (maskAm user (asiAddress user 0 (.reg 0 0x88))) = .ok ⟨0, true⟩ := ⟨rfl, rfl, rfl, rfl, rfl⟩

theorem witness_TwinLoadsAndStores :
    (3#5).getLsbD 0 = true ∧ (30#5).getLsbD 0 = false
    ∧ translate user .load false (implicitAsi user) (maskAm user 8) = .ok ⟨8, false⟩
    ∧ translate user .load false (implicitAsi user) (maskAm user (8 + 4)) = .ok ⟨12, false⟩
    ∧ (asiPermitted user 0x88 = true ∧ admitsLoad (asiClass 0x88) = true ∧ admitsStore (asiClass 0x88) = true)
    ∧ asiPermitted user 0xE2 = true
    ∧ translate user .load true 0xE2 (maskAm user (getR user 0 + getR user 0)) = .ok ⟨0, false⟩
    ∧ translate user .load true 0xE2 (maskAm user (getR user 0 + getR user 0 + 8)) = .ok ⟨8, false⟩
    ∧ translate user .store false (implicitAsi user) (maskAm user 8) = .ok ⟨8, false⟩
    ∧ translate user .store false (implicitAsi user) (maskAm user (8 + 4)) = .ok ⟨12, false⟩ :=
  ⟨rfl, rfl, rfl, rfl, ⟨rfl, rfl, rfl⟩, rfl, rfl, rfl, rfl, rfl⟩

/-- LDTXA with ASI 0x24 in a state where the real-address ASI it stands for is permitted. -/
theorem witness_TwinLoadsAndStores_quad :
    asiPermitted hyper 0x27 = true ∧ asiPermitted hyper 0x2F = true := ⟨rfl, rfl⟩

theorem witness_AtomicLoadStores :
    Memory.wf user.paWidth user.memory = true ∧ translate user .atomic false 0x80 (maskAm user (getR user 0)) = .ok ⟨0, false⟩
    ∧ implicitAsi user = 0x80 ∧ asiPermitted user 0x80 = true ∧ admitsAtomic (asiClass 0x80) = true := ⟨rfl, rfl, rfl, rfl, rfl⟩

/-- A state with an address in R[1] and an ASI number. -/
def asiAt (s : State) (a : DWord) : State := withR s [(1, a)]

theorem witness_StoresRegister :
    (∃ v, StoresRegister (asiAt priv 0x38) 2 1 (.reg 0 0x20) (.stxa 2 1 (.reg 0 0x20)) v)
    ∧ ∃ v, StoresRegister (asiAt priv 0x38) 2 1 (.reg 0 0x20) (.stdfa 2 1 (.reg 0 0x20)) v :=
  ⟨⟨_, .inl ⟨rfl, rfl⟩⟩, _, .inr ⟨rfl, rfl, rfl, rfl⟩⟩

/-- STDFA writes, and LDDFA reads, the scratchpad register. -/
theorem test_asi_registers_from_fp :
    seen (fun t => bankRead t.scratchpad 3) (withFD (withR priv [(1, 0x18)]) [(2, 9)]) 0xC5B84400 = some 9
    ∧ seen (fun t => (getFD t 2, t.fprs.dl)) { withR priv [(1, 0x18)] with scratchpad := bankWrite priv.scratchpad 3 9 } 0xC5984400
      = some (9, true) := by decide +kernel

theorem witness_AsiRegisters :
    isUser priv = false ∧ asiAddress (asiAt priv 0x38) 1 (.reg 0 0x20) = BitVec.ofNat 64 (8 * (7#3).toNat)
    ∧ isHyper hyper = true ∧ isUser hyper = false ∧ asiAddress (asiAt hyper 0x38) 1 (.reg 0 0x4F) = BitVec.ofNat 64 (8 * (7#3).toNat)
    ∧ asiAddress (asiAt priv 0x3F8) 1 (.reg 0 0x25) = BitVec.ofNat 64 (0x3C0 + 8 * (7#3).toNat)
    ∧ asiAddress (asiAt priv 0x3F0) 1 (.reg 0 0x25) = BitVec.ofNat 64 (0x3C0 + 8 * (6#3).toNat)
    ∧ asiAddress (asiAt priv 8) 1 (.reg 0 0x21) = 8 ∧ asiAddress (asiAt priv 16) 1 (.reg 0 0x21) = 16
    ∧ asiAddress (asiAt hyper 0x80) 1 (.reg 0 0x58) = 0x80 := by decide +kernel

theorem witness_CmtAndMmuRegisters :
    isHyper (asiAt hyper 0x68) = true ∧ asiNumber hyper (.reg 0 0x41) = 0x41 ∧ asiNumber hyper (.reg 0 0x63) = 0x63
    ∧ [0, 0x10, 0x20, 0x30, 0x50, 0x58, 0x60, 0x68].map (fun a => asiAddress (asiAt hyper a) 1 (.reg 0 0x41))
      = [0, 0x10, 0x20, 0x30, 0x50, 0x58, 0x60, 0x68]
    ∧ getR (withR hyper [(2, 2)]) 2 &&& hyper.cmt.enableStatus = 0
    ∧ getR (withR hyper [(2, 3)]) 2 &&& hyper.cmt.enableStatus ≠ 0
    ∧ getR (withR hyper [(2, 2)]) 2 &&& hyper.chip.available = 0
    ∧ getR (withR hyper [(2, 3)]) 2 &&& hyper.chip.available ≠ 0 ∧ hyper.chip.available ≠ 0 ∧ chipLegal hyper.chip = true
    ∧ asiAddress (asiAt hyper 0x20) 1 (.reg 0 0x58) = 0x20
    ∧ asiAddress hyper 1 (.reg 0 0x58) = 0 ∧ asiAddress hyper 1 (.reg 0 0x50) = 0
    ∧ asiAddress (asiAt hyper 0x98) 1 (.reg 0 0x54) = 0x98 ∧ maskAm hyper 0x98 = 0x98 := by decide +kernel

/-- The MMU registers of rule R342's RW rows with the platform's meaning, at the first and last address of each run and beside it. -/
theorem witness_CmtAndMmuRegisters_platform :
    (∀ p ∈ ([(0x50, 0x18), (0x50, 0x30), (0x52, 0x108), (0x52, 0x120), (0x52, 0x208), (0x52, 0x220), (0x54, 0x10), (0x54, 0x98),
        (0x58, 0x18), (0x58, 0x30), (0x58, 0x40)] : List (Byte × DWord)), RegisterAt platformRegisters p.1 p.2)
    ∧ ∀ p ∈ ([(0x50, 0), (0x52, 0x128), (0x54, 8), (0x54, 0xA0), (0x58, 0x20), (0x58, 0x48)] : List (Byte × DWord)),
      ¬RegisterAt platformRegisters p.1 p.2 := by
  simp [RegisterAt, platformRegisters]

theorem witness_TlbStores :
    isHyper hyper = true ∧ asiAddress hyper 1 (.reg 0 0x5C) = 0
    ∧ (0x8000000000000045#64).getLsbD 63 = true ∧ (0x8000000000000045#64).extractLsb' 0 4 = 5
    ∧ (0x8000000000000002#64).extractLsb' 0 4 ∉ ([0, 1, 3, 5] : List (BitVec 4)) ∧ (0x45#64).getLsbD 63 = false
    ∧ asiAddress (asiAt hyper 0x7FFF8) 1 (.reg 0 0x5D) = 0x7FFF8 ∧ (0x7FFF8#64).toNat % 8 = 0
    ∧ (maskAm hyper 0x7FFF8).toNat ≤ 0x7FFF8 ∧ 0x800 ≤ (maskAm hyper 0x7FFF8).toNat ∧ hyper.pstate.am = false
    ∧ tlbMatches 0 (some 0) 0x0FFFFFFF page = true ∧ (∀ d ∈ ([] : List TlbEntry), tlbMatches 0 none 0 d = false) := by decide +kernel

theorem witness_AsiClassesAndImplicitAsi :
    isHyper user = false ∧ user.tl = 0 ∧ isHyper { user with tl := 1, pstate := { user.pstate with cle := true } } = false
    ∧ isHyper hyper = true := by decide +kernel

theorem witness_RegisterFilesAndOperands : ∃ n : Nat, n = (31#5).toNat % 2 * 32 + (31#5).toNat / 2 * 2 ∧ n = 62 := ⟨_, rfl, rfl⟩

theorem witness_AccessTraps :
    (getR user 0 + src2 user (.imm 1)).toNat % 2 ≠ 0 ∧ (getR user 0 + src2 user (.imm 4)).toNat % 8 ≠ 0
    ∧ isSpecialClass (asiClass 0x80) = false ∧ (asiAddress (asiAt user 1) 1 (.reg 0 0x80)).toNat % 4 ≠ 0
    ∧ asiPermitted user 0x7F = false ∧ asiPermitted priv 0x30 = false
    ∧ asiPermitted user 0x82 = true ∧ admitsStore (asiClass 0x82) = false ∧ admitsAtomic (asiClass 0x82) = false
    ∧ asiPermitted user 0xFF = true ∧ admitsLoad (asiClass 0xFF) = false
    ∧ (2#5).getLsbD 0 = false ∧ isSpecialClass (asiClass 0xE2) = true ∧ (user.pstate.pef && user.fprs.fef) = true
    ∧ asiClass 0x20 = .register ∧ asiPermitted priv 0x20 = true
    ∧ (asiAddress (asiAt priv 0x40) 1 (.reg 0 0x20)).toNat % 8 = 0
    ∧ (getR (asiAt user 8) 1 + getR user 2).toNat % 16 ≠ 0 := by decide +kernel

theorem witness_AccessTraps_register :
    ¬RegisterAt readableRegisters 0x20 0x40 ∧ ¬RegisterAt writableRegisters 0x41 0x58 ∧ RegisterAt readableRegisters 0x41 0x58 := by
  unfold RegisterAt; decide +kernel

theorem witness_AddressTranslation :
    (isHyper hyper = true ∧ asiSpace 0x80 ≠ .real ∧ asiIsAsIfUser 0x80 = false ∧ asiIsAsIfPriv 0x80 = false)
    ∧ asiIsAsIfUser 0x10 = true ∧ asiSpace 0x14 = .real ∧ asiIsAsIfPriv 0x30 = true
    ∧ isHyper (mapped user) = false ∧ contextOf (mapped user) (lookupSpace (mapped user) 0x80) = some 0x10
    ∧ tlbMatches (mapped user).mmu.partitionId (some 0x10) 0x21FFF page8K = true
    ∧ tlbMatches (mapped hyper).mmu.partitionId (contextOf (mapped hyper) (asiSpace 0x10)) 0x20000 page8K = true
    ∧ (page8K.p && isUser user) = true ∧ (page8K.p && (isUser priv || asiIsAsIfUser 0x80)) = false ∧ page8K.w = false
    ∧ tlbMatches (mapped user).mmu.partitionId (some 0x10) 0x22000 page8K = false
    ∧ contextOf priv .real = none
    ∧ (∀ e ∈ [{ page with nfo := true }, { page with e := true }, { page with cp := false }, { page with ep := false }],
      tlbMatches user.mmu.partitionId (contextOf user .primary) 0x0FFFFFFF e = true)
    ∧ asiIsNoFault 0x80 = false ∧ asiIsNoFault 0x82 = true ∧ asiIsRealIo 0x15 = true
    ∧ page.p = false ∧ page.ep = true ∧ page.nfo = false ∧ page.w = true := by decide +kernel

theorem witness_AddressTranslation_tlbs : TlbConsistent [page] ∧ TlbConsistent [page8K] :=
  ⟨fun _ _ _ => List.length_filter_le _ [page], fun _ _ _ => List.length_filter_le _ [page8K]⟩

theorem witness_PrefetchBarriersAndFlush :
    (5 ≤ (5#5).toNat ∧ (5#5).toNat ≤ 15) ∧ (5 ≤ (15#5).toNat ∧ (15#5).toNat ≤ 15)
    ∧ ¬(5 ≤ (4#5).toNat ∧ (4#5).toNat ≤ 15) ∧ ¬(5 ≤ (16#5).toNat ∧ (16#5).toNat ≤ 15)
    ∧ user.cmt.running.getLsbD user.chip.strand.toNat = true
    ∧ ({ twoStrands user with cmt := ⟨0xC, 0xC, 4, 12, 0xC, 0, 2⟩ } : State).cmt.running.getLsbD
        ((twoStrands user).chip.strand.toNat) = false := by decide +kernel

theorem witness_FloatingPointLoads :
    noFpu.fprs.fef = false ∧ user.pstate.pef = true ∧ user.fprs.fef = true
    ∧ (getR user 0 + src2 user (.imm 2)).toNat % 4 ≠ 0 ∧ (getR user 0 + src2 user (.imm 4)).toNat % 8 = 4
    ∧ (isSpecialClass (asiClass 0x88) = false ∧ asiClass 0x88 ≠ .block ∧ asiClass 0x88 ≠ .short)
    ∧ translate user .load false (implicitAsi user) (maskAm user (getR user 0 + src2 user (.imm 0xFF8))) = .ok ⟨0xFF8, false⟩
    ∧ asiPermitted user 0x88 = true ∧ admitsLoad (asiClass 0x88) = true
    ∧ translate user .load false 0x88 (maskAm user (asiAddress user 0 (.reg 0 0x88))) = .ok ⟨0, true⟩ :=
  ⟨rfl, rfl, rfl, by decide +kernel, by decide +kernel, by decide +kernel, rfl, rfl, rfl, rfl⟩

theorem witness_FloatingPointStores :
    noFpu.fprs.fef = false ∧ user.pstate.pef = true ∧ user.fprs.fef = true ∧ Memory.wf user.paWidth user.memory = true
    ∧ (getR user 0 + src2 user (.imm 4)).toNat % 8 = 4
    ∧ translate user .store false (implicitAsi user) (maskAm user (getR user 0 + src2 user (.imm 0xFF8))) = .ok ⟨0xFF8, false⟩
    ∧ asiPermitted user 0x88 = true ∧ admitsStore (asiClass 0x88) = true
    ∧ translate user .store false 0x88 (maskAm user (asiAddress user 0 (.reg 0 0x88))) = .ok ⟨0, true⟩ :=
  ⟨rfl, rfl, rfl, rfl, by decide +kernel, rfl, rfl, rfl, rfl⟩

/-- The forms: the instruction of its own name, and LDDFA or STDFA with the ASI register. -/
theorem witness_BlockShortAndPartialForms :
    (∃ a, BlockLoadForm user 16 1 0xF0 a (.ldblockf 16 1 0 0xF0) ∧ a = 0)
    ∧ (∃ a, BlockLoadForm { user with asi := 0xF0 } 16 1 0xF0 a (.lddfa 16 1 (.imm 0x40)) ∧ a = 0x40)
    ∧ (∃ a, BlockLoadForm { user with asi := 0xF0 } 16 1 0xF0 a (.lddfa 16 1 (.imm 1)) ∧ a.toNat % 64 ≠ 0)
    ∧ (∃ a, BlockStoreForm { user with asi := 0x16 } 16 1 0x16 a (.stdfa 16 1 (.imm 0x40)) ∧ asiPermitted user 0x16 = false)
    ∧ (∃ a, BlockStoreForm { user with asi := 0xF0 } 16 1 0xF0 a (.stdfa 16 1 (.imm 0x40)) ∧ a = 0x40)
    ∧ (∃ a, ShortLoadForm { user with asi := 0xD2 } 2 1 0xD2 a (.lddfa 2 1 (.imm 1)) ∧ a.toNat % 2 = 1)
    ∧ (∃ a, ShortStoreForm { user with asi := 0xD2 } 2 1 0xD2 a (.stdfa 2 1 (.imm 2)) ∧ a.toNat % 2 = 0)
    ∧ (∃ a, PartialStoreForm user 2 1 0xC0 a (.stpartialf 2 1 0 0xC0) ∧ a = 0)
    ∧ asiIsPartial ({ user with asi := 0xC0 } : State).asi = true :=
  ⟨⟨_, .inl ⟨0, rfl, rfl⟩, by decide +kernel⟩, ⟨_, .inr ⟨_, rfl, rfl, rfl, rfl⟩, by decide +kernel⟩,
    ⟨_, .inr ⟨_, rfl, rfl, rfl, rfl⟩, by decide +kernel⟩, ⟨_, .inr ⟨_, rfl, rfl, rfl, rfl⟩, rfl⟩,
    ⟨_, .inr ⟨_, rfl, rfl, rfl, rfl⟩, by decide +kernel⟩, ⟨_, .inr ⟨_, rfl, rfl, rfl, rfl⟩, by decide +kernel⟩,
    ⟨_, .inr ⟨_, rfl, rfl, rfl, rfl⟩, by decide +kernel⟩, ⟨_, ⟨rfl, 0, .inl rfl⟩, by decide +kernel⟩, rfl⟩

theorem witness_BlockShortAndPartialTransfers :
    (doubleNumber 2).extractLsb' 0 3 ≠ 0 ∧ (doubleNumber 16).extractLsb' 0 3 = 0 ∧ asiPermitted user 0xF0 = true ∧ asiIsBlock 0xF0 = true
    ∧ (∀ k < 8, translate user .load false 0xF0 (maskAm user (0x40 + BitVec.ofNat 64 (8 * k))) = .ok ⟨0x40 + BitVec.ofNat 64 (8 * k), false⟩)
    ∧ (∀ k < 8, translate user .store false 0xF0 (maskAm user (0x40 + BitVec.ofNat 64 (8 * k))) = .ok ⟨0x40 + BitVec.ofNat 64 (8 * k), false⟩)
    ∧ (asiIsShort 0xD2 = true ∧ asiIsPartial 0xC0 = true ∧ asiPermitted user 0x16 = false)
    ∧ (getR user 0 + getR user 0).toNat % 2 = 0 ∧ (getR user 0).toNat % 8 = 0
    ∧ (getR (asiAt user 4) 1).toNat % 8 = 4 ∧ (getR (asiAt user 1) 1).toNat % 4 ≠ 0 := by
  refine ⟨by decide, by decide, rfl, rfl, ?_, ?_, by decide +kernel, rfl, rfl, by decide +kernel, by decide +kernel⟩ <;>
    (intro k hk; interval_cases k <;> rfl)

theorem witness_ReadStateRegisters :
    isUser user = true ∧ isUser priv = false ∧ ({ user with tick := ⟨true, 0⟩ } : State).tick.npt = true
    ∧ ({ user with pcr := { user.pcr with priv := true } } : State).pcr.priv = true ∧ user.pcr.priv = false := by decide +kernel

theorem witness_WriteStateRegisters :
    isUser priv = false ∧ isUser user = true ∧ user.pcr.priv = false ∧ isHyper hyper = true ∧ isHyper priv = false
    ∧ user.pstate.pef = true ∧ user.fprs.fef = true ∧ noFpu.fprs.fef = false := by decide +kernel

theorem witness_PrivilegedRegisters :
    17 ≤ (31#5).toNat ∧ ¬(16#5 = 15 ∨ 17 ≤ (16#5).toNat) ∧ isUser user = true ∧ isUser priv = false ∧ priv.tl = 0
    ∧ (3#5).toNat ≤ 3 ∧ 4 ≤ (4#5).toNat ∧ (inHandler 0).tl ≠ 0 ∧ isUser (inHandler 0) = false ∧ isHyper priv = false
    ∧ isHyper hyper = true := by decide +kernel

theorem witness_HyperprivilegedRegisters :
    2#5 ∉ ([0, 1, 3, 5, 6, 31] : List (BitVec 5)) ∧ isHyper priv = false ∧ isHyper hyper = true ∧ hyper.tl = 0
    ∧ ({ hyper with tl := 6 } : State).tl ≠ 0 ∧ ({ hyper with delaySlot := true } : State).delaySlot = true := by decide +kernel

theorem witness_RegisterWindows :
    ∀ w ∈ [(⟨2, 0, 6, 7, 0, 0, 1⟩ : WindowRegs), ⟨2, 0, 4, 7, 2, 3, 1⟩, ⟨2, 3, 3, 3, 0, 0, 0⟩, ⟨7, 1, 5, 7, 0, 0, 0⟩, ⟨0, 6, 0, 7, 0, 0, 0⟩],
      ({ user with win := w } : State).win = w ∧ (w.cansave = 0 ∨ w.cleanwin = w.canrestore ∨ w.cansave ≠ 0 ∧ w.cleanwin ≠ w.canrestore) := by
  decide +kernel

theorem witness_NotExecutedByHardware : user.pstate.pef = true ∧ user.fprs.fef = true ∧ noFpu.fprs.fef = false := by decide +kernel

theorem witness_FloatingPointResults :
    NoneEnabled user.fsr.tem (fpAdd .single ⟨0, false⟩ false 0x3F800000 0x40000000).flags
    ∧ OneTraps ⟨true, true, true, true, true⟩ (fpMul .single ⟨0, false⟩ 0x7F7FFFFF 0x40000000).flags ⟨false, true, false, false, false⟩ := by
  constructor
  · unfold NoneEnabled; decide +kernel
  · unfold OneTraps NoneEnabled; decide +kernel

theorem witness_RoundingIsCorrect :
    0 < (⟨1, 3⟩ : FpFraction).num ∧ 0 < (⟨1, 3⟩ : FpFraction).den
    ∧ (deliver .single ⟨0, false⟩ false ⟨1, 3⟩).flags.of = false ∧ (deliver .single ⟨0, false⟩ false ⟨2 ^ 128, 1⟩).flags.of = true
    ∧ (deliver .single ⟨0, false⟩ true ⟨1, 2 ^ 150⟩).flags.uf = true
    ∧ (⟨0, 1⟩ : FpFraction).num = 0 := by decide +kernel

theorem witness_ExactResultsOfOperations :
    (0x3F800000 < 2 * FpFormat.single.signBit ∧ IsFinite .single 0x3F800000 ∧ IsFinite .single 0x80000000 ∧ IsFinite .double 0x7FEFFFFFFFFFFFFF)
    ∧ (0xFF800000 % FpFormat.single.signBit = FpFormat.single.infinity ∧ 0 < 0x80000001 % FpFormat.single.signBit)
    ∧ fpIsSnan .single 0x7F800001 = true ∧ fpIsNan .single 0x7FC00000 = true ∧ fpIsSnan .single 0x7FC00000 = false := by
  unfold IsFinite; decide +kernel

/-- Values a sum, a quotient and a conversion of the statement are about. -/
theorem witness_ExactResultsOfOperations_values :
    patternValue .single 0x80000000 = 0 ∧ patternValue .single 0x00000001 ≠ 0 ∧ FpFormat.single.infinity = 0x7F800000 := by
  refine ⟨?_, ?_, rfl⟩
  · norm_num [patternValue, magnitudeValue, FpFormat.single, FpFormat.signBit]
  · norm_num [patternValue, magnitudeValue, FpFormat.single, FpFormat.signBit]
    exact zpow_ne_zero _ two_ne_zero

theorem witness_FloatingPointCompares :
    user.pstate.pef = true ∧ user.fprs.fef = true ∧ noFpu.fprs.fef = false ∧ user.fsr.tem.nv = false
    ∧ ({ user with fsr := { user.fsr with tem := ⟨true, false, false, false, false⟩ } } : State).fsr.tem.nv = true
    ∧ fpIsSnan .single 0x7F800001 = true := by decide +kernel

theorem witness_FloatingPointMoves :
    user.pstate.pef = true ∧ user.fprs.fef = true ∧ noFpu.fprs.fef = false ∧ user.ccr.icc = ⟨false, false, false, false⟩
    ∧ (getR (withR user [(1, 0x8000000000000000)]) 1).toInt < 0 := by decide +kernel

theorem witness_VisFloatingPointResults : user.pstate.pef = true ∧ user.fprs.fef = true ∧ noFpu.fprs.fef = false := by decide +kernel

theorem witness_VisIntegerResults : user.pstate.pef = true ∧ user.fprs.fef = true ∧ noFpu.pstate.pef = true ∧ noFpu.fprs.fef = false := by
  decide +kernel

theorem witness_EdgeMasksAndArrayAddresses :
    (getR (withR user [(2, 5)]) 2).toNat ≤ 5 ∧ 5 < (getR (withR user [(2, 6)]) 2).toNat
    ∧ (maskAm user (0x1003 : DWord)).toNat / 8 = (maskAm user (0x1005 : DWord)).toNat / 8 := by decide +kernel

end Sys2Proof.Tests
end

/-! PROOFS. The FPU-enable check, the instructions hardware does not execute (O52), and the register files (O19). -/

namespace Sys2Proof.Machine

/-! ### The FPU-enable check (rule R66) -/

theorem fpuEnabled_of {s : State} (hp : s.pstate.pef = true) (hf : s.fprs.fef = true) : fpuEnabled s = true := by
  rw [fpuEnabled, hp, hf]; rfl

theorem fpuEnabled_eq_false_iff (s : State) : fpuEnabled s = false ↔ s.pstate.pef = false ∨ s.fprs.fef = false := by
  rw [fpuEnabled, Bool.and_eq_false_iff]

/-! ### Instructions hardware does not execute -/

/-- What an FPop that hardware does not implement does: unimplemented_FPop with the FPU enabled; fp_disabled otherwise, with
FPRS as `mark` leaves it (rules R68, R961, R962). -/
theorem unimplementedFPop_outcomes {i : Instr} {s : State} {mark : State → State} {p : Fprs}
    (hi : exec i s = unimplementedFPop s mark) (hm : mark s = { s with fprs := p }) :
    (s.pstate.pef = true → s.fprs.fef = true →
      exec i s = .next (takeTrap { s with fsr := { s.fsr with ftt := 3 } } .fpExceptionOther))
    ∧ (s.pstate.pef = false ∨ s.fprs.fef = false → exec i s = .next (takeTrap { s with fprs := p } .fpDisabled)) := by
  constructor
  · intro hp hf
    rw [hi, unimplementedFPop_of (fpuEnabled_of hp hf)]; rfl
  · intro h
    rw [hi, unimplementedFPop_of_disabled ((fpuEnabled_eq_false_iff s).mpr h), hm]; rfl

/-- Settles O52: the trap of an instruction outside the FPops is its whole meaning; an FPop's is `unimplementedFPop`, which marks
a quad or double destination, a single one, or, for a compare, none. -/
theorem notExecutedByHardware : Obligations.NotExecutedByHardware := by
  intro s rd rs1 rs2 op2 ea const22 opf mid op4 cc cond
  have wide (i : Instr) (hi : exec i s = unimplementedFPop s (markFD · rd)) := unimplementedFPop_outcomes hi (markFD_eq s rd)
  have single (i : Instr) (hi : exec i s = unimplementedFPop s markFS) := unimplementedFPop_outcomes hi (markFS_eq s)
  have compare (i : Instr) (hi : exec i s = unimplementedFPop s id) := unimplementedFPop_outcomes (p := s.fprs) hi rfl
  constructor
  · simp only [List.forall_mem_cons]
    exact ⟨rfl, rfl, rfl, rfl, rfl, rfl, rfl, rfl, rfl, rfl, rfl, rfl, rfl, rfl, rfl, rfl, rfl, rfl, rfl, rfl, rfl,
      rfl, rfl, rfl, rfl, rfl, rfl, by simp⟩
  · simp only [List.forall_mem_cons]
    exact ⟨wide _ rfl, wide _ rfl, wide _ rfl, wide _ rfl, wide _ rfl, single _ rfl, wide _ rfl, wide _ rfl, compare _ rfl,
      compare _ rfl, wide _ rfl, wide _ rfl, wide _ rfl, single _ rfl, wide _ rfl, wide _ rfl, single _ rfl, wide _ rfl,
      wide _ rfl, wide _ rfl, wide _ rfl, wide _ rfl, wide _ rfl, wide _ rfl, wide _ rfl, wide _ rfl, wide _ rfl, wide _ rfl,
      wide _ rfl, wide _ rfl, by simp⟩

/-! ### Register files -/

/-- A global register does not depend on the window (rule R44). -/
theorem getR_nextWindow_global (s : State) {r : BitVec 5} (h : r.toNat < 8) : getR (nextWindow s) r = getR s r := by
  unfold getR
  rw [if_pos ((group_of_number r).mpr h), if_pos ((group_of_number r).mpr h)]; rfl

/-- The outs of a window stand where the ins of the next one do (rule R42). -/
theorem windowSlot_out_eq_in (cwp k : BitVec 3) : windowSlot (cwp + 1) (0b11#2 ++ k) = windowSlot cwp (0b01#2 ++ k) := by
  revert cwp k; decide

theorem getR_windowed (s : State) {r : BitVec 5} (h : ¬ r.toNat < 8) : getR s r = bankRead s.windows (windowSlot s.win.cwp r) := by
  unfold getR
  rw [if_neg (by rintro rfl; exact h (by decide)), if_neg (mt (group_of_number r).mp h)]

theorem getR_nextWindow_in (s : State) (k : BitVec 3) : getR (nextWindow s) (0b11#2 ++ k) = getR s (0b01#2 ++ k) := by
  have hout : ¬ (0b11#2 ++ k).toNat < 8 := by revert k; decide
  have hin : ¬ (0b01#2 ++ k).toNat < 8 := by revert k; decide
  rw [getR_windowed _ hout, getR_windowed _ hin, ← windowSlot_out_eq_in]; rfl

theorem single_number (f : BitVec 5) : 0#1 ++ f = BitVec.ofNat 6 f.toNat := by revert f; decide

/-- The two F registers of a double register, by number (rule R51). -/
theorem double_numbers (d : BitVec 5) :
    d ++ 0#1 = BitVec.ofNat 6 (2 * d.toNat) ∧ d ++ 1#1 = BitVec.ofNat 6 (2 * d.toNat + 1) := by
  revert d; decide

/-- The number a 5-bit field gives a double register (rule R52). -/
theorem two_mul_doubleNumber (f : BitVec 5) : 2 * (doubleNumber f).toNat = f.toNat % 2 * 32 + f.toNat / 2 * 2 := by
  revert f; decide

theorem getFDn_eq (s : State) (d : BitVec 5) :
    getFDn s d = bankRead s.fregs (BitVec.ofNat 6 (2 * d.toNat)) ++ bankRead s.fregs (BitVec.ofNat 6 (2 * d.toNat + 1)) := by
  obtain ⟨upper, lower⟩ := double_numbers d
  rw [getFDn, upper, lower]

/-- Settles O19, from the laws of the register files. -/
theorem registerFilesAndOperands : Obligations.RegisterFilesAndOperands := by
  intro s
  refine ⟨fun rd r v => getR_setR s rd r v, fun rd v => wroteR_setR s rd v, getR_nextWindow_in s,
    fun r h => getR_nextWindow_global s h, fun f => ?_, ?_, getFDn_eq s, fun r => rfl, fun n => ?_⟩
  · rw [getFS, single_number]
  · rintro f n rfl
    rw [← two_mul_doubleNumber]
    exact getFDn_eq s (doubleNumber f)
  · exact BitVec.toInt_signExtend_of_le (by decide)

end Sys2Proof.Machine

/-! PROOFS. The end of a floating-point operation: the result and FSR, or the trap (O53). -/

namespace Sys2Proof.Machine

/-! ### Which exception traps (rule R965) -/

/-- Nothing traps where no exception detected is enabled. -/
theorem trappingException_of_noneEnabled {tem e : IeeeFlags} (h : NoneEnabled tem e) : trappingException tem e = none := by
  obtain ⟨hnv, hof, huf, hdz, hnx⟩ := h
  rw [Bool.and_comm] at hnv hof huf hdz hnx
  simp only [trappingException, hnv, hof, huf, hdz, hnx, Bool.false_eq_true, if_false]

/-- The exception that traps is the first of nv, dz, of, uf, nx that is detected and enabled. -/
theorem trappingException_of_oneTraps {tem e x : IeeeFlags} (h : OneTraps tem e x) : trappingException tem e = some x := by
  obtain ⟨xnv, xof, xuf, xdz, xnx⟩ := x
  obtain ⟨hsome, rfl, rfl, rfl, rfl, rfl⟩ := h
  simp only [trappingException, Bool.and_comm e.nv, Bool.and_comm e.dz, Bool.and_comm e.of, Bool.and_comm e.uf,
    Bool.and_comm e.nx, IeeeFlags.none]
  cases hnv : tem.nv && e.nv with
  | true => rfl
  | false =>
    cases hdz : tem.dz && e.dz with
    | true => rfl
    | false =>
      cases hof : tem.of && e.of with
      | true => rfl
      | false =>
        cases huf : tem.uf && e.uf with
        | true => rfl
        | false =>
          cases hnx : tem.nx && e.nx with
          | true => rfl
          | false => exact absurd ⟨hnv, hof, huf, hdz, hnx⟩ hsome

/-! ### The end of an FPop (rule R961 steps 5 and 6) -/

theorem finishFp_of_noneEnabled {s : State} {e : IeeeFlags} {write : State → State} (h : NoneEnabled s.fsr.tem e) :
    finishFp s e write = .next (advance (write { s with fsr := fsrCompleted s.fsr e })) := by
  rw [finishFp, trappingException_of_noneEnabled h]; rfl

theorem finishFp_of_oneTraps {s : State} {e x : IeeeFlags} {write : State → State} (h : OneTraps s.fsr.tem e x) :
    finishFp s e write = .next (takeTrap { s with fsr := { s.fsr with ftt := 1, cexc := x } } .fpExceptionIeee754) := by
  rw [finishFp, trappingException_of_oneTraps h]; rfl

/-- No FPop is unfinished (decision D22), so an operation that may be is one that is not. -/
theorem arithIntoS_eq (s : State) (rd : BitVec 5) (opf : BitVec 9) (a b : DWord) (r : FpResult) :
    arithIntoS s rd opf a b r = fpIntoS s rd r := by
  unfold arithIntoS fpIntoS unlessUnfinished
  cases fpuEnabled s <;> rfl

theorem arithIntoD_eq (s : State) (rd : BitVec 5) (opf : BitVec 9) (a b : DWord) (r : FpResult) :
    arithIntoD s rd opf a b r = fpIntoD s rd r := by
  unfold arithIntoD fpIntoD unlessUnfinished
  cases fpuEnabled s <;> rfl

/-- What an FPop with a single-precision or 32-bit result does. -/
theorem fpIntoS_outcomes {i : Instr} {s : State} {rd : BitVec 5} {r : FpResult} (hi : exec i s = fpIntoS s rd r) :
    (s.pstate.pef = true → s.fprs.fef = true → NoneEnabled s.fsr.tem r.flags → ∃ t, exec i s = .next t
      ∧ ResultFS s t rd (BitVec.ofNat 32 r.bits) (fsrCompleted s.fsr r.flags))
    ∧ (s.pstate.pef = true → s.fprs.fef = true → ∀ e, OneTraps s.fsr.tem r.flags e →
      exec i s = .next (takeTrap { s with fsr := { s.fsr with ftt := 1, cexc := e } } .fpExceptionIeee754))
    ∧ (s.pstate.pef = false ∨ s.fprs.fef = false →
      exec i s = .next (takeTrap { s with fprs := dirtyLower s.fprs } .fpDisabled)) := by
  rw [hi, fpIntoS]
  refine ⟨fun hp hf h => ⟨_, ?_, resultFS_setFS _ _ _ _⟩, fun hp hf e h => ?_, fun h => ?_⟩
  · rw [if_pos (fpuEnabled_of hp hf), finishFp_of_noneEnabled h]
  · rw [if_pos (fpuEnabled_of hp hf), finishFp_of_oneTraps h]
  · rw [(fpuEnabled_eq_false_iff s).mpr h]; rfl

/-- What an FPop with a double-precision or 64-bit result does. -/
theorem fpIntoD_outcomes {i : Instr} {s : State} {rd : BitVec 5} {r : FpResult} (hi : exec i s = fpIntoD s rd r) :
    (s.pstate.pef = true → s.fprs.fef = true → NoneEnabled s.fsr.tem r.flags → ∃ t, exec i s = .next t
      ∧ ResultFD s t rd (BitVec.ofNat 64 r.bits) (fsrCompleted s.fsr r.flags))
    ∧ (s.pstate.pef = true → s.fprs.fef = true → ∀ e, OneTraps s.fsr.tem r.flags e →
      exec i s = .next (takeTrap { s with fsr := { s.fsr with ftt := 1, cexc := e } } .fpExceptionIeee754))
    ∧ (s.pstate.pef = false ∨ s.fprs.fef = false →
      exec i s = .next (takeTrap { s with fprs := dirtyDouble s.fprs rd } .fpDisabled)) := by
  rw [hi, fpIntoD]
  refine ⟨fun hp hf h => ⟨_, ?_, resultFD_setFD _ _ _ _⟩, fun hp hf e h => ?_, fun h => ?_⟩
  · rw [if_pos (fpuEnabled_of hp hf), finishFp_of_noneEnabled h]
  · rw [if_pos (fpuEnabled_of hp hf), finishFp_of_oneTraps h]
  · rw [(fpuEnabled_eq_false_iff s).mpr h, ← markFD_eq]; rfl

/-- Settles O53: each of the instructions ends as `fpIntoS` or `fpIntoD` does, the arithmetic because nothing is unfinished. -/
theorem floatingPointResults : Obligations.FloatingPointResults := by
  rintro rd rs1 rs2 s a b x y r rfl rfl rfl rfl rfl
  have single (i : Instr) (r : FpResult) (hi : exec i s = fpIntoS s rd r) := fpIntoS_outcomes hi
  have double (i : Instr) (r : FpResult) (hi : exec i s = fpIntoD s rd r) := fpIntoD_outcomes hi
  have arithS (i : Instr) (opf : BitVec 9) (a b : DWord) (r : FpResult) (hi : exec i s = arithIntoS s rd opf a b r) :=
    single i r (hi.trans (arithIntoS_eq s rd opf a b r))
  have arithD (i : Instr) (opf : BitVec 9) (a b : DWord) (r : FpResult) (hi : exec i s = arithIntoD s rd opf a b r) :=
    double i r (hi.trans (arithIntoD_eq s rd opf a b r))
  simp only [List.forall_mem_cons]
  exact ⟨⟨arithS _ _ _ _ _ rfl, arithS _ _ _ _ _ rfl, arithS _ _ _ _ _ rfl, arithS _ _ _ _ _ rfl, arithS _ _ _ _ _ rfl,
      single _ _ rfl, single _ _ rfl, single _ _ rfl, single _ _ rfl, by simp⟩,
    arithD _ _ _ _ _ rfl, arithD _ _ _ _ _ rfl, arithD _ _ _ _ _ rfl, arithD _ _ _ _ _ rfl, arithD _ _ _ _ _ rfl,
    arithD _ _ _ _ _ rfl, double _ _ rfl, double _ _ rfl, double _ _ rfl, double _ _ rfl, by simp⟩

end Sys2Proof.Machine

/-! PROOFS. The value of a pattern: its binades, its order, and the comparisons that rest on it (O56). -/

namespace Sys2Proof.Machine

/-! ### Binades (rules R245, R246) -/

/-- The least positive value of a format. -/
def leastValue (f : FpFormat) : ℚ := 2 ^ (1 - (f.bias : ℤ) - f.frac)

theorem leastValue_pos (f : FpFormat) : 0 < leastValue f := zpow_pos two_pos _

/-- Patterns up to the least normal one are evenly spaced. -/
theorem magnitudeValue_subnormal (f : FpFormat) {n : Nat} (h : n ≤ 2 ^ f.frac) : magnitudeValue f n = n * leastValue f := by
  have hpos : 0 < 2 ^ f.frac := by positivity
  unfold magnitudeValue
  rcases Nat.lt_or_eq_of_le h with hlt | rfl
  · rw [if_pos hlt, leastValue]
  · rw [if_neg (lt_irrefl _), Nat.mod_self, Nat.div_self hpos, leastValue]; simp

/-- The patterns of a binade, the first of the next one included, are evenly spaced: `n` counts the spaces. -/
theorem magnitudeValue_normal (f : FpFormat) (j : Nat) {n : Nat} (h1 : 2 ^ f.frac ≤ n) (h2 : n ≤ 2 ^ (f.frac + 1)) :
    magnitudeValue f (j * 2 ^ f.frac + n) = n * (2 ^ j * leastValue f) := by
  have hpos : 0 < 2 ^ f.frac := by positivity
  have hspace (k : ℤ) : (2 : ℚ) ^ (k + 1 - f.bias - f.frac) = 2 ^ k * leastValue f := by
    rw [leastValue, ← zpow_add₀ two_ne_zero]; congr 1; ring
  unfold magnitudeValue
  rw [if_neg (by nlinarith)]
  obtain ⟨r, rfl⟩ := Nat.exists_eq_add_of_le h1
  have hx : j * 2 ^ f.frac + (2 ^ f.frac + r) = r + (j + 1) * 2 ^ f.frac := by ring
  rw [hx, Nat.add_mul_mod_self_right, Nat.add_mul_div_right _ _ hpos]
  rcases Nat.lt_or_ge r (2 ^ f.frac) with hr | hr
  · rw [Nat.mod_eq_of_lt hr, Nat.div_eq_of_lt hr, ← zpow_natCast, ← hspace]
    push_cast
    congr 2; ring
  · have hr : r = 2 ^ f.frac := by rw [pow_succ] at h2; omega
    subst hr
    rw [Nat.mod_self, Nat.div_self hpos]
    have hexp : ((1 + (j + 1) : Nat) : ℤ) - f.bias - f.frac = (j + 1 : ℤ) + 1 - f.bias - f.frac := by push_cast; ring
    rw [hexp, hspace, zpow_add_one₀ two_ne_zero, zpow_natCast]
    push_cast; ring

@[simp] theorem magnitudeValue_zero (f : FpFormat) : magnitudeValue f 0 = 0 := by
  rw [magnitudeValue_subnormal f (Nat.zero_le _)]; simp

/-- A pattern above the subnormal ones, as a binade and a count of spaces. -/
theorem exists_binade (f : FpFormat) {x : Nat} (h : 2 ^ f.frac ≤ x) :
    ∃ j n, x = j * 2 ^ f.frac + n ∧ 2 ^ f.frac ≤ n ∧ n + 1 ≤ 2 ^ (f.frac + 1) := by
  have hpos : 0 < 2 ^ f.frac := by positivity
  refine ⟨x / 2 ^ f.frac - 1, 2 ^ f.frac + x % 2 ^ f.frac, ?_, Nat.le_add_right _ _, ?_⟩
  · have h1 : 1 ≤ x / 2 ^ f.frac := (Nat.one_le_div_iff hpos).mpr h
    have h2 := Nat.div_add_mod' x (2 ^ f.frac)
    obtain ⟨q, hq⟩ := Nat.exists_eq_add_of_le h1
    rw [hq] at h2 ⊢
    rw [Nat.add_sub_cancel_left]; linarith
  · rw [pow_succ]
    have := Nat.mod_lt x hpos
    omega

/-- The values rise with the patterns. -/
theorem magnitudeValue_strictMono (f : FpFormat) : StrictMono (magnitudeValue f) := by
  apply strictMono_nat_of_lt_succ
  intro x
  have hu := leastValue_pos f
  rcases Nat.lt_or_ge x (2 ^ f.frac) with hx | hx
  · rw [magnitudeValue_subnormal f hx.le, magnitudeValue_subnormal f hx]
    push_cast; linarith
  · obtain ⟨j, n, rfl, h1, h2⟩ := exists_binade f hx
    rw [magnitudeValue_normal f j h1 (by omega), add_assoc, magnitudeValue_normal f j (by omega) h2]
    have : (0 : ℚ) < 2 ^ j * leastValue f := by positivity
    push_cast; linarith

/-! ### The order of signed values -/

/-- The integer that orders patterns as their values are ordered: the magnitude with the sign. -/
def signedPattern (f : FpFormat) (x : Nat) : ℤ := if fpSign f x then -(fpMagnitude f x : ℤ) else fpMagnitude f x

/-- The value of a magnitude with its sign. -/
def signedValue (f : FpFormat) (k : ℤ) : ℚ := if 0 ≤ k then magnitudeValue f k.natAbs else -magnitudeValue f k.natAbs

theorem signedValue_neg (f : FpFormat) (k : ℤ) : signedValue f (-k) = -signedValue f k := by
  unfold signedValue
  rw [Int.natAbs_neg]
  rcases lt_trichotomy k 0 with h | rfl | h
  · rw [if_pos (by omega), if_neg (by omega), neg_neg]
  · simp
  · rw [if_neg (by omega), if_pos (by omega)]

theorem signedValue_natCast (f : FpFormat) (n : Nat) : signedValue f n = magnitudeValue f n := by
  rw [signedValue, if_pos (Int.natCast_nonneg n), Int.natAbs_natCast]

theorem signedValue_strictMono (f : FpFormat) : StrictMono (signedValue f) := by
  refine strictMono_of_odd_strictMonoOn_nonneg (signedValue_neg f) fun a ha b hb h => ?_
  obtain ⟨m, rfl⟩ := Int.eq_ofNat_of_zero_le ha
  obtain ⟨n, rfl⟩ := Int.eq_ofNat_of_zero_le hb
  rw [signedValue_natCast, signedValue_natCast]
  exact magnitudeValue_strictMono f (by omega)

theorem patternValue_eq_signedValue (f : FpFormat) {x : Nat} (h : x < 2 * f.signBit) :
    patternValue f x = signedValue f (signedPattern f x) := by
  unfold patternValue signedPattern fpSign fpMagnitude
  by_cases hs : f.signBit ≤ x
  · have hm : x % f.signBit = x - f.signBit := by rw [Nat.mod_eq_sub_mod hs, Nat.mod_eq_of_lt (by omega)]
    rw [if_pos hs, if_pos (decide_eq_true hs), hm, signedValue_neg, signedValue_natCast]
  · rw [if_neg hs, if_neg (by simpa using hs), Nat.mod_eq_of_lt (by omega), signedValue_natCast]

theorem patternValue_lt_iff (f : FpFormat) {a b : Nat} (ha : a < 2 * f.signBit) (hb : b < 2 * f.signBit) :
    patternValue f a < patternValue f b ↔ signedPattern f a < signedPattern f b := by
  rw [patternValue_eq_signedValue f ha, patternValue_eq_signedValue f hb]
  exact (signedValue_strictMono f).lt_iff_lt

theorem patternValue_eq_iff (f : FpFormat) {a b : Nat} (ha : a < 2 * f.signBit) (hb : b < 2 * f.signBit) :
    patternValue f a = patternValue f b ↔ signedPattern f a = signedPattern f b := by
  rw [patternValue_eq_signedValue f ha, patternValue_eq_signedValue f hb]
  exact (signedValue_strictMono f).injective.eq_iff

/-! ### Compares (rule R989) -/

theorem fpRelation_eq (f : FpFormat) (a b : Nat) :
    fpRelation f a b = if fpIsNan f a || fpIsNan f b then 3 else if signedPattern f a = signedPattern f b then 0
      else if signedPattern f a < signedPattern f b then 1 else 2 := rfl

theorem fpRelation_eq_three_iff (f : FpFormat) (a b : Nat) :
    fpRelation f a b = 3 ↔ fpIsNan f a = true ∨ fpIsNan f b = true := by
  rw [fpRelation_eq, ← Bool.or_eq_true]
  split <;> rename_i h
  · simp [h]
  · simp only [h]
    split_ifs <;> decide

/-- The relation of two numbers is that of their values. -/
theorem fpRelation_of_numbers (f : FpFormat) {a b : Nat} (ha : a < 2 * f.signBit) (hb : b < 2 * f.signBit)
    (h : fpRelation f a b ≠ 3) :
    (fpRelation f a b = 0 ↔ patternValue f a = patternValue f b) ∧ (fpRelation f a b = 1 ↔ patternValue f a < patternValue f b) := by
  rw [patternValue_eq_iff f ha hb, patternValue_lt_iff f ha hb]
  rw [Ne, fpRelation_eq_three_iff, ← Bool.or_eq_true] at h
  rw [fpRelation_eq, if_neg h]
  rcases lt_trichotomy (signedPattern f a) (signedPattern f b) with hlt | heq | hgt
  · simp [hlt, hlt.ne]
  · simp [heq]
  · simp [hgt.ne', hgt.not_gt]

theorem fsrSetFcc_eq (f : Fsr) (cc v : BitVec 2) :
    fsrSetFcc f cc v = { f with
      fcc0 := if cc = 0 then v else f.fcc0, fcc1 := if cc = 1 then v else f.fcc1
      fcc2 := if cc = 2 then v else f.fcc2, fcc3 := if cc = 3 then v else f.fcc3 } := by
  have hcc : cc = 0 ∨ cc = 1 ∨ cc = 2 ∨ cc = 3 := by revert cc; decide
  rcases hcc with rfl | rfl | rfl | rfl <;> rfl

/-- The only exception a compare detects is nv. -/
theorem noneEnabled_invalid {tem : IeeeFlags} {nv : Bool} (h : (nv && tem.nv) = false) :
    NoneEnabled tem ⟨nv, false, false, false, false⟩ := by
  rw [Bool.and_comm] at h
  exact ⟨h, Bool.and_false _, Bool.and_false _, Bool.and_false _, Bool.and_false _⟩

theorem oneTraps_invalid {tem : IeeeFlags} {nv : Bool} (h : (nv && tem.nv) = true) :
    OneTraps tem ⟨nv, false, false, false, false⟩ ⟨nv, false, false, false, false⟩ := by
  obtain ⟨rfl, ht⟩ := Bool.and_eq_true_iff.mp h
  exact ⟨fun ⟨hnv, _⟩ => by simp [ht] at hnv, by simp [ht], by simp [ht], by simp [ht], by simp [ht], by simp [ht]⟩

/-- What a compare does (rule R989). -/
theorem compareFp_outcomes {i : Instr} {s : State} {cc : BitVec 2} {f : FpFormat} {a b : Nat} {nv : Bool}
    (hi : exec i s = compareFp s cc (fpRelation f a b) nv) (ha : a < 2 * f.signBit) (hb : b < 2 * f.signBit) (e : IeeeFlags)
    (he : e = ⟨nv, false, false, false, false⟩) :
    (s.pstate.pef = true → s.fprs.fef = true → (nv && s.fsr.tem.nv) = false → ∃ (t : State) (v : BitVec 2), exec i s = .next t
      ∧ SameBytes s t ∧ (v = 3 ↔ fpIsNan f a = true ∨ fpIsNan f b = true)
      ∧ (v ≠ 3 → (v = 0 ↔ patternValue f a = patternValue f b) ∧ (v = 1 ↔ patternValue f a < patternValue f b))
      ∧ t = advance { s with fsr := { fsrCompleted s.fsr e with
          fcc0 := if cc = 0 then v else s.fsr.fcc0, fcc1 := if cc = 1 then v else s.fsr.fcc1
          fcc2 := if cc = 2 then v else s.fsr.fcc2, fcc3 := if cc = 3 then v else s.fsr.fcc3 } })
    ∧ (s.pstate.pef = true → s.fprs.fef = true → (nv && s.fsr.tem.nv) = true →
      exec i s = .next (takeTrap { s with fsr := { s.fsr with ftt := 1, cexc := e } } .fpExceptionIeee754))
    ∧ (s.pstate.pef = false ∨ s.fprs.fef = false → exec i s = .next (takeTrap s .fpDisabled)) := by
  subst he
  rw [hi, compareFp]
  refine ⟨fun hp hf h => ⟨_, fpRelation f a b, ?_, ?_, fpRelation_eq_three_iff f a b,
    fpRelation_of_numbers f ha hb, rfl⟩, fun hp hf h => ?_, fun h => ?_⟩
  · rw [if_pos (fpuEnabled_of hp hf)]
    refine (finishFp_of_noneEnabled (noneEnabled_invalid h)).trans ?_
    rw [fsrSetFcc_eq]; rfl
  · exact sameBytes_of rfl rfl
  · rw [if_pos (fpuEnabled_of hp hf)]
    exact finishFp_of_oneTraps (oneTraps_invalid h)
  · rw [(fpuEnabled_eq_false_iff s).mpr h]; rfl

/-- Settles O56: the four compares are `compareFp` with the relation of the values. -/
theorem floatingPointCompares : Obligations.FloatingPointCompares := by
  rintro cc rs1 rs2 s a b x y e rfl rfl rfl rfl
  have single (r : BitVec 5) : (getFS s r).toNat < 2 * FpFormat.single.signBit := (getFS s r).isLt
  have double (r : BitVec 5) : (getFD s r).toNat < 2 * FpFormat.double.signBit := (getFD s r).isLt
  simp only [List.forall_mem_cons]
  exact ⟨compareFp_outcomes rfl (single rs1) (single rs2) e, compareFp_outcomes rfl (single rs1) (single rs2) e,
    compareFp_outcomes rfl (double rs1) (double rs2) e, compareFp_outcomes rfl (double rs1) (double rs2) e, by simp⟩

end Sys2Proof.Machine

/-! PROOFS. Rounding (O54): an exact positive value is counted in spaces of its binade, the count is rounded to an integer, and the
pattern so many spaces on is the rounded value. -/

namespace Sys2Proof.Machine

/-! ### Fractions -/

/-- The number a fraction is. -/
def FpFraction.value (x : FpFraction) : ℚ := (x.num : ℚ) / x.den

theorem FpFraction.value_pos {x : FpFraction} (hn : 0 < x.num) (hd : 0 < x.den) : 0 < x.value := by
  unfold FpFraction.value; positivity

theorem FpFraction.shift_den_pos {x : FpFraction} (hd : 0 < x.den) (k : ℤ) : 0 < (x.shift k).den := by
  unfold FpFraction.shift
  split
  · exact hd
  · positivity

theorem FpFraction.shift_value (x : FpFraction) (k : ℤ) : (x.shift k).value = x.value / 2 ^ k := by
  unfold FpFraction.shift FpFraction.value
  split
  · next hk =>
    obtain ⟨n, rfl⟩ : ∃ n : Nat, k = -n := ⟨(-k).toNat, by omega⟩
    rw [neg_neg, Int.toNat_natCast, zpow_neg, zpow_natCast]
    push_cast
    field_simp
  · next hk =>
    obtain ⟨n, rfl⟩ := Int.eq_ofNat_of_zero_le (not_lt.mp hk)
    rw [Int.toNat_natCast, zpow_natCast]
    push_cast
    rw [div_div]

/-- Numerator and denominator compare as the value and 1 do. -/
theorem FpFraction.num_lt_den_iff {x : FpFraction} (hd : 0 < x.den) : x.num < x.den ↔ x.value < 1 := by
  unfold FpFraction.value
  rw [div_lt_one (by exact_mod_cast hd), Nat.cast_lt]

/-- `log2` is the floor of the base-2 logarithm. -/
theorem FpFraction.log2_spec {x : FpFraction} (hn : 0 < x.num) (hd : 0 < x.den) :
    (2 : ℚ) ^ x.log2 ≤ x.value ∧ x.value < 2 ^ (x.log2 + 1) := by
  have hpow (k : ℤ) : (0 : ℚ) < 2 ^ k := zpow_pos two_pos k
  have hbounds {n : Nat} (h : 0 < n) : (2 : ℚ) ^ (n.log2 : ℤ) ≤ n ∧ (n : ℚ) < 2 ^ ((n.log2 : ℤ) + 1) := by
    constructor
    · rw [zpow_natCast]; exact_mod_cast Nat.log2_self_le h.ne'
    · rw [← Nat.cast_succ, zpow_natCast]; exact_mod_cast Nat.lt_log2_self
  obtain ⟨hnl, hnu⟩ := hbounds hn
  obtain ⟨hdl, hdu⟩ := hbounds hd
  have hdq : (0 : ℚ) < x.den := by exact_mod_cast hd
  have hlow : (2 : ℚ) ^ ((x.num.log2 : ℤ) - x.den.log2 - 1) < x.value := by
    rw [FpFraction.value, lt_div_iff₀ hdq]
    calc (2 : ℚ) ^ ((x.num.log2 : ℤ) - x.den.log2 - 1) * x.den
        < 2 ^ ((x.num.log2 : ℤ) - x.den.log2 - 1) * 2 ^ ((x.den.log2 : ℤ) + 1) := mul_lt_mul_of_pos_left hdu (hpow _)
      _ = 2 ^ (x.num.log2 : ℤ) := by rw [← zpow_add₀ two_ne_zero]; congr 1; ring
      _ ≤ x.num := hnl
  have hhigh : x.value < 2 ^ ((x.num.log2 : ℤ) - x.den.log2 + 1) := by
    rw [FpFraction.value, div_lt_iff₀ hdq]
    calc (x.num : ℚ) < 2 ^ ((x.num.log2 : ℤ) + 1) := hnu
      _ = 2 ^ ((x.num.log2 : ℤ) - x.den.log2 + 1) * 2 ^ (x.den.log2 : ℤ) := by
        rw [← zpow_add₀ two_ne_zero]; congr 1; ring
      _ ≤ 2 ^ ((x.num.log2 : ℤ) - x.den.log2 + 1) * x.den := mul_le_mul_of_nonneg_left hdl (hpow _).le
  unfold FpFraction.log2
  simp only [num_lt_den_iff (shift_den_pos hd _), shift_value, div_lt_one (hpow _)]
  split
  · next h => exact ⟨hlow.le, by rwa [sub_add_cancel]⟩
  · next h => exact ⟨not_lt.mp h, hhigh⟩

/-! ### Rounding to an integer -/

/-- `m` is `w` rounded to an integer as the mode says; `RoundedTo` says the same of patterns. -/
def RoundedInteger (mode : BitVec 2) (sign : Bool) (w : ℚ) (m : Nat) : Prop :=
  (mode = 0 → ((m : ℚ) ≤ w → 2 * (w - m) ≤ 1 ∧ (2 * (w - m) = 1 → m % 2 = 0))
    ∧ (w < m → 2 * (m - w) ≤ 1 ∧ (2 * (m - w) = 1 → m % 2 = 0)))
  ∧ (RoundsAway mode sign → w ≤ m ∧ (m : ℚ) < w + 1)
  ∧ (mode ≠ 0 → ¬RoundsAway mode sign → (m : ℚ) ≤ w ∧ w < m + 1)

/-- Rounding moves a value by less than 1. -/
theorem RoundedInteger.close {mode : BitVec 2} {sign : Bool} {w : ℚ} {m : Nat} (h : RoundedInteger mode sign w m) :
    (m : ℚ) < w + 1 ∧ w < m + 1 := by
  obtain ⟨hnear, haway, hzero⟩ := h
  by_cases h0 : mode = 0
  · obtain ⟨hle, hgt⟩ := hnear h0
    rcases le_or_gt (m : ℚ) w with hw | hw
    · have := (hle hw).1
      constructor <;> linarith
    · have := (hgt hw).1
      constructor <;> linarith
  · by_cases ha : RoundsAway mode sign
    · obtain ⟨h1, h2⟩ := haway ha
      exact ⟨h2, by linarith⟩
    · obtain ⟨h1, h2⟩ := hzero h0 ha
      exact ⟨by linarith, h2⟩

/-- Rounding does not leave an interval with integer ends. -/
theorem RoundedInteger.mem_Icc {mode : BitVec 2} {sign : Bool} {w : ℚ} {m lo hi : Nat} (h : RoundedInteger mode sign w m)
    (hlo : (lo : ℚ) ≤ w) (hhi : w < hi) : lo ≤ m ∧ m ≤ hi := by
  obtain ⟨h1, h2⟩ := h.close
  have hlo' : (lo : ℚ) < (m + 1 : Nat) := by push_cast; linarith
  have hhi' : (m : ℚ) < (hi + 1 : Nat) := by push_cast; linarith
  exact ⟨Nat.lt_succ_iff.mp (by exact_mod_cast hlo'), Nat.lt_succ_iff.mp (by exact_mod_cast hhi')⟩

/-- Whether `roundInteger` takes the integer above the quotient. -/
def roundsUp (mode : BitVec 2) (sign : Bool) (x : FpFraction) : Bool :=
  if mode = 0 then decide (x.den < 2 * (x.num % x.den)) || (2 * (x.num % x.den) == x.den && x.num / x.den % 2 == 1)
  else if mode = 1 then false
  else if mode = 2 then !sign && x.num % x.den != 0
  else sign && x.num % x.den != 0

theorem roundInteger_eq (mode : BitVec 2) (sign : Bool) (x : FpFraction) :
    roundInteger mode sign x = (if roundsUp mode sign x then x.num / x.den + 1 else x.num / x.den, x.num % x.den != 0) := rfl

/-- The value as quotient and remainder. -/
theorem FpFraction.value_eq {x : FpFraction} (hd : 0 < x.den) :
    x.value = (x.num / x.den : Nat) + ((x.num % x.den : Nat) : ℚ) / x.den := by
  have hdq : (0 : ℚ) < x.den := by exact_mod_cast hd
  have h : (x.num : ℚ) = (x.num / x.den : Nat) * x.den + (x.num % x.den : Nat) := by
    exact_mod_cast (Nat.div_add_mod' x.num x.den).symm
  rw [FpFraction.value, h]
  field_simp

theorem roundsUp_away {mode : BitVec 2} {sign : Bool} (h : RoundsAway mode sign) (x : FpFraction) :
    roundsUp mode sign x = (x.num % x.den != 0) := by
  rcases h with ⟨rfl, rfl⟩ | ⟨rfl, rfl⟩ <;> rfl

theorem roundsUp_toward_zero {mode : BitVec 2} {sign : Bool} (h0 : mode ≠ 0) (h : ¬RoundsAway mode sign) (x : FpFraction) :
    roundsUp mode sign x = false := by
  have hmode : mode = 1 ∨ mode = 2 ∨ mode = 3 := by clear h; revert mode; decide
  rcases hmode with rfl | rfl | rfl
  · rfl
  · cases sign with
    | false => exact absurd (.inl ⟨rfl, rfl⟩) h
    | true => rfl
  · cases sign with
    | false => rfl
    | true => exact absurd (.inr ⟨rfl, rfl⟩) h

theorem roundsUp_nearest (sign : Bool) (x : FpFraction) : roundsUp 0 sign x = true ↔
    x.den < 2 * (x.num % x.den) ∨ (2 * (x.num % x.den) = x.den ∧ x.num / x.den % 2 = 1) := by
  simp [roundsUp]

/-- The remainder as a part of the denominator, against 1/2. -/
theorem FpFraction.remainder_bounds {x : FpFraction} (hd : 0 < x.den) {t : ℚ} (ht : t = ((x.num % x.den : Nat) : ℚ) / x.den) :
    0 ≤ t ∧ t < 1 ∧ (t = 0 ↔ x.num % x.den = 0) ∧ (1 < 2 * t ↔ x.den < 2 * (x.num % x.den))
      ∧ (2 * t = 1 ↔ 2 * (x.num % x.den) = x.den) := by
  have hdq : (0 : ℚ) < x.den := by exact_mod_cast hd
  have hr : ((x.num % x.den : Nat) : ℚ) < x.den := by exact_mod_cast Nat.mod_lt x.num hd
  subst ht
  refine ⟨by positivity, (div_lt_one hdq).mpr hr, by simp [hd.ne'], ?_, ?_⟩
  · rw [← mul_div_assoc, one_lt_div hdq]; norm_cast
  · rw [← mul_div_assoc, div_eq_one_iff_eq hdq.ne']; norm_cast

/-- `roundInteger` rounds as the mode says. -/
theorem roundInteger_rounded (mode : BitVec 2) (sign : Bool) {x : FpFraction} (hd : 0 < x.den) :
    RoundedInteger mode sign x.value (roundInteger mode sign x).1 := by
  obtain ⟨ht0, ht1, hzero, hover, hhalf⟩ := x.remainder_bounds hd rfl
  rw [roundInteger_eq, x.value_eq hd]
  generalize ((x.num % x.den : Nat) : ℚ) / x.den = t at *
  refine ⟨?_, fun ha => ?_, fun h0 ha => ?_⟩
  · rintro rfl
    cases hup : roundsUp 0 sign x with
    | true =>
      rw [roundsUp_nearest, ← hover, ← hhalf] at hup
      simp only [if_true, Nat.cast_add, Nat.cast_one]
      refine ⟨fun h => by linarith, fun _ => ⟨?_, fun h => ?_⟩⟩
      · rcases hup with h | ⟨h, -⟩ <;> linarith
      · rcases hup with h' | ⟨-, h'⟩
        · linarith
        · omega
    | false =>
      rw [← Bool.not_eq_true, roundsUp_nearest, ← hover, ← hhalf, not_or, not_and, not_lt] at hup
      simp only [Bool.false_eq_true, if_false]
      refine ⟨fun _ => ⟨by linarith [hup.1], fun h => ?_⟩, fun h => by linarith⟩
      have := hup.2 (by linarith)
      omega
  · rw [roundsUp_away ha]
    by_cases hr : x.num % x.den = 0
    · rw [hzero.mpr hr]
      simp [hr]
    · have : 0 < t := lt_of_le_of_ne ht0 fun e => hr (hzero.mp e.symm)
      simp only [bne_iff_ne, ne_eq, hr, not_false_eq_true, if_true, Nat.cast_add, Nat.cast_one]
      constructor <;> linarith
  · rw [roundsUp_toward_zero h0 ha]
    simp only [Bool.false_eq_true, if_false]
    constructor <;> linarith

/-- `roundInteger` says whether it changed the value. -/
theorem roundInteger_inexact (mode : BitVec 2) (sign : Bool) {x : FpFraction} (hd : 0 < x.den) :
    (roundInteger mode sign x).2 = true ↔ ((roundInteger mode sign x).1 : ℚ) ≠ x.value := by
  obtain ⟨ht0, ht1, hzero, hover, hhalf⟩ := x.remainder_bounds hd rfl
  obtain ⟨hlow, hhigh⟩ := (roundInteger_rounded mode sign hd).close
  rw [roundInteger_eq, x.value_eq hd] at *
  rw [bne_iff_ne, ne_eq, not_iff_not, ← hzero]
  generalize ((x.num % x.den : Nat) : ℚ) / x.den = t at *
  dsimp only at *
  split_ifs at * with hup
  · push_cast at *
    constructor <;> intro h <;> linarith
  · constructor <;> intro h <;> linarith

/-! ### From the integer to the pattern -/

/-- Where the patterns from `base + lo` to `base + hi` are `u` apart and `v` is `w` spaces, `lo ≤ w < hi`, the pattern `n` spaces on
is `v` rounded, if `n` is `w` rounded. -/
theorem RoundedInteger.roundedTo {f : FpFormat} {mode : BitVec 2} {sign : Bool} {v w u : ℚ} {base lo hi n : Nat}
    (h : RoundedInteger mode sign w n) (hv : v = w * u) (hw : 0 < w) (hu : 0 < u) (hbase : base % 2 = 0)
    (hgrid : ∀ i, lo ≤ i → i ≤ hi → magnitudeValue f (base + i) = i * u) (hlo : (lo : ℚ) ≤ w) (hhi : w < hi) :
    RoundedTo f mode sign v (base + n) := by
  subst hv
  obtain ⟨hn1, hn2⟩ := h.mem_Icc hlo hhi
  obtain ⟨hclose1, hclose2⟩ := h.close
  obtain ⟨hnear, haway, hzero⟩ := h
  rw [RoundedTo, hgrid n hn1 hn2]
  have hnext (hle : (n : ℚ) ≤ w) : magnitudeValue f (base + n + 1) = (n + 1 : ℚ) * u := by
    have : n < hi := by exact_mod_cast hle.trans_lt hhi
    rw [add_assoc, hgrid (n + 1) (by omega) (by omega)]; push_cast; rfl
  have hprev (hlt : w < n) : magnitudeValue f (base + n - 1) = (n - 1 : ℚ) * u := by
    have hlt' : lo < n := by exact_mod_cast hlo.trans_lt hlt
    rw [Nat.add_sub_assoc (by omega), hgrid (n - 1) (by omega) (by omega), Nat.cast_sub (by omega), Nat.cast_one]
  refine ⟨fun h0 => ⟨fun hle => ?_, fun hlt => ?_⟩, fun ha => ?_, fun h0 ha => ?_⟩
  · have hle : (n : ℚ) ≤ w := le_of_mul_le_mul_right hle hu
    obtain ⟨hhalf, htie⟩ := (hnear h0).1 hle
    rw [hnext hle]
    refine ⟨by nlinarith, fun heq => ?_⟩
    have : 2 * (w - n) = 1 := mul_right_cancel₀ hu.ne' (by linarith)
    have := htie this
    omega
  · have hlt : w < n := lt_of_mul_lt_mul_right hlt hu.le
    obtain ⟨hhalf, htie⟩ := (hnear h0).2 hlt
    rw [hprev hlt]
    refine ⟨by nlinarith, fun heq => ?_⟩
    have : 2 * (n - w) = 1 := mul_right_cancel₀ hu.ne' (by linarith)
    have := htie this
    omega
  · obtain ⟨hle, -⟩ := haway ha
    refine ⟨mul_le_mul_of_nonneg_right hle hu.le, ?_⟩
    rcases hle.lt_or_eq with hlt | heq
    · rw [hprev hlt]
      exact mul_lt_mul_of_pos_right (by linarith) hu
    · have hpos : 0 < n := by exact_mod_cast hw.trans_le hle
      rw [heq, ← hgrid n hn1 hn2]
      exact magnitudeValue_strictMono f (by omega)
  · obtain ⟨hle, hlt⟩ := hzero h0 ha
    rw [hnext hle]
    exact ⟨mul_le_mul_of_nonneg_right hle hu.le, mul_lt_mul_of_pos_right hlt hu⟩

/-! ### Overflow -/

/-- The mode's condition for overflow: the value rounds beyond the largest finite one. -/
def Overflows (f : FpFormat) (mode : BitVec 2) (sign : Bool) (v : ℚ) : Prop :=
  if mode = 0 then magnitudeValue f f.maxFinite + magnitudeValue f f.infinity ≤ 2 * v
  else if (mode = 2 ∧ sign = false) ∨ (mode = 3 ∧ sign = true) then magnitudeValue f f.maxFinite < v
  else magnitudeValue f f.infinity ≤ v

/-- The rounded pattern is infinity or beyond exactly where the value overflows. -/
theorem RoundedTo.infinity_le_iff {f : FpFormat} {mode : BitVec 2} {sign : Bool} {v : ℚ} {m : Nat}
    (h : RoundedTo f mode sign v m) (hpos : 0 < f.infinity) (heven : f.infinity % 2 = 0) :
    f.infinity ≤ m ↔ Overflows f mode sign v := by
  have hmono := magnitudeValue_strictMono f
  obtain ⟨hnear, haway, hzero⟩ := h
  have hmax : f.maxFinite + 1 = f.infinity := by unfold FpFormat.maxFinite; omega
  unfold Overflows
  split_ifs with h0 ha
  · obtain ⟨hle, hgt⟩ := hnear h0
    constructor
    · intro hm
      have h1 := hmono.monotone hm
      rcases le_or_gt (magnitudeValue f m) v with hv | hv
      · have h2 := hmono (show f.maxFinite < f.infinity by omega)
        linarith
      · have h2 := hmono.monotone (show f.maxFinite ≤ m - 1 by omega)
        linarith [(hgt hv).1]
    · intro hsum
      by_contra hm
      have h1 := hmono.monotone (show m ≤ f.maxFinite by omega)
      have h2 := hmono.monotone (show m + 1 ≤ f.infinity by omega)
      rcases le_or_gt (magnitudeValue f m) v with hv | hv
      · obtain ⟨hhalf, htie⟩ := hle hv
        have heven' := htie (by linarith)
        have : m = f.maxFinite := hmono.injective (by linarith)
        omega
      · have h3 := hmono (show f.maxFinite < f.infinity by omega)
        linarith
  · obtain ⟨hle, hlt⟩ := haway ha
    constructor
    · intro hm
      exact (hmono.monotone (show f.maxFinite ≤ m - 1 by omega)).trans_lt hlt
    · intro hv
      have := hmono.lt_iff_lt.mp (hv.trans_le hle)
      omega
  · obtain ⟨hle, hlt⟩ := hzero h0 ha
    constructor
    · intro hm
      exact (hmono.monotone hm).trans hle
    · intro hv
      have := hmono.lt_iff_lt.mp (hv.trans_lt hlt)
      omega

/-! ### Deliver (rule R964) -/

/-- The pattern `deliver` rounds to, infinity or beyond where it overflows, and whether rounding changed the value. -/
def roundedPattern (f : FpFormat) (mode : BitVec 2) (sign : Bool) (x : FpFraction) : Nat × Bool :=
  if x.log2 < 1 - (f.bias : ℤ) then roundInteger mode sign (x.shift (1 - (f.bias : ℤ) - f.frac))
  else ((x.log2 + f.bias - 1).toNat * 2 ^ f.frac + (roundInteger mode sign (x.shift (x.log2 - f.frac))).1,
    (roundInteger mode sign (x.shift (x.log2 - f.frac))).2)

theorem deliver_of_tiny {f : FpFormat} {rnd : Rounding} {sign : Bool} {x : FpFraction} (hn : 0 < x.num)
    (h : x.log2 < 1 - (f.bias : ℤ)) :
    deliver f rnd sign x = ⟨fpWithSign f sign (roundedPattern f rnd.mode sign x).1,
      ⟨false, false, rnd.ufm || (roundedPattern f rnd.mode sign x).2, false, (roundedPattern f rnd.mode sign x).2⟩⟩ := by
  unfold deliver roundedPattern
  rw [if_neg hn.ne', if_pos h, if_pos h]; rfl

theorem deliver_of_normal {f : FpFormat} {rnd : Rounding} {sign : Bool} {x : FpFraction} (hn : 0 < x.num)
    (h : ¬x.log2 < 1 - (f.bias : ℤ)) :
    deliver f rnd sign x = if f.infinity ≤ (roundedPattern f rnd.mode sign x).1 then overflowResult f rnd.mode sign
      else ⟨fpWithSign f sign (roundedPattern f rnd.mode sign x).1,
        ⟨false, false, false, false, (roundedPattern f rnd.mode sign x).2⟩⟩ := by
  unfold deliver roundedPattern
  rw [if_neg hn.ne', if_neg h, if_neg h]; rfl

/-- Below the least normal value exactly where the logarithm says so. -/
theorem log2_lt_iff_tiny (f : FpFormat) {x : FpFraction} (hn : 0 < x.num) (hd : 0 < x.den) :
    x.log2 < 1 - (f.bias : ℤ) ↔ x.value < magnitudeValue f (2 ^ f.frac) := by
  obtain ⟨hlow, hhigh⟩ := x.log2_spec hn hd
  have hleast : magnitudeValue f (2 ^ f.frac) = 2 ^ (1 - (f.bias : ℤ)) := by
    rw [magnitudeValue_subnormal f le_rfl, leastValue, zpow_sub₀ two_ne_zero _ (f.frac : ℤ), zpow_natCast]
    push_cast
    field_simp
  rw [hleast]
  constructor
  · intro h
    exact hhigh.trans_le (zpow_le_zpow_right₀ one_le_two (by omega))
  · intro h
    exact (zpow_lt_zpow_iff_right₀ one_lt_two).mp (hlow.trans_lt h)

/-- The pattern is the value rounded, it says whether it is the value itself, and a tiny value stays at or below the least normal. -/
theorem roundedPattern_spec {f : FpFormat} (hfrac : 0 < f.frac) (mode : BitVec 2) (sign : Bool) {x : FpFraction} (hn : 0 < x.num)
    (hd : 0 < x.den) :
    RoundedTo f mode sign x.value (roundedPattern f mode sign x).1
    ∧ ((roundedPattern f mode sign x).2 = true ↔ magnitudeValue f (roundedPattern f mode sign x).1 ≠ x.value)
    ∧ (x.log2 < 1 - (f.bias : ℤ) → (roundedPattern f mode sign x).1 ≤ 2 ^ f.frac) := by
  obtain ⟨hlow, hhigh⟩ := x.log2_spec hn hd
  have hpos := x.value_pos hn hd
  unfold roundedPattern
  split_ifs with htiny
  · have hround := roundInteger_rounded mode sign (x.shift_den_pos hd (1 - (f.bias : ℤ) - f.frac))
    have hinexact := roundInteger_inexact mode sign (x.shift_den_pos hd (1 - (f.bias : ℤ) - f.frac))
    have hu := leastValue_pos f
    rw [x.shift_value, ← leastValue] at hround hinexact
    have hlt : x.value / leastValue f < (2 ^ f.frac : Nat) := by
      rw [div_lt_iff₀ hu, ← magnitudeValue_subnormal f le_rfl]
      exact (log2_lt_iff_tiny f hn hd).mp htiny
    have hle := (hround.mem_Icc (lo := 0) (by simpa using (div_pos hpos hu).le) hlt).2
    have hgrid (i : Nat) (_ : 0 ≤ i) (hi : i ≤ 2 ^ f.frac) : magnitudeValue f (0 + i) = i * leastValue f := by
      rw [zero_add, magnitudeValue_subnormal f hi]
    refine ⟨?_, ?_, fun _ => hle⟩
    · have := hround.roundedTo (div_mul_cancel₀ _ hu.ne').symm (div_pos hpos hu) hu (Nat.zero_mod 2) hgrid
        (by simpa using (div_pos hpos hu).le) hlt
      rwa [zero_add] at this
    · rw [hinexact, magnitudeValue_subnormal f hle, ne_eq, ne_eq, eq_div_iff hu.ne']
  · have hround := roundInteger_rounded mode sign (x.shift_den_pos hd (x.log2 - f.frac))
    have hinexact := roundInteger_inexact mode sign (x.shift_den_pos hd (x.log2 - f.frac))
    obtain ⟨j, hj⟩ : ∃ j : Nat, x.log2 = j + 1 - f.bias := ⟨(x.log2 + f.bias - 1).toNat, by omega⟩
    have hjn : (x.log2 + f.bias - 1).toNat = j := by omega
    have hspace : (2 : ℚ) ^ (x.log2 - f.frac) = 2 ^ j * leastValue f := by
      rw [leastValue, ← zpow_natCast, ← zpow_add₀ two_ne_zero, hj]; congr 1; ring
    have hu : 0 < (2 : ℚ) ^ j * leastValue f := by have := leastValue_pos f; positivity
    rw [x.shift_value, hspace] at hround hinexact
    have hscale (k : Nat) : (2 : ℚ) ^ (x.log2 + k) = (2 ^ (f.frac + k) : Nat) * (2 ^ j * leastValue f) := by
      rw [← hspace]; push_cast
      rw [← zpow_natCast, ← zpow_add₀ two_ne_zero]; congr 1; push_cast; ring
    have hlo : ((2 ^ f.frac : Nat) : ℚ) ≤ x.value / (2 ^ j * leastValue f) := by
      rw [le_div_iff₀ hu, ← add_zero f.frac, ← hscale 0]; simpa using hlow
    have hhi : x.value / (2 ^ j * leastValue f) < (2 ^ (f.frac + 1) : Nat) := by
      rw [div_lt_iff₀ hu, ← hscale 1]; simpa using hhigh
    obtain ⟨hle1, hle2⟩ := hround.mem_Icc hlo hhi
    rw [hjn]
    refine ⟨?_, ?_, fun h => absurd h htiny⟩
    · refine hround.roundedTo (div_mul_cancel₀ _ hu.ne').symm (div_pos hpos hu) hu ?_ (fun i => magnitudeValue_normal f j) hlo hhi
      obtain ⟨k, hk⟩ := Nat.exists_eq_succ_of_ne_zero hfrac.ne'
      rw [hk, pow_succ, ← mul_assoc, Nat.mul_mod_left]
    · rw [hinexact, magnitudeValue_normal f j hle1 hle2, ne_eq, ne_eq, eq_div_iff hu.ne']

/-! ### The statement -/

/-- What the statement says of the result `r` with magnitude `m` for the value `v`. -/
def CorrectlyRounded (f : FpFormat) (rnd : Rounding) (sign : Bool) (v : ℚ) (r : FpResult) (m : Nat) : Prop :=
  r.bits = (if sign = true then f.signBit else 0) + m ∧ m ≤ f.infinity ∧ r.flags.nv = false ∧ r.flags.dz = false
    ∧ (r.flags.of = true ↔ Overflows f rnd.mode sign v)
    ∧ (r.flags.of = true → r.flags.nx = true
        ∧ m = if rnd.mode = 0 ∨ (rnd.mode = 2 ∧ sign = false) ∨ (rnd.mode = 3 ∧ sign = true) then f.infinity else f.maxFinite)
    ∧ (r.flags.of = false → m < f.infinity ∧ RoundedTo f rnd.mode sign v m ∧ (r.flags.nx = true ↔ magnitudeValue f m ≠ v))
    ∧ (r.flags.uf = true ↔ v < magnitudeValue f (2 ^ f.frac) ∧ (rnd.ufm = true ∨ magnitudeValue f m ≠ v))

theorem fpWithSign_eq (f : FpFormat) (sign : Bool) (mag : Nat) :
    fpWithSign f sign mag = (if sign = true then f.signBit else 0) + mag := by
  cases sign
  · exact (Nat.zero_add mag).symm
  · rfl

/-- Infinity is even, above the least normal value, and fits beside the sign bit. -/
theorem infinity_bounds {f : FpFormat} (hfrac : 0 < f.frac) (hexp : 1 < f.exp) :
    f.infinity % 2 = 0 ∧ 2 ^ f.frac < f.infinity ∧ f.infinity < f.signBit := by
  have hpos : 0 < 2 ^ f.frac := by positivity
  have hexp4 : 2 ^ 2 ≤ 2 ^ f.exp := Nat.pow_le_pow_right (by decide) hexp
  refine ⟨?_, ?_, ?_⟩
  · obtain ⟨k, hk⟩ := Nat.exists_eq_succ_of_ne_zero hfrac.ne'
    rw [FpFormat.infinity, hk, pow_succ, ← mul_assoc, Nat.mul_mod_left]
  · rw [FpFormat.infinity, FpFormat.maxExp]
    exact lt_mul_left hpos (by omega)
  · rw [FpFormat.infinity, FpFormat.maxExp, FpFormat.signBit, add_comm f.frac, pow_add]
    exact Nat.mul_lt_mul_of_pos_right (by omega) hpos

theorem deliver_correctlyRounded {f : FpFormat} (hfrac : 0 < f.frac) (hexp : 1 < f.exp) (rnd : Rounding) (sign : Bool)
    {x : FpFraction} (hn : 0 < x.num) (hd : 0 < x.den) :
    CorrectlyRounded f rnd sign x.value (deliver f rnd sign x) ((deliver f rnd sign x).bits % f.signBit) := by
  obtain ⟨heven, hmin, hsign⟩ := infinity_bounds hfrac hexp
  obtain ⟨hround, hinexact, htinyle⟩ := roundedPattern_spec hfrac rnd.mode sign hn hd
  have hover := hround.infinity_le_iff (Nat.zero_lt_of_lt hmin) heven
  have hmag {mag : Nat} (h : mag ≤ f.infinity) : fpWithSign f sign mag % f.signBit = mag := by
    rw [fpWithSign_eq]
    split
    · rw [Nat.add_mod_left, Nat.mod_eq_of_lt (by omega)]
    · rw [zero_add, Nat.mod_eq_of_lt (by omega)]
  by_cases htiny : x.log2 < 1 - (f.bias : ℤ)
  · have hle := htinyle htiny
    rw [deliver_of_tiny hn htiny]
    dsimp only
    rw [hmag (by omega)]
    refine ⟨fpWithSign_eq _ _ _, by omega, rfl, rfl, ?_, nofun, fun _ => ⟨by omega, hround, hinexact⟩, ?_⟩
    · rw [← hover]
      exact ⟨nofun, fun h => by omega⟩
    · rw [← log2_lt_iff_tiny f hn hd, Bool.or_eq_true, hinexact]
      exact ⟨fun h => ⟨htiny, h⟩, fun h => h.2⟩
  · have hnottiny := mt (log2_lt_iff_tiny f hn hd).mpr htiny
    rw [deliver_of_normal hn htiny]
    split_ifs with hinf
    · have hmax : f.maxFinite ≤ f.infinity := Nat.sub_le _ _
      unfold overflowResult
      dsimp only
      rw [hmag (by split_ifs <;> omega)]
      refine ⟨fpWithSign_eq _ _ _, by split_ifs <;> omega, rfl, rfl, iff_of_true rfl (hover.mp hinf), fun _ => ⟨rfl, ?_⟩, nofun,
        ⟨nofun, fun h => absurd h.1 hnottiny⟩⟩
      simp only [Bool.not_eq_true']
    · dsimp only
      rw [hmag (by omega)]
      exact ⟨fpWithSign_eq _ _ _, by omega, rfl, rfl, iff_of_false nofun (mt hover.mpr hinf), nofun,
        fun _ => ⟨by omega, hround, hinexact⟩, ⟨nofun, fun h => absurd h.1 hnottiny⟩⟩

/-- Settles O54: `deliver` rounds correctly in every format with a fraction and at least two exponent bits. -/
theorem roundingIsCorrect : Obligations.RoundingIsCorrect := by
  refine ⟨?_, fun f rnd sign x hx => ?_⟩
  · rintro f hf rnd sign x v r m hn hd rfl rfl rfl
    have hformat : 0 < f.frac ∧ 1 < f.exp := by
      simp only [List.mem_cons, List.not_mem_nil, or_false] at hf
      rcases hf with rfl | rfl <;> decide
    exact deliver_correctlyRounded hformat.1 hformat.2 rnd sign hn hd
  · rw [deliver, if_pos hx, FpResult.exact, fpWithSign_eq, add_zero]

end Sys2Proof.Machine

/-! PROOFS. The 64-bit image of FSR: it is the number `fsrImage` says, and a load replaces the fields its mask names (rules R55, R57). -/

namespace Sys2Proof.Machine

theorem toNat_append_eq {m n : Nat} (x : BitVec m) (y : BitVec n) : (x ++ y).toNat = x.toNat * 2 ^ n + y.toNat := by
  rw [BitVec.toNat_append, ← Nat.shiftLeft_add_eq_or_of_lt y.isLt, Nat.shiftLeft_eq]

theorem ieeeImage_eq (e : IeeeFlags) : ieeeImage e = (ieeeBits e).toNat := by
  obtain ⟨nv, of, uf, dz, nx⟩ := e
  revert nv of uf dz nx; decide

theorem ieeeBits_ieeeOfBits (v : BitVec 5) : ieeeBits (ieeeOfBits v) = v := by revert v; decide

theorem fsrImage_eq (f : Fsr) : fsrImage f = (fsrBits f).toNat := by
  simp only [fsrImage, fsrBits, fsrLowBits, ieeeImage_eq, toNat_append_eq, BitVec.toNat_ofFin, BitVec.toNat_ofNat]
  ring

theorem ofNat_fsrImage (f : Fsr) : BitVec.ofNat 64 (fsrImage f) = fsrBits f := by
  rw [fsrImage_eq, BitVec.ofNat_toNat, BitVec.setWidth_eq]

/-- The fields of a low word of FSR, the reserved and constant ones among them. -/
theorem word_eq_fsr_fields (v : Word) : v = v.extractLsb' 30 2 ++ v.extractLsb' 28 2 ++ v.extractLsb' 23 5 ++ v.extractLsb' 20 3
    ++ v.extractLsb' 17 3 ++ v.extractLsb' 14 3 ++ v.extractLsb' 12 2 ++ v.extractLsb' 10 2 ++ v.extractLsb' 5 5
    ++ v.extractLsb' 0 5 := by
  simp only [BitVec.extractLsb'_append_extractLsb'_eq_extractLsb', BitVec.extractLsb'_eq_self]

/-- The fields above the low word. -/
theorem dword_eq_fsr_fields (v : DWord) :
    v = v.extractLsb' 38 26 ++ v.extractLsb' 36 2 ++ v.extractLsb' 34 2 ++ v.extractLsb' 32 2 ++ v.extractLsb' 0 32 := by
  simp only [BitVec.extractLsb'_append_extractLsb'_eq_extractLsb', BitVec.extractLsb'_eq_self]

/-- A concatenation whose parts are each a merge of two words under their masks is the merge of the concatenations. -/
theorem append_eq_merge {m n : Nat} {z x x' k k' : BitVec m} {u y y' l l' : BitVec n} (hz : z = x &&& k ||| x' &&& k')
    (hu : u = y &&& l ||| y' &&& l') : z ++ u = (x ++ y) &&& (k ++ l) ||| (x' ++ y') &&& (k' ++ l') := by
  rw [hz, hu, BitVec.and_append, BitVec.and_append, BitVec.or_append]

/-- A field that is kept. -/
theorem eq_merge_kept {n : Nat} (x y : BitVec n) : x = x &&& BitVec.allOnes n ||| y &&& 0#n := by simp

/-- A field that is loaded. -/
theorem eq_merge_loaded {n : Nat} (x y : BitVec n) : y = x &&& 0#n ||| y &&& BitVec.allOnes n := by simp

/-- A field that is zero and not loaded. -/
theorem eq_merge_zero {n : Nat} (x y : BitVec n) : 0#n = x &&& 0#n ||| y &&& 0#n := by simp

/-- LDFSR loads all fields of the low word but ver, ftt and the reserved bits. -/
theorem fsrLowBits_fsrLoadLow (f : Fsr) (v : Word) :
    fsrLowBits (fsrLoadLow f v) = fsrLowBits f &&& 0x000FF000 ||| v &&& 0xCF800FFF := by
  have hkeep : (0x000FF000 : Word) = 0#2 ++ 0#2 ++ 0#5 ++ 0#3 ++ BitVec.allOnes 3 ++ BitVec.allOnes 3 ++ BitVec.allOnes 2 ++ 0#2
    ++ 0#5 ++ 0#5 := by decide
  have hload : (0xCF800FFF : Word) = BitVec.allOnes 2 ++ 0#2 ++ BitVec.allOnes 5 ++ 0#3 ++ 0#3 ++ 0#3 ++ 0#2 ++ BitVec.allOnes 2
    ++ BitVec.allOnes 5 ++ BitVec.allOnes 5 := by decide
  conv_rhs => rw [word_eq_fsr_fields v, hkeep, hload]
  simp only [fsrLowBits, fsrLoadLow, ieeeBits_ieeeOfBits]
  refine append_eq_merge ?_ (eq_merge_loaded _ _) -- cexc
  refine append_eq_merge ?_ (eq_merge_loaded _ _) -- aexc
  refine append_eq_merge ?_ (eq_merge_loaded _ _) -- fcc0
  refine append_eq_merge ?_ (eq_merge_kept _ _)
  refine append_eq_merge ?_ (eq_merge_kept _ _) -- ftt
  refine append_eq_merge ?_ (eq_merge_kept _ _) -- ver
  refine append_eq_merge ?_ (eq_merge_zero _ _)
  refine append_eq_merge ?_ (eq_merge_loaded _ _) -- tem
  exact append_eq_merge (eq_merge_loaded _ _) (eq_merge_zero _ _) -- rd

/-- LDFSR keeps the fields above the low word. -/
theorem fsrBits_fsrLoadLow (f : Fsr) (v : DWord) :
    fsrBits (fsrLoadLow f (v.extractLsb' 0 32)) = fsrBits f &&& 0x3F000FF000 ||| v &&& 0xCF800FFF &&& 0xFFFFFFFF := by
  have hkeep : (0x3F000FF000 : DWord) = 0#26 ++ BitVec.allOnes 2 ++ BitVec.allOnes 2 ++ BitVec.allOnes 2 ++ 0x000FF000#32 := by decide
  have hload : (0xCF800FFF &&& 0xFFFFFFFF : DWord) = 0#26 ++ 0#2 ++ 0#2 ++ 0#2 ++ 0xCF800FFF#32 := by decide
  rw [BitVec.and_assoc]
  conv_rhs => rw [dword_eq_fsr_fields v, hkeep, hload]
  refine append_eq_merge ?_ (fsrLowBits_fsrLoadLow f (v.extractLsb' 0 32))
  refine append_eq_merge ?_ (eq_merge_kept _ _) -- fcc1
  refine append_eq_merge ?_ (eq_merge_kept _ _) -- fcc2
  exact append_eq_merge (eq_merge_zero _ _) (eq_merge_kept _ _) -- fcc3

/-- LDXFSR loads them too. -/
theorem fsrBits_fsrLoad (f : Fsr) (v : DWord) :
    fsrBits (fsrLoad f v) = fsrBits f &&& 0xFF000 ||| v &&& 0x3FCF800FFF := by
  have hkeep : (0xFF000 : DWord) = 0#26 ++ 0#2 ++ 0#2 ++ 0#2 ++ 0x000FF000#32 := by decide
  have hload : (0x3FCF800FFF : DWord) =
    0#26 ++ BitVec.allOnes 2 ++ BitVec.allOnes 2 ++ BitVec.allOnes 2 ++ 0xCF800FFF#32 := by decide
  conv_rhs => rw [dword_eq_fsr_fields v, hkeep, hload]
  refine append_eq_merge ?_ (fsrLowBits_fsrLoadLow f (v.extractLsb' 0 32))
  refine append_eq_merge ?_ (eq_merge_loaded _ _) -- fcc1
  refine append_eq_merge ?_ (eq_merge_loaded _ _) -- fcc2
  exact append_eq_merge (eq_merge_zero _ _) (eq_merge_loaded _ _) -- fcc3

end Sys2Proof.Machine

/-! PROOFS. The floating-point loads and stores (O44, O45): the checks in their order, then one access. -/

namespace Sys2Proof.Machine

/-! ### Checks (rules R66, R836, R846) -/

theorem requireDouble_of {s : State} {a : DWord} {e : Trap} (h : a.toNat % 8 = 0) : requireDouble s a e = .ok () := by
  have h4 : alignedTo a 4 = true := by rw [alignedTo_iff]; omega
  have h8 : alignedTo a 8 = true := by rw [alignedTo_iff, h]
  rw [requireDouble, h4, h8]; rfl

theorem requireDouble_misaligned {s : State} {a : DWord} {e : Trap} (h : a.toNat % 4 ≠ 0) :
    requireDouble s a e = .error ⟨.memAddressNotAligned, noteDsfar s (maskAm s a)⟩ := by
  rw [requireDouble, (not_alignedTo_iff a 4).mpr h]; rfl

theorem requireDouble_word {s : State} {a : DWord} {e : Trap} (h : a.toNat % 8 = 4) :
    requireDouble s a e = .error ⟨e, noteDsfar s (maskAm s a)⟩ := by
  have h4 : alignedTo a 4 = true := by rw [alignedTo_iff]; omega
  have h8 : alignedTo a 8 = false := by rw [not_alignedTo_iff]; omega
  rw [requireDouble, h4, h8]; rfl

/-- An ASI of no special instruction: the alignment check comes first (rule R734). -/
theorem requireAsi_align_error {s : State} {acc : Access} {asi : Byte} {a : DWord} {align : Effect Unit} {admits : AsiClass → Bool}
    {x : Stop} (h : isSpecialClass (asiClass asi) = false) (ha : align = .error x) : requireAsi s acc asi a align admits = .error x := by
  rw [requireAsi, h, ha]; rfl

theorem loadAlternate8_align_error {s : State} {asi : Byte} {a : DWord} {align : Effect Unit} {x : Stop}
    (h : isSpecialClass (asiClass asi) = false) (ha : align = .error x) : loadAlternate8 s asi a align = .error x := by
  unfold loadAlternate8
  split
  · rw [ha]; rfl
  · rw [requireAsi_align_error h ha]; rfl

theorem storeAlternate8_align_error {s : State} {asi : Byte} {a v : DWord} {align : Effect Unit} {x : Stop}
    (h : isSpecialClass (asiClass asi) = false) (ha : align = .error x) : storeAlternate8 s asi a v align = .error x := by
  unfold storeAlternate8
  split
  · rw [ha]; rfl
  · rw [requireAsi_align_error h ha]; rfl

/-! ### Classes of ASIs (rule R343) -/

theorem asiClass_of_isBlock {asi : Byte} (h : asiIsBlock asi = true) : asiClass asi = .block := by
  revert asi; decide +kernel

theorem asiClass_of_isShort {asi : Byte} (h : asiIsShort asi = true) : asiClass asi = .short := by
  revert asi; decide +kernel

theorem asiClass_of_isPartial {asi : Byte} (h : asiIsPartial asi = true) : asiClass asi = .partialStore := by
  revert asi; decide +kernel

/-- An ASI that selects no block, short or partial transfer. -/
structure AsiOrdinary (asi : Byte) : Prop where
  block : asiIsBlock asi = false
  short : asiIsShort asi = false
  partialStore : asiIsPartial asi = false

theorem asiOrdinary_of_not_special {asi : Byte} (h : isSpecialClass (asiClass asi) = false) : AsiOrdinary asi where
  block := Bool.eq_false_iff.mpr fun e => by rw [asiClass_of_isBlock e] at h; cases h
  short := Bool.eq_false_iff.mpr fun e => by rw [asiClass_of_isShort e] at h; cases h
  partialStore := Bool.eq_false_iff.mpr fun e => by rw [asiClass_of_isPartial e] at h; cases h

theorem not_special_of_admitsLoad {c : AsiClass} (h : admitsLoad c = true) : isSpecialClass c = false :=
  match c, h with
  | .all, _ => rfl | .noatomic, _ => rfl | .nofault, _ => rfl

theorem not_special_of_admitsStore {c : AsiClass} (h : admitsStore c = true) : isSpecialClass c = false :=
  match c, h with
  | .all, _ => rfl | .noatomic, _ => rfl

/-! ### One transfer -/

/-- An instruction whose first check fails. -/
theorem complete_first_error {check : Effect Unit} {x : Stop} (k : Unit → Effect State) (h : check = .error x) :
    complete (check >>= k) = .next (takeTrap x.state x.trap) := by
  rw [h]; rfl

/-- An instruction whose second check fails. -/
theorem complete_second_error {α : Type} {check : Effect Unit} {align : Effect α} {x : Stop} (k : α → Effect State)
    (h : check = .ok ()) (ha : align = .error x) : complete (check >>= fun _ => align >>= k) = .next (takeTrap x.state x.trap) := by
  rw [h, ha]; rfl

/-- A load whose checks pass: the register that `write` writes receives the bytes at the address. -/
theorem fpLoad_next {s : State} {check align : Effect Unit} {asi : Byte} {a : DWord} {g : Target} (n : Nat)
    (write : State → DWord → State) (h : check = .ok ()) (ha : align = .ok ()) (hn : n ≤ 8)
    (ht : translate s .load false asi (maskAm s a) = .ok g) :
    ∃ v, Loaded s g.pa n g.little v ∧ complete (do
      check
      align
      let s := walked s .load asi a
      let v ← loadAt s asi a n
      return advance (write s v)) = .next (advance (write s v)) := by
  refine ⟨_, loaded_readMem s g.pa hn g.little, ?_⟩
  rw [h, ha]
  simp only [ok_bind, walked_eq, loadAt_of ht, pure_effect, complete_ok]

/-- A store whose checks pass: the bytes are at the address, and `finish` ends the instruction. -/
theorem fpStore_next {s : State} {check align : Effect Unit} {asi : Byte} {a v : DWord} {g : Target} (n : Nat)
    (finish : State → State) (hw : Memory.wf s.paWidth s.memory = true) (h : check = .ok ()) (ha : align = .ok ()) (hn : n ≤ 8)
    (ht : translate s .store false asi (maskAm s a) = .ok g) :
    ∃ u, Stored s u g.pa n g.little v ∧ u = { s with memory := u.memory } ∧ complete (do
      check
      align
      let s ← storeAt s asi a n v
      return advance (finish s)) = .next (advance (finish u)) := by
  refine ⟨{ s with memory := writeMem s.paWidth s.memory g.pa n g.little v }, stored_writeMem hw hn rfl, rfl, ?_⟩
  rw [h, ha]
  simp only [ok_bind, storeAt_of ht, pure_effect, complete_ok]

/-! ### LDDFA and STDFA of an ordinary ASI (rules R841, R851) -/

theorem loadDoubleFrom_ordinary {s : State} {rd : BitVec 5} {asi : Byte} {a : DWord} (hb : asiIsBlock asi = false)
    (hs : asiIsShort asi = false) : loadDoubleFrom s rd asi a = loadDoubleAlternate s rd asi a := by
  rw [loadDoubleFrom, hb, hs]; rfl

theorem storeDoubleTo_ordinary {s : State} {rd rs1 : BitVec 5} {ea : AsiOperand} (hp : asiIsPartial (asiNumber s ea) = false)
    (hb : asiIsBlock (asiNumber s ea) = false) (hs : asiIsShort (asiNumber s ea) = false) :
    storeDoubleTo s rd rs1 ea = storeDoubleAlternate s rd (asiNumber s ea) (asiAddress s rs1 ea) := by
  unfold storeDoubleTo
  rw [hp, hb, hs]; rfl

theorem execLddfa_ordinary {s : State} {rd rs1 : BitVec 5} {ea : AsiOperand} (hb : asiIsBlock (asiNumber s ea) = false)
    (hs : asiIsShort (asiNumber s ea) = false) : exec (.lddfa rd rs1 ea) s = complete (do
      requireFpuMarking s (markFD · rd)
      let r ← loadAlternate8 s (asiNumber s ea) (asiAddress s rs1 ea) (requireLddf s (asiAddress s rs1 ea))
      return advance (setFD r.2 rd r.1)) := by
  rw [exec_lddfa, execLddfa, loadDoubleFrom_ordinary hb hs, loadDoubleAlternate, bind_assoc, bind_assoc]; rfl

theorem execLddfa_memory {s : State} {rd rs1 : BitVec 5} {ea : AsiOperand} (h : admitsLoad (asiClass (asiNumber s ea)) = true) :
    exec (.lddfa rd rs1 ea) s = complete (do
      requireFpuMarking s (markFD · rd)
      requireAsi s .load (asiNumber s ea) (asiAddress s rs1 ea) (requireLddf s (asiAddress s rs1 ea)) admitsLoad
      let v ← loadAt s (asiNumber s ea) (asiAddress s rs1 ea) 8
      return advance (setFD s rd v)) := by
  have ho := asiOrdinary_of_not_special (not_special_of_admitsLoad h)
  rw [execLddfa_ordinary ho.block ho.short, loadAlternate8_memory h]
  simp only [bind_assoc]; rfl

theorem execStdfa_ordinary {s : State} {rd rs1 : BitVec 5} {ea : AsiOperand} (hp : asiIsPartial (asiNumber s ea) = false)
    (hb : asiIsBlock (asiNumber s ea) = false) (hs : asiIsShort (asiNumber s ea) = false) :
    exec (.stdfa rd rs1 ea) s = complete (do
      requireFpu s
      let s ← storeAlternate8 s (asiNumber s ea) (asiAddress s rs1 ea) (getFD s rd) (requireStdf s (asiAddress s rs1 ea))
      return advance s) := by
  rw [exec_stdfa, execStdfa, storeDoubleTo_ordinary hp hb hs, storeDoubleAlternate, bind_assoc]

theorem execStdfa_memory {s : State} {rd rs1 : BitVec 5} {ea : AsiOperand} (h : admitsStore (asiClass (asiNumber s ea)) = true) :
    exec (.stdfa rd rs1 ea) s = complete (do
      requireFpu s
      requireAsi s .store (asiNumber s ea) (asiAddress s rs1 ea) (requireStdf s (asiAddress s rs1 ea)) admitsStore
      let s ← storeAt s (asiNumber s ea) (asiAddress s rs1 ea) 8 (getFD s rd)
      return advance s) := by
  have ho := asiOrdinary_of_not_special (not_special_of_admitsStore h)
  rw [execStdfa_ordinary ho.partialStore ho.block ho.short, storeAlternate8_memory h]
  simp only [bind_assoc]

/-! ### Loads -/

theorem resultFS_load (s : State) (rd : BitVec 5) (v : DWord) :
    ResultFS s (advance (setFS s rd (v.extractLsb' 0 32))) rd (v.setWidth 32) s.fsr := by
  rw [← BitVec.setWidth_eq_extractLsb' (by decide)]
  exact resultFS_setFS s rd _ s.fsr

/-- With the FPU disabled a load takes fp_disabled. -/
theorem fpLoads_disabled {s : State} (h : fpuEnabled s = false) (rd rs1 : BitVec 5) (op2 : RegOrImm13) (ea : AsiOperand) :
    exec (.ldfa rd rs1 ea) s = .next (takeTrap { s with fprs := dirtyLower s.fprs } .fpDisabled)
    ∧ (asiClass (asiNumber s ea) ≠ .block → asiClass (asiNumber s ea) ≠ .short →
      exec (.lddfa rd rs1 ea) s = .next (takeTrap { s with fprs := dirtyDouble s.fprs rd } .fpDisabled))
    ∧ exec (.ldf rd rs1 op2) s = .next (takeTrap { s with fprs := dirtyLower s.fprs } .fpDisabled)
    ∧ exec (.lddf rd rs1 op2) s = .next (takeTrap { s with fprs := dirtyDouble s.fprs rd } .fpDisabled)
    ∧ exec (.ldfsr rs1 op2) s = .next (takeTrap s .fpDisabled) ∧ exec (.ldxfsr rs1 op2) s = .next (takeTrap s .fpDisabled) := by
  have hfpu := requireFpu_of_disabled h
  have hsingle := requireFpuMarking_of_disabled (mark := markFS) h
  have hdouble := requireFpuMarking_of_disabled (mark := (markFD · rd)) h
  rw [← markFD_eq]
  refine ⟨complete_first_error _ hsingle, fun hb hs => ?_, complete_first_error _ hsingle, complete_first_error _ hdouble,
    complete_first_error _ hfpu, complete_first_error _ hfpu⟩
  rw [execLddfa_ordinary (Bool.eq_false_iff.mpr (mt asiClass_of_isBlock hb)) (Bool.eq_false_iff.mpr (mt asiClass_of_isShort hs))]
  exact complete_first_error _ hdouble

/-- The alignment checks of the loads from the implicit address space. -/
theorem fpLoads_misaligned {s : State} (h : fpuEnabled s = true) (rd rs1 : BitVec 5) (op2 : RegOrImm13) {a : DWord}
    (ha : a = getR s rs1 + src2 s op2) :
    (∀ p ∈ ([(Instr.ldf rd rs1 op2, 4), (.ldfsr rs1 op2, 4), (.ldxfsr rs1 op2, 8), (.lddf rd rs1 op2, 4)] : List (Instr × Nat)),
      a.toNat % p.2 ≠ 0 → Refuses s p.1 .memAddressNotAligned a)
    ∧ (a.toNat % 8 = 4 → Refuses s (.lddf rd rs1 op2) .lddfMemAddressNotAligned a) := by
  subst ha
  have hfpu := requireFpu_of h
  have hsingle := requireFpuMarking_of (mark := markFS) h
  have hdouble := requireFpuMarking_of (mark := (markFD · rd)) h
  have hmis (n : Nat) (hn : (getR s rs1 + src2 s op2).toNat % n ≠ 0) := requireAligned_not (s := s) ((not_alignedTo_iff _ n).mpr hn)
  simp only [List.forall_mem_cons]
  exact ⟨⟨fun hn => complete_second_error _ hsingle (hmis 4 hn), fun hn => complete_second_error _ hfpu (hmis 4 hn),
      fun hn => complete_second_error _ hfpu (hmis 8 hn), fun hn => complete_second_error _ hdouble (requireDouble_misaligned hn),
      by simp⟩,
    fun hn => complete_second_error _ hdouble (requireDouble_word hn)⟩

/-- Settles O44: each load is its checks and then `fpLoad_next`, with the write of its own register. -/
theorem floatingPointLoads : Obligations.FloatingPointLoads := by
  intro rd rs1 s a g
  refine ⟨fun op2 ea h => fpLoads_disabled ((fpuEnabled_eq_false_iff s).mpr h) rd rs1 op2 ea, fun hp hf => ?_⟩
  have hen := fpuEnabled_of hp hf
  have hfpu := requireFpu_of hen
  have hsingle := requireFpuMarking_of (mark := markFS) hen
  have hdouble := requireFpuMarking_of (mark := (markFD · rd)) hen
  refine ⟨?_, ?_, ?_⟩
  · intro op2 ha
    obtain ⟨hmis, hword⟩ := fpLoads_misaligned hen rd rs1 op2 ha
    refine ⟨hmis, hword, fun ht => ?_⟩
    subst ha
    have haligned (n : Nat) (h : (getR s rs1 + src2 s op2).toNat % n = 0) := requireAligned_of (s := s) ((alignedTo_iff _ n).mpr h)
    refine ⟨fun h4 => ?_, fun h8 => ?_, fun h4 => ?_, fun h8 => ?_⟩
    · obtain ⟨v, hv, hrun⟩ := fpLoad_next 4 (fun s v => setFS s rd (v.extractLsb' 0 32)) hsingle (haligned 4 h4) (by decide) ht
      exact ⟨_, v, hv, hrun, resultFS_load s rd v⟩
    · obtain ⟨v, hv, hrun⟩ := fpLoad_next 8 (fun s v => setFD s rd v) hdouble (requireDouble_of h8) (by decide) ht
      exact ⟨_, v, hv, hrun, resultFD_setFD s rd v s.fsr⟩
    · obtain ⟨v, hv, hrun⟩ := fpLoad_next 4 (fun s v => { s with fsr := fsrLoadLow s.fsr (v.extractLsb' 0 32) }) hfpu (haligned 4 h4)
        (by decide) ht
      refine ⟨_, v, hv, hrun, sameBytes_of rfl rfl, rfl, ?_⟩
      rw [ofNat_fsrImage, ← fsrBits_fsrLoadLow]
      exact fsrImage_eq _
    · obtain ⟨v, hv, hrun⟩ := fpLoad_next 8 (fun s v => { s with fsr := fsrLoad s.fsr v }) hfpu (haligned 8 h8) (by decide) ht
      refine ⟨_, v, hv, hrun, sameBytes_of rfl rfl, rfl, ?_⟩
      rw [ofNat_fsrImage, ← fsrBits_fsrLoad]
      exact fsrImage_eq _
  · rintro ea asi rfl rfl hspecial
    have ho := asiOrdinary_of_not_special hspecial
    have hlddfa {e : Trap} (ha : requireLddf s (asiAddress s rs1 ea) = .error ⟨e, noteDsfar s (maskAm s (asiAddress s rs1 ea))⟩) :
        Refuses s (.lddfa rd rs1 ea) e (asiAddress s rs1 ea) :=
      (execLddfa_ordinary ho.block ho.short).trans (complete_second_error _ hdouble (loadAlternate8_align_error hspecial ha))
    refine ⟨fun h4 => ⟨?_, hlddfa (requireDouble_misaligned h4)⟩, fun h8 => hlddfa (requireDouble_word h8)⟩
    exact complete_second_error _ hsingle (requireAsi_align_error hspecial (requireAligned_not ((not_alignedTo_iff _ 4).mpr h4)))
  · rintro ea asi rfl rfl hpermitted hadmits ht
    refine ⟨fun h4 => ?_, fun h8 => ?_⟩
    · obtain ⟨v, hv, hrun⟩ := fpLoad_next 4 (fun s v => setFS s rd (v.extractLsb' 0 32)) hsingle
        (requireAsi_of (acc := .load) hpermitted hadmits (requireAligned_of ((alignedTo_iff _ 4).mpr h4))) (by decide) ht
      exact ⟨_, v, hv, hrun, resultFS_load s rd v⟩
    · obtain ⟨v, hv, hrun⟩ := fpLoad_next 8 (fun s v => setFD s rd v) hdouble
        (requireAsi_of (acc := .load) hpermitted hadmits (requireDouble_of h8)) (by decide) ht
      exact ⟨_, v, hv, (execLddfa_memory hadmits).trans hrun, resultFD_setFD s rd v s.fsr⟩

/-! ### Stores -/

/-- Only the bytes stored matter of the value a store names. -/
theorem Stored.congr_value {s t : State} {pa : DWord} {n : Nat} {little : Bool} {v v' : DWord} (h : Stored s t pa n little v)
    (hv : ∀ k < n, byteLane n little v k = byteLane n little v' k) : Stored s t pa n little v' := by
  obtain ⟨hwidth, hbytes, hother⟩ := h
  exact ⟨hwidth, fun k hk => (hbytes k hk).trans (hv k hk), hother⟩

/-- STFSR stores the low half of FSR's image. -/
theorem byteLane_fsrLowBits (f : Fsr) (little : Bool) {k : Nat} (hk : k < 4) :
    byteLane 4 little ((fsrLowBits f).setWidth 64) k = byteLane 4 little (BitVec.ofNat 64 (fsrImage f)) k := by
  rw [ofNat_fsrImage, byteLane, byteLane, fsrBits]
  have hlane : 8 * (if little = true then k else 4 - 1 - k) + 8 ≤ 32 := by split <;> omega
  rw [Laws.field_right _ _ _ _ hlane]
  exact BitVec.extractLsb'_setWidth_of_le (hlane.trans (by decide))

/-- With the FPU disabled a store takes fp_disabled. -/
theorem fpStores_disabled {s : State} (h : fpuEnabled s = false) (rd rs1 : BitVec 5) (op2 : RegOrImm13) (ea : AsiOperand) :
    (∀ i ∈ [Instr.stf rd rs1 op2, .stdf rd rs1 op2, .stfsr rs1 op2, .stxfsr rs1 op2, .stfa rd rs1 ea],
      exec i s = .next (takeTrap s .fpDisabled))
    ∧ (asiClass (asiNumber s ea) ≠ .partialStore → asiClass (asiNumber s ea) ≠ .block → asiClass (asiNumber s ea) ≠ .short →
      exec (.stdfa rd rs1 ea) s = .next (takeTrap s .fpDisabled)) := by
  have hfpu := requireFpu_of_disabled h
  constructor
  · simp only [List.forall_mem_cons]
    exact ⟨complete_first_error _ hfpu, complete_first_error _ hfpu, complete_first_error _ hfpu, complete_first_error _ hfpu,
      complete_first_error _ hfpu, by simp⟩
  · intro hp hb hs
    rw [execStdfa_ordinary (Bool.eq_false_iff.mpr (mt asiClass_of_isPartial hp)) (Bool.eq_false_iff.mpr (mt asiClass_of_isBlock hb))
      (Bool.eq_false_iff.mpr (mt asiClass_of_isShort hs))]
    exact complete_first_error _ hfpu

/-- The alignment checks of the stores to the implicit address space. -/
theorem fpStores_misaligned {s : State} (h : fpuEnabled s = true) (rd rs1 : BitVec 5) (op2 : RegOrImm13) {a : DWord}
    (ha : a = getR s rs1 + src2 s op2) :
    (∀ p ∈ ([(Instr.stf rd rs1 op2, 4), (.stfsr rs1 op2, 4), (.stxfsr rs1 op2, 8), (.stdf rd rs1 op2, 4)] : List (Instr × Nat)),
      a.toNat % p.2 ≠ 0 → Refuses s p.1 .memAddressNotAligned a)
    ∧ (a.toNat % 8 = 4 → Refuses s (.stdf rd rs1 op2) .stdfMemAddressNotAligned a) := by
  subst ha
  have hfpu := requireFpu_of h
  have hmis (n : Nat) (hn : (getR s rs1 + src2 s op2).toNat % n ≠ 0) := requireAligned_not (s := s) ((not_alignedTo_iff _ n).mpr hn)
  simp only [List.forall_mem_cons]
  exact ⟨⟨fun hn => complete_second_error _ hfpu (hmis 4 hn), fun hn => complete_second_error _ hfpu (hmis 4 hn),
      fun hn => complete_second_error _ hfpu (hmis 8 hn), fun hn => complete_second_error _ hfpu (requireDouble_misaligned hn),
      by simp⟩,
    fun hn => complete_second_error _ hfpu (requireDouble_word hn)⟩

/-- The frame of a store. -/
theorem resultStore_of {s u : State} {pa : DWord} {n : Nat} {little : Bool} {v : DWord} (h : Stored s u pa n little v)
    (hu : u = { s with memory := u.memory }) : ResultStore s (advance u) pa n little v :=
  ⟨h, congrArg advance hu⟩

/-- The frame of a store of FSR, which clears ftt. -/
theorem clearFtt_frame {s u : State} (hu : u = { s with memory := u.memory }) :
    advance (clearFtt u) = advance { s with memory := u.memory, fsr := { s.fsr with ftt := 0 } } := by
  conv_lhs => rw [hu]
  rfl

/-- Settles O45: each store is its checks and then `fpStore_next`; the stores of FSR end with `clearFtt`. -/
theorem floatingPointStores : Obligations.FloatingPointStores := by
  intro rd rs1 s a g
  refine ⟨fun op2 ea h => fpStores_disabled ((fpuEnabled_eq_false_iff s).mpr h) rd rs1 op2 ea, fun hp hf hw => ?_⟩
  have hen := fpuEnabled_of hp hf
  have hfpu := requireFpu_of hen
  refine ⟨?_, ?_, ?_⟩
  · intro op2 ha
    obtain ⟨hmis, hword⟩ := fpStores_misaligned hen rd rs1 op2 ha
    refine ⟨hmis, hword, fun ht => ?_⟩
    subst ha
    have haligned (n : Nat) (h : (getR s rs1 + src2 s op2).toNat % n = 0) := requireAligned_of (s := s) ((alignedTo_iff _ n).mpr h)
    simp only [List.forall_mem_cons]
    refine ⟨fun h4 => ?_, fun h8 => ?_, fun h4 => ?_, fun h8 => ?_, by simp⟩
    · obtain ⟨u, hst, hu, hrun⟩ := fpStore_next 4 id hw hfpu (haligned 4 h4) (by decide) ht
      exact ⟨_, hrun, resultStore_of hst hu⟩
    · obtain ⟨u, hst, hu, hrun⟩ := fpStore_next 8 id hw hfpu (requireDouble_of h8) (by decide) ht
      exact ⟨_, hrun, resultStore_of hst hu⟩
    · obtain ⟨u, hst, hu, hrun⟩ := fpStore_next 4 clearFtt hw hfpu (haligned 4 h4) (by decide) ht
      exact ⟨_, hrun, hst.congr_value fun k hk => byteLane_fsrLowBits s.fsr g.little hk, clearFtt_frame hu⟩
    · obtain ⟨u, hst, hu, hrun⟩ := fpStore_next 8 clearFtt hw hfpu (haligned 8 h8) (by decide) ht
      rw [ofNat_fsrImage]
      exact ⟨_, hrun, hst, clearFtt_frame hu⟩
  · rintro ea asi rfl rfl hspecial
    have ho := asiOrdinary_of_not_special hspecial
    have hstdfa {e : Trap} (ha : requireStdf s (asiAddress s rs1 ea) = .error ⟨e, noteDsfar s (maskAm s (asiAddress s rs1 ea))⟩) :
        Refuses s (.stdfa rd rs1 ea) e (asiAddress s rs1 ea) :=
      (execStdfa_ordinary ho.partialStore ho.block ho.short).trans
        (complete_second_error _ hfpu (storeAlternate8_align_error hspecial ha))
    refine ⟨fun h4 => ⟨?_, hstdfa (requireDouble_misaligned h4)⟩, fun h8 => hstdfa (requireDouble_word h8)⟩
    exact complete_second_error _ hfpu (requireAsi_align_error hspecial (requireAligned_not ((not_alignedTo_iff _ 4).mpr h4)))
  · rintro ea asi rfl rfl hpermitted hadmits ht
    refine ⟨fun h4 => ?_, fun h8 => ?_⟩
    · obtain ⟨u, hst, hu, hrun⟩ := fpStore_next 4 id hw hfpu
        (requireAsi_of (acc := .store) hpermitted hadmits (requireAligned_of ((alignedTo_iff _ 4).mpr h4))) (by decide) ht
      exact ⟨_, hrun, resultStore_of hst hu⟩
    · obtain ⟨u, hst, hu, hrun⟩ := fpStore_next 8 id hw hfpu
        (requireAsi_of (acc := .store) hpermitted hadmits (requireDouble_of h8)) (by decide) ht
      exact ⟨_, (execStdfa_memory hadmits).trans hrun, resultStore_of hst hu⟩

end Sys2Proof.Machine

/-! PROOFS. The block transfers, eight doublewords each, and the short and partial ones, which hardware does not execute (O46). -/

namespace Sys2Proof.Machine

/-! ### Double registers by number -/

theorem double_halves (v : DWord) : v.extractLsb' 32 32 ++ v.extractLsb' 0 32 = v := BitVec.extractLsb'_append_extractLsb'

/-- No half of a double register is the other half of any. -/
theorem upper_ne_lower (x d : BitVec 5) : x ++ 0#1 ≠ d ++ 1#1 := by revert x d; decide

theorem half_inj (x d : BitVec 5) (b : BitVec 1) : x ++ b = d ++ b ↔ x = d := by revert x d b; decide

/-- Reading a double register after writing one. -/
theorem getFDn_setFDn (s : State) (d x : BitVec 5) (v : DWord) : getFDn (setFDn s d v) x = if x = d then v else getFDn s x := by
  have h01 := upper_ne_lower x d
  have h10 := (upper_ne_lower d x).symm
  simp only [getFDn, setFDn_fregs, bankRead_bankWrite, half_inj, h01, h10, if_false]
  split
  · exact double_halves v
  · rfl

/-- FPRS after a write of the double register `2 * d` (rule R68). -/
def dirtyNumber (p : Fprs) (d : BitVec 5) : Fprs := if flagAt d 4 then { p with du := true } else { p with dl := true }

theorem setFDn_fprs (s : State) (d : BitVec 5) (v : DWord) : (setFDn s d v).fprs = dirtyNumber s.fprs d := by
  unfold setFDn markFDn dirtyNumber
  split <;> rfl

theorem setFDn_eq (s : State) (d : BitVec 5) (v : DWord) :
    setFDn s d v = { s with fregs := (setFDn s d v).fregs, fprs := dirtyNumber s.fprs d } := by
  rw [← setFDn_fprs]
  unfold setFDn markFDn
  split <;> rfl

theorem dirtyNumber_doubleNumber (p : Fprs) (rd : BitVec 5) : dirtyNumber p (doubleNumber rd) = dirtyDouble p rd := by
  have h : flagAt (doubleNumber rd) 4 = true ↔ rd.extractLsb' 0 1 = 1 := by revert rd; decide
  unfold dirtyNumber dirtyDouble
  simp only [h]

theorem dirtyNumber_idem (p : Fprs) (d : BitVec 5) : dirtyNumber (dirtyNumber p d) d = dirtyNumber p d := by
  unfold dirtyNumber
  split <;> rfl

/-! ### A block of eight registers -/

/-- The registers of a block stand in one quarter of the double registers. -/
theorem block_quarter {d : BitVec 5} (hd : d.extractLsb' 0 3 = 0) {j : Nat} (hj : j < 8) :
    (d + BitVec.ofNat 5 j).extractLsb' 3 2 = d.extractLsb' 3 2 ∧ flagAt (d + BitVec.ofNat 5 j) 4 = flagAt d 4 := by
  have key : ∀ d : BitVec 5, d.extractLsb' 0 3 = 0 → ∀ j < 8,
      (d + BitVec.ofNat 5 j).extractLsb' 3 2 = d.extractLsb' 3 2 ∧ flagAt (d + BitVec.ofNat 5 j) 4 = flagAt d 4 := by decide
  exact key d hd j hj

theorem block_number_inj {d : BitVec 5} {i j : Nat} (hi : i < 8) (hj : j < 8) (h : d + BitVec.ofNat 5 i = d + BitVec.ofNat 5 j) :
    i = j := by
  have := congrArg BitVec.toNat (add_left_cancel h)
  simp only [BitVec.toNat_ofNat] at this
  omega

/-- The state with the doublewords `v k`, …, `v (k + n - 1)` in the double registers `2 * (d + k)` and on. -/
def setDoubles (d : BitVec 5) (v : Nat → DWord) : Nat → Nat → State → State
  | 0, _, s => s
  | n + 1, k, s => setDoubles d v n (k + 1) (setFDn s (d + BitVec.ofNat 5 k) (v k))

theorem getFDn_setDoubles_other {d x : BitVec 5} (v : Nat → DWord) (n : Nat) : ∀ (k : Nat) (s : State),
    (∀ j, k ≤ j → j < k + n → x ≠ d + BitVec.ofNat 5 j) → getFDn (setDoubles d v n k s) x = getFDn s x := by
  induction n with
  | zero => intro k s _; rfl
  | succ n ih =>
    intro k s h
    rw [setDoubles, ih _ _ fun j h1 h2 => h j (by omega) (by omega), getFDn_setFDn, if_neg (h k le_rfl (by omega))]

theorem getFDn_setDoubles_same {d : BitVec 5} (v : Nat → DWord) (n : Nat) : ∀ (k : Nat) (s : State), k + n ≤ 8 →
    ∀ j, k ≤ j → j < k + n → getFDn (setDoubles d v n k s) (d + BitVec.ofNat 5 j) = v j := by
  induction n with
  | zero => intro k s _ j h1 h2; omega
  | succ n ih =>
    intro k s hk j h1 h2
    rw [setDoubles]
    rcases Nat.lt_or_eq_of_le h1 with hlt | rfl
    · exact ih (k + 1) _ (by omega) j hlt (by omega)
    · rw [getFDn_setDoubles_other, getFDn_setFDn, if_pos rfl]
      intro i hi1 hi2 heq
      have := block_number_inj (by omega) (by omega) heq
      omega

/-- What a block of writes leaves: all but the F registers and the dirty bit of their half. -/
theorem setDoubles_eq {d : BitVec 5} (hd : d.extractLsb' 0 3 = 0) (v : Nat → DWord) (n : Nat) : ∀ (k : Nat) (s : State), k + n < 8 →
    setDoubles d v (n + 1) k s = { s with fregs := (setDoubles d v (n + 1) k s).fregs, fprs := dirtyNumber s.fprs d } := by
  have hdirty (p : Fprs) {k : Nat} (hk : k < 8) : dirtyNumber p (d + BitVec.ofNat 5 k) = dirtyNumber p d := by
    unfold dirtyNumber; rw [(block_quarter hd hk).2]
  induction n with
  | zero =>
    intro k s hk
    rw [← hdirty s.fprs hk]
    exact setFDn_eq s _ _
  | succ n ih =>
    intro k s hk
    have h := ih (k + 1) (setFDn s (d + BitVec.ofNat 5 k) (v k)) (by omega)
    rw [setFDn_fprs, hdirty _ (by omega), dirtyNumber_idem] at h
    rw [setDoubles, h, setFDn_eq]

/-! ### The block load (rule R843) -/

theorem blockLoad_ok {src : State} {asi : Byte} {a : DWord} {d : BitVec 5} {g : Nat → Target} (n : Nat) : ∀ (k : Nat) (s : State),
    (∀ j, k ≤ j → j < k + n → translate src .load false asi (maskAm src (a + BitVec.ofNat 64 (8 * j))) = .ok (g j)) →
    blockLoad src asi a d n k s =
      .ok (setDoubles d (fun j => readMem src.paWidth src.memory (g j).pa 8 (g j).little) n k s) := by
  induction n with
  | zero => intro k s _; rfl
  | succ n ih =>
    intro k s ht
    rw [blockLoad, loadAt_of (ht k le_rfl (by omega)), ok_bind, ih _ _ fun j h1 h2 => ht j (by omega) (by omega)]; rfl

/-! ### The block store (rule R852) -/

theorem throughEntry_memory {s : State} {acc : Access} {c : Bool} {asi : Byte} {a : DWord} {e : TlbEntry} {g : Target} (m : Memory)
    (h : throughEntry s acc c asi a e = .ok g) : throughEntry { s with memory := m } acc c asi a e = .ok g := by
  unfold throughEntry at h
  split at h
  · cases h
  · next hpage =>
    split_ifs at h with hwrite hwatch
    unfold throughEntry
    rw [show pageViolation { s with memory := m } acc c asi e = none from hpage]
    exact (if_neg hwrite).trans ((if_neg hwatch).trans h)

/-- Where a data access goes does not depend on memory: there is no hardware tablewalk (assumption log entry 13). -/
theorem translate_memory {s : State} {acc : Access} {c : Bool} {asi : Byte} {a : DWord} {g : Target} (m : Memory)
    (h : translate s acc c asi a = .ok g) : translate { s with memory := m } acc c asi a = .ok g := by
  by_cases hp : isPhysical s asi = true
  · rw [translate_physical hp] at h
    rw [translate_physical (s := { s with memory := m }) hp]
    exact h
  · have hp : isPhysical s asi = false := by simpa using hp
    cases hf : s.mmu.dtlb.find? (tlbMatches s.mmu.partitionId (contextOf s (lookupSpace s asi)) a) with
    | some e =>
      rw [translate_hit hp hf] at h
      rw [translate_hit (s := { s with memory := m }) hp hf]
      exact throughEntry_memory m h
    | none =>
      unfold translate at h
      rw [if_neg (by simp [hp]), if_neg (by simp)] at h
      cases hc : contextOf s (lookupSpace s asi) <;> rw [hc] at hf <;> simp only [hc, hf, missData_eq] at h <;> cases h

/-- One store of a block: its bytes, the rest of memory, and that the next one meets the same machine. -/
theorem blockStore_ok {asi : Byte} {a pa : DWord} {d : BitVec 5} {little : Bool} (n : Nat) : ∀ (k : Nat) (s : State), k + n ≤ 8 →
    Memory.wf s.paWidth s.memory = true →
    (∀ j, k ≤ j → j < k + n → translate s .store false asi (maskAm s (a + BitVec.ofNat 64 (8 * j)))
      = .ok ⟨pa + BitVec.ofNat 64 (8 * j), little⟩) →
    ∃ u, blockStore asi a d n k s = .ok u ∧ u = { s with memory := u.memory }
      ∧ (∀ i, k ≤ i → i < k + n → ∀ j < 8, readByte s.paWidth u.memory (pa + BitVec.ofNat 64 (8 * i + j))
          = byteLane 8 little (getFDn s (d + BitVec.ofNat 5 i)) j)
      ∧ ∀ x, (∀ i, 8 * k ≤ i → i < 8 * (k + n) → physKey s.paWidth x ≠ physKey s.paWidth (pa + BitVec.ofNat 64 i)) →
          readByte s.paWidth u.memory x = readByte s.paWidth s.memory x := by
  induction n with
  | zero => intro k s _ _ _; exact ⟨s, rfl, rfl, fun i h1 h2 => by omega, fun x _ => rfl⟩
  | succ n ih =>
    intro k s hk hw ht
    have haddr (j : Nat) : pa + BitVec.ofNat 64 (8 * k) + BitVec.ofNat 64 j = pa + BitVec.ofNat 64 (8 * k + j) := by
      rw [BitVec.ofNat_add, add_assoc]
    obtain ⟨m, hm⟩ : ∃ m, m = writeMem s.paWidth s.memory (pa + BitVec.ofNat 64 (8 * k)) 8 little (getFDn s (d + BitVec.ofNat 5 k)) :=
      ⟨_, rfl⟩
    have hstore := storeAt_of (v := getFDn s (d + BitVec.ofNat 5 k)) (n := 8) (ht k le_rfl (by omega))
    have hwf : Memory.wf s.paWidth m = true := hm ▸ wf_writeMem hw _ _ _ _
    have hstored := stored_writeMem (s := s) (t := { s with memory := m }) hw (by decide) hm
    rw [← hm] at hstore
    obtain ⟨-, hbytes, hother⟩ := hstored
    simp only [haddr] at hbytes hother
    obtain ⟨u, hrun, hu, hsame, hrest⟩ := ih (k + 1) { s with memory := m } (by omega) hwf
      fun j h1 h2 => translate_memory m (ht j (by omega) (by omega))
    refine ⟨u, ?_, hu, fun i h1 h2 j hj => ?_, fun x hx => ?_⟩
    · rw [blockStore, hstore, ok_bind, hrun]
    · rcases Nat.lt_or_eq_of_le h1 with hlt | rfl
      · exact hsame i hlt (by omega) j hj
      · rw [← hbytes j hj]
        exact hrest _ fun i' h1' h2' => physKey_add_ne pa (by omega) (by omega) (by omega)
    · rw [← hother x fun j hj => hx _ (by omega) (by omega)]
      exact hrest x fun i h1 h2 => hx i (by omega) (by omega)

/-! ### The checks of a block transfer -/

theorem field_of_doubleNumber (rd : BitVec 5) : rd.extractLsb' 1 3 = (doubleNumber rd).extractLsb' 0 3 := by revert rd; decide

theorem runBlockLoad_illegal {s : State} {asi : Byte} {a : DWord} {rd : BitVec 5} (h : (doubleNumber rd).extractLsb' 0 3 ≠ 0) :
    runBlockLoad s asi a rd = .error ⟨.illegalInstruction, s⟩ := by
  rw [runBlockLoad, field_of_doubleNumber, if_pos h]; rfl

theorem runBlockStore_illegal {s : State} {asi : Byte} {a : DWord} {rd : BitVec 5} (h : (doubleNumber rd).extractLsb' 0 3 ≠ 0) :
    runBlockStore s asi a rd = .error ⟨.illegalInstruction, s⟩ := by
  rw [runBlockStore, field_of_doubleNumber, if_pos h]; rfl

theorem runBlockLoad_legal {s : State} {asi : Byte} {a : DWord} {rd : BitVec 5} (h : (doubleNumber rd).extractLsb' 0 3 = 0) :
    runBlockLoad s asi a rd = (do
      requireFpuMarking s (markFD · rd)
      requireAligned s a 64
      requirePermitted s asi a
      blockLoad s asi a (doubleNumber rd) 8 0 s) := by
  rw [runBlockLoad, field_of_doubleNumber, if_neg (not_not.mpr h)]; rfl

theorem runBlockStore_legal {s : State} {asi : Byte} {a : DWord} {rd : BitVec 5} (h : (doubleNumber rd).extractLsb' 0 3 = 0) :
    runBlockStore s asi a rd = (do
      requireFpu s
      requireAligned s a 64
      requirePermitted s asi a
      blockStore asi a (doubleNumber rd) 8 0 s) := by
  rw [runBlockStore, field_of_doubleNumber, if_neg (not_not.mpr h)]

theorem requirePermitted_denied {s : State} {asi : Byte} {a : DWord} (h : asiPermitted s asi = false) :
    requirePermitted s asi a = .error ⟨.privilegedAction, noteDsfar s (maskAm s a)⟩ := by
  rw [requirePermitted, h]; rfl

/-- The checks that follow the FPU-enable check of a block transfer. -/
theorem block_checks_error {s : State} {asi : Byte} {a : DWord} {check : Effect Unit} (move : Effect State) (hcheck : check = .ok ()) :
    (a.toNat % 64 ≠ 0 → (do check; requireAligned s a 64; requirePermitted s asi a; move) =
      .error ⟨.memAddressNotAligned, noteDsfar s (maskAm s a)⟩)
    ∧ (a.toNat % 64 = 0 → asiPermitted s asi = false → (do check; requireAligned s a 64; requirePermitted s asi a; move) =
      .error ⟨.privilegedAction, noteDsfar s (maskAm s a)⟩) := by
  rw [hcheck]
  constructor
  · intro h
    rw [requireAligned_not ((not_alignedTo_iff a 64).mpr h)]; rfl
  · intro h hp
    rw [requireAligned_of ((alignedTo_iff a 64).mpr h), requirePermitted_denied hp]; rfl

theorem block_checks_ok {s : State} {asi : Byte} {a : DWord} {check : Effect Unit} (move : Effect State) (hcheck : check = .ok ())
    (h : a.toNat % 64 = 0) (hp : asiPermitted s asi = true) :
    (do check; requireAligned s a 64; requirePermitted s asi a; move) = move := by
  rw [hcheck, requireAligned_of ((alignedTo_iff a 64).mpr h), requirePermitted_of hp]; rfl

/-! ### The short and partial transfers (rules R844, R853, R854, decision D10) -/

theorem asiIsShort16_iff (asi : Byte) : asiIsShort16 asi = true ↔ asi ∈ ([0xD2, 0xD3, 0xDA, 0xDB] : List Byte) := by
  simp [asiIsShort16, or_assoc]

theorem shortTransfer_misaligned {s : State} {acc : Access} {asi : Byte} {a : DWord} (h : asi ∈ ([0xD2, 0xD3, 0xDA, 0xDB] : List Byte))
    (ha : a.toNat % 2 = 1) : shortTransfer s acc asi a = .error ⟨.memAddressNotAligned, noteDsfar s (maskAm s a)⟩ := by
  rw [shortTransfer, (asiIsShort16_iff asi).mpr h, if_pos rfl, requireAligned_not ((not_alignedTo_iff a 2).mpr (by omega))]; rfl

/-- Past its check a short transfer is data_access_exception. -/
theorem shortTransfer_refused {s : State} {acc : Access} {asi : Byte} {a : DWord}
    (h : asi ∉ ([0xD2, 0xD3, 0xDA, 0xDB] : List Byte) ∨ a.toNat % 2 = 0) : shortTransfer s acc asi a = invalidAsi s a := by
  rw [shortTransfer, refuseAsi_eq]
  split
  · next h16 =>
    have ha := h.resolve_left (not_not.mpr ((asiIsShort16_iff asi).mp h16))
    rw [requireAligned_of ((alignedTo_iff a 2).mpr ha)]; rfl
  · rfl

/-- An ASI or register that is not valid is reported in the fault registers (rule R1383). -/
theorem reportedDae_noteDae (s : State) (a : DWord) : ReportedDae s (noteDae s false a .invalidAsi) false a false := by
  refine ⟨reported_noteDae s false a .invalidAsi, rfl, ⟨faultType .invalidAsi, ?_, rfl⟩, ⟨_, rfl⟩⟩
  rw [if_neg Bool.false_ne_true]
  intro h
  have hcode := (Config.dsfsrCode .invalidAsi).isLt
  have hzero : ((Config.dsfsrCode .invalidAsi).val + 1) % 2 ^ 8 = 0 := (BitVec.toNat_ofNat _ 8).symm.trans (congrArg BitVec.toNat h)
  omega

/-- With the FPU enabled a partial store is data_access_exception past its alignment check. -/
theorem partialStore_eq {s : State} (asi : Byte) (a : DWord) (h : fpuEnabled s = true) :
    partialStore s asi a = (do requireStdf s a; invalidAsi s a) := by
  rw [partialStore, requireFpu_of h, refuseAsi_eq]; rfl

/-! ### The forms -/

/-- An instruction that begins with a failed check. -/
theorem refuses_of {s : State} {i : Instr} {a : DWord} {tr : Trap} {e : Effect State} {k : State → Effect State}
    (hi : exec i s = complete (e >>= k)) (h : e = .error ⟨tr, noteDsfar s (maskAm s a)⟩) : Refuses s i tr a := by
  subst h
  exact hi

/-- An instruction that begins with a refused ASI. -/
theorem refusesAsi_of {s : State} {i : Instr} {a : DWord} {e : Effect State} {k : State → Effect State}
    (hi : exec i s = complete (e >>= k)) (h : e = invalidAsi s a) : RefusesAsi s i a := by
  subst h
  exact ⟨_, hi, reportedDae_noteDae s (maskAm s a)⟩

theorem not_isBlock_of_isShort {asi : Byte} (h : asiIsShort asi = true) : asiIsBlock asi = false :=
  Bool.eq_false_iff.mpr fun hb => by have := asiClass_of_isBlock hb; rw [asiClass_of_isShort h] at this; cases this

theorem not_isPartial_of_isShort {asi : Byte} (h : asiIsShort asi = true) : asiIsPartial asi = false :=
  Bool.eq_false_iff.mpr fun hb => by have := asiClass_of_isPartial hb; rw [asiClass_of_isShort h] at this; cases this

theorem not_isPartial_of_isBlock {asi : Byte} (h : asiIsBlock asi = true) : asiIsPartial asi = false :=
  Bool.eq_false_iff.mpr fun hb => by have := asiClass_of_isPartial hb; rw [asiClass_of_isBlock h] at this; cases this

section
variable {s : State} {rd rs1 : BitVec 5} {asi : Byte} {a : DWord} {i : Instr}

theorem BlockLoadForm.exec_eq (h : BlockLoadForm s rd rs1 asi a i) :
    exec i s = complete (runBlockLoad s asi a rd >>= fun t => .ok (advance t)) := by
  rcases h with ⟨rs2, rfl, rfl⟩ | ⟨ea, rfl, rfl, rfl, hb⟩
  · rfl
  · rw [exec_lddfa, execLddfa, loadDoubleFrom, if_pos hb]; rfl

theorem BlockStoreForm.exec_eq (h : BlockStoreForm s rd rs1 asi a i) :
    exec i s = complete (runBlockStore s asi a rd >>= fun t => .ok (advance t)) := by
  rcases h with ⟨rs2, rfl, rfl⟩ | ⟨ea, rfl, rfl, rfl, hb⟩
  · rfl
  · rw [exec_stdfa, execStdfa]
    unfold storeDoubleTo
    rw [not_isPartial_of_isBlock hb, if_neg Bool.false_ne_true, if_pos hb]; rfl

theorem ShortLoadForm.exec_eq (h : ShortLoadForm s rd rs1 asi a i) :
    ∃ k, exec i s = complete (shortLoad s rd asi a >>= k) := by
  rcases h with ⟨rs2, rfl, rfl⟩ | ⟨ea, rfl, rfl, rfl, hs⟩
  · exact ⟨pure, by rw [bind_pure]; rfl⟩
  · refine ⟨fun t => .ok (advance t), ?_⟩
    rw [exec_lddfa, execLddfa, loadDoubleFrom, not_isBlock_of_isShort hs, if_neg Bool.false_ne_true, if_pos hs]; rfl

theorem ShortStoreForm.exec_eq (h : ShortStoreForm s rd rs1 asi a i) :
    ∃ k, exec i s = complete ((do requireFpu s; shortTransfer s .store asi a) >>= k) := by
  rcases h with ⟨rs2, rfl, rfl⟩ | ⟨ea, rfl, rfl, rfl, hs⟩
  · exact ⟨pure, by rw [bind_pure]; rfl⟩
  · refine ⟨fun t => .ok (advance t), ?_⟩
    rw [exec_stdfa, execStdfa]
    unfold storeDoubleTo
    rw [not_isPartial_of_isShort hs, if_neg Bool.false_ne_true, not_isBlock_of_isShort hs, if_neg Bool.false_ne_true, if_pos hs]; rfl

theorem PartialStoreForm.exec_eq (h : PartialStoreForm s rd rs1 asi a i) :
    ∃ k, exec i s = complete (partialStore s asi a >>= k) := by
  obtain ⟨rfl, rs2, rfl | ⟨rfl, hp⟩⟩ := h
  · exact ⟨pure, by rw [bind_pure]; rfl⟩
  · refine ⟨fun t => .ok (advance t), ?_⟩
    rw [exec_stdfa, execStdfa]
    unfold storeDoubleTo
    rw [show asiNumber s (.reg rs2 asi) = asi from rfl, if_pos hp]; rfl

end

/-- What a short transfer does with the FPU enabled. -/
theorem short_refusals {s : State} {acc : Access} {asi : Byte} {a : DWord} {i : Instr} {e : Effect State} {k : State → Effect State}
    (hi : exec i s = complete (e >>= k)) (he : e = shortTransfer s acc asi a) :
    (asi ∈ ([0xD2, 0xD3, 0xDA, 0xDB] : List Byte) → a.toNat % 2 = 1 → Refuses s i .memAddressNotAligned a)
    ∧ (asi ∉ ([0xD2, 0xD3, 0xDA, 0xDB] : List Byte) ∨ a.toNat % 2 = 0 → RefusesAsi s i a) :=
  ⟨fun h ha => refuses_of hi (he.trans (shortTransfer_misaligned h ha)),
    fun h => refusesAsi_of hi (he.trans (shortTransfer_refused h))⟩

/-- A block load whose checks pass (rule R843). -/
theorem blockLoad_result {s : State} {rd rs1 : BitVec 5} {asi : Byte} {a : DWord} {i : Instr} {g : Nat → Target}
    (hi : BlockLoadForm s rd rs1 asi a i) (hd : (doubleNumber rd).extractLsb' 0 3 = 0) (hen : fpuEnabled s = true)
    (ha : a.toNat % 64 = 0) (hp : asiPermitted s asi = true)
    (ht : ∀ k < 8, translate s .load false asi (maskAm s (a + BitVec.ofNat 64 (8 * k))) = .ok (g k)) :
    ∃ t, exec i s = .next t ∧ SameBytes s t
      ∧ (∀ n < 8, Loaded s (g n).pa 8 (g n).little (getFDn t (doubleNumber rd + BitVec.ofNat 5 n)))
      ∧ (∀ x : BitVec 5, x.extractLsb' 3 2 ≠ (doubleNumber rd).extractLsb' 3 2 → getFDn t x = getFDn s x)
      ∧ t = advance { s with fregs := t.fregs, fprs := dirtyDouble s.fprs rd } := by
  obtain ⟨v, hv⟩ : ∃ v : Nat → DWord, v = fun j => readMem s.paWidth s.memory (g j).pa 8 (g j).little := ⟨_, rfl⟩
  obtain ⟨u, hu⟩ : ∃ u, u = setDoubles (doubleNumber rd) v 8 0 s := ⟨_, rfl⟩
  have hframe : u = { s with fregs := u.fregs, fprs := dirtyDouble s.fprs rd } := by
    rw [hu, ← dirtyNumber_doubleNumber]
    exact setDoubles_eq hd v 7 0 s (by decide)
  have hrun : runBlockLoad s asi a rd = .ok u := by
    rw [runBlockLoad_legal hd, block_checks_ok _ (requireFpuMarking_of hen) ha hp,
      blockLoad_ok 8 0 s fun j _ hj => ht j (by omega), hu, hv]
  refine ⟨advance u, ?_, sameBytes_of (by rw [hframe]; rfl) (by rw [hframe]; rfl), fun n hn => ?_, fun x hx => ?_, ?_⟩
  · rw [hi.exec_eq, hrun]; rfl
  · have hread : getFDn (advance u) (doubleNumber rd + BitVec.ofNat 5 n) = v n :=
      hu ▸ getFDn_setDoubles_same v 8 0 s (by decide) n (Nat.zero_le n) (by omega)
    rw [hread, hv]
    exact loaded_readMem s (g n).pa (by decide) (g n).little
  · have hread : getFDn (setDoubles (doubleNumber rd) v 8 0 s) x = getFDn s x :=
      getFDn_setDoubles_other v 8 0 s fun j _ hj heq => hx (heq ▸ (block_quarter hd (by omega)).1)
    rw [← hread, ← hu]; rfl
  · exact congrArg advance hframe

/-- A block store whose checks pass (rule R852). -/
theorem blockStore_result {s : State} {rd rs1 : BitVec 5} {asi : Byte} {a pa : DWord} {little : Bool} {i : Instr}
    (hi : BlockStoreForm s rd rs1 asi a i) (hd : (doubleNumber rd).extractLsb' 0 3 = 0) (hen : fpuEnabled s = true)
    (ha : a.toNat % 64 = 0) (hp : asiPermitted s asi = true) (hw : Memory.wf s.paWidth s.memory = true)
    (ht : ∀ k < 8, translate s .store false asi (maskAm s (a + BitVec.ofNat 64 (8 * k)))
      = .ok ⟨pa + BitVec.ofNat 64 (8 * k), little⟩) :
    ∃ t, exec i s = .next t ∧ t = advance { s with memory := t.memory }
      ∧ (∀ n < 8, ∀ j < 8, readByte t.paWidth t.memory (pa + BitVec.ofNat 64 (8 * n + j))
          = byteLane 8 little (getFDn s (doubleNumber rd + BitVec.ofNat 5 n)) j)
      ∧ ∀ x, (∀ m < 64, physKey s.paWidth x ≠ physKey s.paWidth (pa + BitVec.ofNat 64 m)) →
          readByte t.paWidth t.memory x = readByte s.paWidth s.memory x := by
  obtain ⟨u, hrun, hu, hbytes, hother⟩ := blockStore_ok (d := doubleNumber rd) 8 0 s (by decide) hw fun j _ hj => ht j (by omega)
  have hwidth : (advance u).paWidth = s.paWidth := by rw [hu]; rfl
  refine ⟨advance u, ?_, congrArg advance hu, fun n hn j hj => ?_, fun x hx => ?_⟩
  · rw [hi.exec_eq, runBlockStore_legal hd, block_checks_ok _ (requireFpu_of hen) ha hp, hrun]; rfl
  · rw [hwidth]
    exact hbytes n (Nat.zero_le n) (by omega) j hj
  · rw [hwidth]
    exact hother x fun m _ hm => hx m (by omega)

/-- Settles O46: each form is one shared transfer (`exec_eq`), of which the checks, or the block of eight accesses, decide. -/
theorem blockShortAndPartialTransfers : Obligations.BlockShortAndPartialTransfers := by
  rintro rd rs1 asi s a d i rfl
  refine ⟨?_, fun hoff => ?_, fun hp hf hd hi => ?_, fun hp hf hd ha hperm => ?_, fun hp hf hi => ?_, fun hp hf hi => ?_,
    fun n hn => ?_⟩
  · rintro (hi | hi) hd
    · rw [hi.exec_eq, runBlockLoad_illegal hd]; rfl
    · rw [hi.exec_eq, runBlockStore_illegal hd]; rfl
  · have hen := (fpuEnabled_eq_false_iff s).mpr hoff
    have hfpu := requireFpu_of_disabled hen
    have hmark := requireFpuMarking_of_disabled (mark := (markFD · rd)) hen
    rw [← markFD_eq]
    refine ⟨fun hi hd => ?_, fun hi hd => ?_, fun hi => ?_, ?_⟩
    · rw [hi.exec_eq, runBlockLoad_legal hd, hmark]; rfl
    · rw [hi.exec_eq, runBlockStore_legal hd, hfpu]; rfl
    · obtain ⟨k, hk⟩ := hi.exec_eq
      rw [hk, shortLoad, hmark]; rfl
    · rintro (hi | hi) <;> obtain ⟨k, hk⟩ := hi.exec_eq
      · rw [hk, hfpu]; rfl
      · rw [hk, partialStore, hfpu]; rfl
  · have hen := fpuEnabled_of hp hf
    rcases hi with hi | hi
    · obtain ⟨hmis, hden⟩ := block_checks_error (s := s) (asi := asi) (a := a) (blockLoad s asi a (doubleNumber rd) 8 0 s)
        (requireFpuMarking_of (mark := (markFD · rd)) hen)
      rw [← runBlockLoad_legal hd] at hmis hden
      exact ⟨fun h => refuses_of hi.exec_eq (hmis h), fun h h' => refuses_of hi.exec_eq (hden h h')⟩
    · obtain ⟨hmis, hden⟩ := block_checks_error (s := s) (asi := asi) (a := a) (blockStore asi a (doubleNumber rd) 8 0 s)
        (requireFpu_of hen)
      rw [← runBlockStore_legal hd] at hmis hden
      exact ⟨fun h => refuses_of hi.exec_eq (hmis h), fun h h' => refuses_of hi.exec_eq (hden h h')⟩
  · have hen := fpuEnabled_of hp hf
    exact ⟨fun g hi ht => blockLoad_result hi hd hen ha hperm ht, fun pa little hw hi ht => blockStore_result hi hd hen ha hperm hw ht⟩
  · have hen := fpuEnabled_of hp hf
    rcases hi with hi | hi <;> obtain ⟨k, hk⟩ := hi.exec_eq
    · exact short_refusals (acc := .load) hk (by rw [shortLoad, requireFpuMarking_of hen]; rfl)
    · exact short_refusals (acc := .store) hk (by rw [requireFpu_of hen]; rfl)
  · obtain ⟨k, hk⟩ := hi.exec_eq
    rw [partialStore_eq asi a (fpuEnabled_of hp hf), requireStdf] at hk
    refine ⟨fun h => refuses_of hk ?_, fun h => refuses_of hk ?_, fun h => refusesAsi_of hk ?_⟩
    · rw [requireDouble_misaligned h]; rfl
    · rw [requireDouble_word h]; rfl
    · rw [requireDouble_of h]; rfl
  · rw [exec_stdfa, execStdfa]
    unfold storeDoubleTo
    rw [show asiNumber s (.imm n) = s.asi from rfl, if_pos hn]; rfl

end Sys2Proof.Machine

/-! PROOFS. No instruction run in nonprivileged mode changes privileged state (O18). The registers only more privileged software
may write are read as one value, the `privilegedView` of a state; each shared operation keeps it or takes a trap, and each
instruction ends in one of them. -/

namespace Sys2Proof.Machine

/-! ### The privileged part of a state -/

/-- The privileged part of a state: the registers `SamePrivileged` compares and the MMU, everything else as after a reset. -/
def privilegedView (s : State) : State :=
  { State.reset with
    hpstate := s.hpstate, pstate := s.pstate, tl := s.tl, gl := s.gl, pil := s.pil, tba := s.tba, htba := s.htba
    trapStack := s.trapStack, hsp := s.hsp, hstickCmpr := s.hstickCmpr, tick := s.tick, stick := s.stick
    tickCmpr := s.tickCmpr, stickCmpr := s.stickCmpr, softint := s.softint, pcr := s.pcr
    scratchpad := s.scratchpad, hypScratchpad := s.hypScratchpad, queues := s.queues, cmt := s.cmt
    peerIntrIds := s.peerIntrIds, xirPending := s.xirPending, errors := s.errors
    win := { s.win with cwp := 0, cansave := 0, canrestore := 0 }
    mmu := s.mmu }

/-- The MMU without the registers an exception of a data access writes (rule R1383). -/
def forgetFaults (m : Mmu) : Mmu := { m with dsfar := 0, dsfsr := 0, dtagAccess := 0 }

/-- The privileged part of a state without the MMU's fault registers. -/
def faultFreeView (s : State) : State := { privilegedView s with mmu := forgetFaults s.mmu }

theorem forgetFaults_eq_iff (m n : Mmu) :
    forgetFaults n = forgetFaults m ↔ n = { m with dsfar := n.dsfar, dsfsr := n.dsfsr, dtagAccess := n.dtagAccess } := by
  cases m; cases n
  simp [forgetFaults]

theorem otherWindowRegs_eq_iff (v w : WindowRegs) :
    ({ w with cwp := 0, cansave := 0, canrestore := 0 } : WindowRegs) = { v with cwp := 0, cansave := 0, canrestore := 0 }
      ↔ w = { v with cwp := w.cwp, cansave := w.cansave, canrestore := w.canrestore } := by
  cases v; cases w
  simp

theorem privilegedView_eq_iff (s t : State) :
    privilegedView t = privilegedView s ↔ SamePrivileged s t ∧ t.mmu = s.mmu := by
  rw [SamePrivileged, ← otherWindowRegs_eq_iff]
  simp only [privilegedView, State.mk.injEq, true_and, and_true]
  tauto

theorem faultFreeView_eq_iff (s t : State) :
    faultFreeView t = faultFreeView s ↔ SamePrivileged s t
      ∧ t.mmu = { s.mmu with dsfar := t.mmu.dsfar, dsfsr := t.mmu.dsfsr, dtagAccess := t.mmu.dtagAccess } := by
  rw [SamePrivileged, ← otherWindowRegs_eq_iff, ← forgetFaults_eq_iff]
  simp only [faultFreeView, privilegedView, State.mk.injEq, true_and, and_true]
  tauto

theorem faultFreeView_congr {s t : State} (h : privilegedView t = privilegedView s) : faultFreeView t = faultFreeView s :=
  congrArg (fun v : State => { v with mmu := forgetFaults v.mmu }) h

/-! ### What each update of the state leaves of it -/

@[simp] theorem privilegedView_advance (s : State) : privilegedView (advance s) = privilegedView s := rfl
@[simp] theorem privilegedView_delayedTransfer (s : State) (ea : DWord) :
    privilegedView (delayedTransfer s ea) = privilegedView s := rfl
@[simp] theorem privilegedView_setCcr (s : State) (c : Ccr) : privilegedView (setCcr s c) = privilegedView s := rfl
@[simp] theorem privilegedView_setY (s : State) (v : Word) : privilegedView (setY s v) = privilegedView s := rfl
@[simp] theorem privilegedView_drawn (s : State) : privilegedView (drawn s) = privilegedView s := rfl
@[simp] theorem privilegedView_nextWindow (s : State) : privilegedView (nextWindow s) = privilegedView s := rfl
@[simp] theorem privilegedView_lastWindow (s : State) : privilegedView (lastWindow s) = privilegedView s := rfl
@[simp] theorem privilegedView_previousWindow (s : State) : privilegedView (previousWindow s) = privilegedView s := rfl
@[simp] theorem privilegedView_markFS (s : State) : privilegedView (markFS s) = privilegedView s := rfl
@[simp] theorem privilegedView_setFS (s : State) (rd : BitVec 5) (v : Word) :
    privilegedView (setFS s rd v) = privilegedView s := rfl
@[simp] theorem privilegedView_clearFtt (s : State) : privilegedView (clearFtt s) = privilegedView s := rfl
@[simp] theorem privilegedView_clearFpStatus (s : State) : privilegedView (clearFpStatus s) = privilegedView s := rfl

@[simp] theorem privilegedView_setR (s : State) (rd : BitVec 5) (v : DWord) :
    privilegedView (setR s rd v) = privilegedView s := by
  rw [setR_eq]; rfl

@[simp] theorem privilegedView_setRGsr (s : State) (rd : BitVec 5) (v : DWord) (g : Gsr) :
    privilegedView (setRGsr s rd v g) = privilegedView s := privilegedView_setR s rd v

@[simp] theorem privilegedView_markFD (s : State) (rd : BitVec 5) : privilegedView (markFD s rd) = privilegedView s := by
  rw [markFD_eq]; rfl

@[simp] theorem privilegedView_markFQ (s : State) (rd : BitVec 5) : privilegedView (markFQ s rd) = privilegedView s :=
  privilegedView_markFD s rd

@[simp] theorem privilegedView_setFDn (s : State) (d : BitVec 5) (v : DWord) :
    privilegedView (setFDn s d v) = privilegedView s := by
  unfold setFDn markFDn
  split <;> rfl

@[simp] theorem privilegedView_setFD (s : State) (rd : BitVec 5) (v : DWord) :
    privilegedView (setFD s rd v) = privilegedView s := privilegedView_setFDn s (doubleNumber rd) v

@[simp] theorem privilegedView_writeRY (s : State) (rd : BitVec 5) (v : DWord) :
    privilegedView (writeRY s rd v) = privilegedView s := privilegedView_setR s rd v

@[simp] theorem privilegedView_writeRFreeY (s : State) (rd : BitVec 5) (v : DWord) :
    privilegedView (writeRFreeY s rd v) = privilegedView s := privilegedView_setR s rd v

@[simp] theorem privilegedView_setPair (s : State) (rd : BitVec 5) (v : DWord × DWord) :
    privilegedView (setPair s rd v) = privilegedView s := by
  simp [setPair]

@[simp] theorem privilegedView_branch (s : State) (taken uncond : Bool) (a : BitVec 1) (ea : DWord) :
    privilegedView (branch s taken uncond a ea) = privilegedView s := by
  unfold branch
  split <;> [rfl; split <;> [rfl; split <;> rfl]]

/-! ### Outcomes that keep it -/

/-- An outcome nonprivileged software may bring about: the privileged part is unchanged, or a trap is taken from a state in which at
most the MMU's fault registers of it have changed. -/
def Contained (s : State) (r : Run) : Prop :=
  ∀ t, r = .next t → privilegedView t = privilegedView s ∨ ∃ u e, t = takeTrap u e ∧ faultFreeView u = faultFreeView s

theorem contained_next {s t : State} (h : privilegedView t = privilegedView s) : Contained s (.next t) := by
  rintro _ ⟨⟩
  exact .inl h

theorem contained_trapTo {s u : State} {e : Trap} (h : faultFreeView u = faultFreeView s) : Contained s (trapTo u e) := by
  rintro _ ⟨⟩
  exact .inr ⟨u, e, rfl, h⟩

theorem contained_trapTo_self (s : State) (e : Trap) : Contained s (trapTo s e) := contained_trapTo rfl

theorem contained_ite {s : State} {p : Prop} [Decidable p] {a b : Run} (ha : Contained s a) (hb : Contained s b) :
    Contained s (if p then a else b) := by
  split <;> assumption

/-- Where a check of the mode is known to hold, only what it leads to counts. -/
theorem contained_ite_of {s : State} {p : Prop} [Decidable p] {a b : Run} (hp : p) (ha : Contained s a) :
    Contained s (if p then a else b) := by
  rwa [if_pos hp]

theorem not_isHyper_of_isUser {s : State} (h : isUser s = true) : isHyper s = false := by
  simp only [isUser, Bool.and_eq_true, Bool.not_eq_true'] at h
  exact h.1

theorem not_isPriv_of_isUser {s : State} (h : isUser s = true) : isPriv s = false := by
  simp only [isUser, Bool.and_eq_true, Bool.not_eq_true'] at h
  simp [isPriv, h.2]

/-! ### Integer, branch and register-access operations -/

theorem contained_writeR (s : State) (rd : BitVec 5) (v : DWord) : Contained s (writeR s rd v) :=
  contained_next (by simp)

theorem contained_writeRC (s : State) (rd : BitVec 5) (v : DWord) (c : Ccr) : Contained s (writeRC s rd v c) :=
  contained_next (by simp)

theorem contained_moveIf (s : State) (rd : BitVec 5) (t : Bool) (v : DWord) : Contained s (moveIf s rd t v) :=
  contained_next (by cases t <;> simp)

theorem contained_moveIfFcc (s : State) (rd : BitVec 5) (cond : BitVec 4) (cc : BitVec 2) (v : DWord) :
    Contained s (moveIfFcc s rd cond cc v) :=
  contained_ite (contained_moveIf s rd _ v) (contained_trapTo_self s _)

theorem contained_branchIcc {w : Nat} (s : State) (cond : BitVec 4) (cc : CC) (a : BitVec 1) (disp : BitVec w) :
    Contained s (branchIcc s cond cc a disp) :=
  contained_next (by simp)

theorem contained_branchReg (s : State) (rcond : BitVec 3) (a : BitVec 1) (rs1 : BitVec 5) (disp : BitVec 16) :
    Contained s (branchReg s rcond a rs1 disp) :=
  contained_next (by simp)

theorem contained_branchFcc {w : Nat} (s : State) (cond : BitVec 4) (cc : BitVec 2) (a : BitVec 1) (disp : BitVec w) :
    Contained s (branchFcc s cond cc a disp) :=
  contained_ite (contained_next (by simp)) (contained_trapTo_self s _)

theorem contained_trapIf (s : State) (cond : BitVec 4) (cc : CC) (rs1 : BitVec 5) (op2 : TrapOperand) :
    Contained s (trapIf s cond cc rs1 op2) :=
  contained_ite (contained_trapTo_self s _) (contained_next (by simp))

theorem contained_prefetchHint (s : State) (fcn : BitVec 5) : Contained s (prefetchHint s fcn) :=
  contained_ite (contained_trapTo_self s _) (contained_next (by simp))

theorem contained_readPrivileged {s : State} (h : isUser s = true) (rd : BitVec 5) (v : DWord) :
    Contained s (readPrivileged s rd v) :=
  contained_ite_of h (contained_trapTo_self s _)

theorem contained_writePrivileged {s : State} (h : isUser s = true) (t : State) : Contained s (writePrivileged s t) :=
  contained_ite_of h (contained_trapTo_self s _)

/-- An operation of hyperprivileged mode alone, by its check first. -/
theorem contained_hyperOnly {s : State} (h : isUser s = true) {r : Run} {e : Trap} :
    Contained s (if isHyper s then r else trapTo s e) := by
  rw [if_neg (by simp [not_isHyper_of_isUser h])]
  exact contained_trapTo_self s e

/-! ### Floating-point and VIS operations -/

theorem contained_finishFp (s : State) (e : IeeeFlags) {write : State → State}
    (h : ∀ t, privilegedView (write t) = privilegedView t) : Contained s (finishFp s e write) := by
  unfold finishFp
  split
  · exact contained_trapTo rfl
  · exact contained_next (h _)

theorem contained_unimplementedFPop (s : State) {mark : State → State} (h : privilegedView (mark s) = privilegedView s) :
    Contained s (unimplementedFPop s mark) :=
  contained_ite (contained_trapTo rfl) (contained_trapTo (faultFreeView_congr h))

theorem contained_unlessUnfinished {s : State} {opf : BitVec 9} {a b : DWord} {run : Run} (h : Contained s run) :
    Contained s (unlessUnfinished s opf a b run) :=
  contained_ite (contained_trapTo rfl) h

theorem contained_fpIntoS (s : State) (rd : BitVec 5) (r : FpResult) : Contained s (fpIntoS s rd r) :=
  contained_ite (contained_finishFp s _ (by simp)) (contained_trapTo rfl)

theorem contained_fpIntoD (s : State) (rd : BitVec 5) (r : FpResult) : Contained s (fpIntoD s rd r) :=
  contained_ite (contained_finishFp s _ (by simp)) (contained_trapTo (faultFreeView_congr (by simp)))

theorem contained_arithIntoS (s : State) (rd : BitVec 5) (opf : BitVec 9) (a b : DWord) (r : FpResult) :
    Contained s (arithIntoS s rd opf a b r) :=
  contained_ite (contained_unlessUnfinished (contained_fpIntoS s rd r)) (contained_trapTo rfl)

theorem contained_arithIntoD (s : State) (rd : BitVec 5) (opf : BitVec 9) (a b : DWord) (r : FpResult) :
    Contained s (arithIntoD s rd opf a b r) :=
  contained_ite (contained_unlessUnfinished (contained_fpIntoD s rd r)) (contained_trapTo (faultFreeView_congr (by simp)))

theorem contained_compareFp (s : State) (cc relation : BitVec 2) (nv : Bool) : Contained s (compareFp s cc relation nv) :=
  contained_ite (contained_finishFp s _ fun _ => rfl) (contained_trapTo_self s _)

theorem contained_moveFS (s : State) (t : Bool) (rd : BitVec 5) (v : Word) : Contained s (moveFS s t rd v) :=
  contained_ite (contained_next (by cases t <;> simp)) (contained_trapTo rfl)

theorem contained_moveFD (s : State) (t : Bool) (rd : BitVec 5) (v : DWord) : Contained s (moveFD s t rd v) :=
  contained_ite (contained_next (by cases t <;> simp)) (contained_trapTo (faultFreeView_congr (by simp)))

theorem contained_visInto {s t : State} (h : privilegedView t = privilegedView s) : Contained s (visInto s t) :=
  contained_ite (contained_next h) (contained_trapTo_self s _)

theorem contained_visIntoS (s : State) (rd : BitVec 5) (v : Word) : Contained s (visIntoS s rd v) :=
  contained_ite (contained_next (by simp)) (contained_trapTo rfl)

theorem contained_visIntoD (s : State) (rd : BitVec 5) (v : DWord) : Contained s (visIntoD s rd v) :=
  contained_ite (contained_next (by simp)) (contained_trapTo (faultFreeView_congr (by simp)))

theorem contained_edgeN (s : State) (rd : BitVec 5) (w k : Nat) (little : Bool) (a b : DWord) :
    Contained s (edgeN s rd w k little a b) :=
  contained_ite (contained_next (by simp)) (contained_trapTo_self s _)

theorem contained_edgeCC (s : State) (rd : BitVec 5) (w k : Nat) (little : Bool) (a b : DWord) :
    Contained s (edgeCC s rd w k little a b) :=
  contained_ite (contained_next (by simp)) (contained_trapTo_self s _)

theorem contained_arrayInto (s : State) (rd : BitVec 5) (x n : DWord) (shift : Nat) : Contained s (arrayInto s rd x n shift) :=
  contained_ite (contained_next (by simp)) (contained_next (by simp))

/-! ### Effects -/

/-- An effect that answers what `P` says, or raises an exception that leaves at most the MMU's fault registers changed. -/
def EffectContained {α : Type} (s : State) (P : α → Prop) : Effect α → Prop
  | .ok a => P a
  | .error x => faultFreeView x.state = faultFreeView s

/-- An effect that answers no state: a check, a translation or a load. -/
def CheckContained {α : Type} (s : State) (e : Effect α) : Prop := EffectContained s (fun _ => True) e

/-- An effect whose answer is the state after it. -/
def StateContained (s : State) (e : Effect State) : Prop :=
  EffectContained s (fun t => privilegedView t = privilegedView s) e

/-- An effect whose answer is a value and the state after it. -/
def PairContained (s : State) (e : Effect (DWord × State)) : Prop :=
  EffectContained s (fun r => privilegedView r.2 = privilegedView s) e

section
variable {α β : Type} {s : State} {P : α → Prop} {Q : β → Prop}

theorem effectContained_bind {e : Effect α} {f : α → Effect β} (he : EffectContained s P e)
    (hf : ∀ a, P a → EffectContained s Q (f a)) : EffectContained s Q (e >>= f) := by
  cases e with
  | ok a => exact hf a he
  | error x => exact he

theorem effectContained_ite {p : Prop} [Decidable p] {a b : Effect α} (ha : EffectContained s P a) (hb : EffectContained s P b) :
    EffectContained s P (if p then a else b) := by
  split <;> assumption

theorem contained_complete {e : Effect State} (h : StateContained s e) : Contained s (complete e) := by
  cases e with
  | ok t => exact contained_next h
  | error x => exact contained_trapTo h

theorem checkContained_bind {e : Effect α} {f : α → Effect β} (he : CheckContained s e) (hf : ∀ a, EffectContained s Q (f a)) :
    EffectContained s Q (e >>= f) :=
  effectContained_bind he fun a _ => hf a

end

/-! ### Checks and translation -/

theorem checkContained_requireAligned (s : State) (a : DWord) (n : Nat) : CheckContained s (requireAligned s a n) :=
  effectContained_ite trivial rfl

theorem checkContained_requireDouble (s : State) (a : DWord) (e : Trap) : CheckContained s (requireDouble s a e) :=
  effectContained_ite rfl (effectContained_ite rfl trivial)

theorem checkContained_requirePermitted (s : State) (asi : Byte) (a : DWord) : CheckContained s (requirePermitted s asi a) :=
  effectContained_ite trivial rfl

theorem checkContained_requireFpu (s : State) : CheckContained s (requireFpu s) := effectContained_ite trivial rfl

theorem checkContained_requireFpuMarking {s : State} {mark : State → State} (h : privilegedView (mark s) = privilegedView s) :
    CheckContained s (requireFpuMarking s mark) :=
  effectContained_ite trivial (faultFreeView_congr h)

/-- The exception of an invalid ASI, whatever the access would have answered. -/
theorem effectContained_refuseAsi {α : Type} {P : α → Prop} (s : State) (acc : Access) (asi : Byte) (a : DWord) :
    EffectContained s P (refuseAsi s acc asi a) :=
  effectContained_ite rfl rfl

theorem checkContained_requireAsi {s : State} {align : Effect Unit} (h : CheckContained s align) (acc : Access) (asi : Byte)
    (a : DWord) (admits : AsiClass → Bool) : CheckContained s (requireAsi s acc asi a align admits) :=
  checkContained_bind (effectContained_ite trivial h) fun _ =>
    checkContained_bind (checkContained_requirePermitted s asi a) fun _ =>
      effectContained_ite trivial (effectContained_refuseAsi s acc asi a)

theorem checkContained_requireAsi_aligned (s : State) (acc : Access) (asi : Byte) (a : DWord) (n : Nat)
    (admits : AsiClass → Bool) : CheckContained s (requireAsi s acc asi a (requireAligned s a n) admits) :=
  checkContained_requireAsi (checkContained_requireAligned s a n) acc asi a admits

theorem checkContained_throughEntry (s : State) (acc : Access) (c : Bool) (asi : Byte) (a : DWord) (e : TlbEntry) :
    CheckContained s (throughEntry s acc c asi a e) := by
  unfold throughEntry
  split
  · exact rfl
  · exact effectContained_ite rfl (effectContained_ite rfl trivial)

/-- Translation raises its exceptions with at most the fault registers written (rules R1378, R1380, R1383). -/
theorem checkContained_translate (s : State) (acc : Access) (c : Bool) (asi : Byte) (a : DWord) :
    CheckContained s (translate s acc c asi a) := by
  refine effectContained_ite (effectContained_ite rfl trivial) (effectContained_ite rfl ?_)
  split <;> split
  · exact rfl
  · exact checkContained_throughEntry s acc c asi a _
  · exact rfl
  · exact checkContained_throughEntry s acc c asi a _

/-! ### One access -/

theorem checkContained_loadAt (s : State) (asi : Byte) (a : DWord) (n : Nat) : CheckContained s (loadAt s asi a n) :=
  checkContained_bind (checkContained_translate s _ _ _ _) fun _ => trivial

theorem checkContained_loadTwinAt (s : State) (asi : Byte) (a : DWord) : CheckContained s (loadTwinAt s asi a) :=
  checkContained_bind (checkContained_translate s _ _ _ _) fun _ => trivial

theorem checkContained_loadPair (s : State) (asi : Byte) (a : DWord) : CheckContained s (loadPair s asi a) :=
  checkContained_bind (checkContained_loadAt s asi a 4) fun _ =>
    checkContained_bind (checkContained_loadAt s asi (a + 4) 4) fun _ => trivial

/-- A store changes memory alone: no access installs a TLB entry (`walked_eq`). -/
theorem stateContained_storeAt (s : State) (asi : Byte) (a : DWord) (n : Nat) (v : DWord) :
    StateContained s (storeAt s asi a n v) :=
  checkContained_bind (checkContained_translate s _ _ _ _) fun _ => rfl

/-- What is contained from one state is from every state with the same privileged part. -/
theorem stateContained_of_view {s u : State} {e : Effect State} (h : privilegedView u = privilegedView s)
    (he : StateContained u e) : StateContained s e := by
  cases e with
  | ok t => exact he.trans h
  | error x => exact he.trans (faultFreeView_congr h)

theorem stateContained_bind {s : State} {e : Effect State} {f : State → Effect State} (he : StateContained s e)
    (hf : ∀ u, StateContained u (f u)) : StateContained s (e >>= f) :=
  effectContained_bind he fun u hu => stateContained_of_view hu (hf u)

theorem stateContained_storePair (s : State) (asi : Byte) (a v0 v1 : DWord) : StateContained s (storePair s asi a v0 v1) :=
  stateContained_bind (stateContained_storeAt s asi a 4 v0) fun u => stateContained_storeAt u asi (a + 4) 4 v1

theorem pairContained_atomicAt (s : State) (asi : Byte) (a : DWord) (n : Nat) (new : DWord → Option DWord) :
    PairContained s (atomicAt s asi a n new) := by
  refine checkContained_bind (checkContained_translate s _ _ _ _) fun t => ?_
  dsimp only
  split <;> exact rfl

/-! ### Register ASIs -/

theorem lt_of_register {asi : Byte} (h : asiClass asi = .register) : asi.toNat < 0x80 := by
  revert asi; decide +kernel

/-- Nonprivileged software may use none of the register ASIs (rule R340). -/
theorem not_asiPermitted_register {s : State} {asi : Byte} (hu : isUser s = true) (h : asiClass asi = .register) :
    asiPermitted s asi = false := by
  simp [asiPermitted, not_isHyper_of_isUser hu, not_isPriv_of_isUser hu, lt_of_register h]

theorem pairContained_loadAlternate8 {s : State} {align : Effect Unit} (h : CheckContained s align) (asi : Byte) (a : DWord) :
    PairContained s (loadAlternate8 s asi a align) := by
  refine effectContained_ite ?_ ?_
  · refine checkContained_bind h fun _ => checkContained_bind (checkContained_requirePermitted s asi a) fun _ => ?_
    split <;> exact rfl
  · exact checkContained_bind (checkContained_requireAsi h .load asi a admitsLoad) fun _ =>
      checkContained_bind (checkContained_loadAt s asi a 8) fun _ => rfl

/-- A store to a register ASI takes privileged_action before it writes anything. -/
theorem stateContained_storeAlternate8 {s : State} (hu : isUser s = true) {align : Effect Unit} (h : CheckContained s align)
    (asi : Byte) (a v : DWord) : StateContained s (storeAlternate8 s asi a v align) := by
  unfold storeAlternate8
  split
  · rename_i hr
    refine checkContained_bind h fun _ => ?_
    rw [requirePermitted, if_neg (by simp [not_asiPermitted_register hu hr])]
    exact rfl
  · exact checkContained_bind (checkContained_requireAsi h .store asi a admitsStore) fun _ => stateContained_storeAt s asi a 8 v

/-! ### Whole integer loads and stores -/

theorem stateContained_ok {s t : State} (h : privilegedView t = privilegedView s) : StateContained s (pure t) := h

theorem contained_loadR (s : State) (rd rs1 : BitVec 5) (op2 : RegOrImm13) (n : Nat) (ext : DWord → DWord) :
    Contained s (loadR s rd rs1 op2 n ext) :=
  contained_complete <| checkContained_bind (checkContained_requireAligned s _ n) fun _ =>
    checkContained_bind (checkContained_loadAt s _ _ n) fun _ => stateContained_ok (by simp)

theorem contained_loadAlternateR (s : State) (rd rs1 : BitVec 5) (ea : AsiOperand) (n : Nat) (ext : DWord → DWord) :
    Contained s (loadAlternateR s rd rs1 ea n ext) :=
  contained_complete <| checkContained_bind (checkContained_requireAsi_aligned s .load _ _ n admitsLoad) fun _ =>
    checkContained_bind (checkContained_loadAt s _ _ n) fun _ => stateContained_ok (by simp)

theorem contained_storeR (s : State) (rd rs1 : BitVec 5) (op2 : RegOrImm13) (n : Nat) : Contained s (storeR s rd rs1 op2 n) :=
  contained_complete <| checkContained_bind (checkContained_requireAligned s _ n) fun _ =>
    stateContained_bind (stateContained_storeAt s _ _ n _) fun _ => stateContained_ok (by simp)

theorem contained_storeAlternateR (s : State) (rd rs1 : BitVec 5) (ea : AsiOperand) (n : Nat) :
    Contained s (storeAlternateR s rd rs1 ea n) :=
  contained_complete <| checkContained_bind (checkContained_requireAsi_aligned s .store _ _ n admitsStore) fun _ =>
    stateContained_bind (stateContained_storeAt s _ _ n _) fun _ => stateContained_ok (by simp)

/-- The end of an instruction that reads into a register: what was answered goes to R[rd]. -/
theorem stateContained_writeBack {s : State} {e : Effect (DWord × State)} (h : PairContained s e) (rd : BitVec 5) :
    StateContained s (do let r ← e; return advance (setR r.2 rd r.1)) :=
  effectContained_bind h fun _ hr => stateContained_ok (by simpa using hr)

theorem contained_atomicR (s : State) (rd rs1 : BitVec 5) (op2 : RegOrImm13) (n : Nat) (new : DWord → Option DWord) :
    Contained s (atomicR s rd rs1 op2 n new) :=
  contained_complete <| checkContained_bind (checkContained_requireAligned s _ n) fun _ =>
    stateContained_writeBack (pairContained_atomicAt s _ _ n new) rd

theorem contained_atomicAlternateR (s : State) (rd : BitVec 5) (asi : Byte) (a : DWord) (n : Nat) (new : DWord → Option DWord) :
    Contained s (atomicAlternateR s rd asi a n new) :=
  contained_complete <| checkContained_bind (checkContained_requireAsi_aligned s .atomic asi a n admitsAtomic) fun _ =>
    stateContained_writeBack (pairContained_atomicAt s asi a n new) rd

theorem contained_execLdxa (rd rs1 : BitVec 5) (ea : AsiOperand) (s : State) : Contained s (execLdxa rd rs1 ea s) :=
  contained_complete <|
    stateContained_writeBack (pairContained_loadAlternate8 (checkContained_requireAligned s _ 8) _ _) rd

/-- The instruction ends with `advance` after an effect that answers the state. -/
theorem contained_complete_advance {s : State} {e : Effect State} (h : StateContained s e) :
    Contained s (complete do let t ← e; return advance t) :=
  contained_complete (stateContained_bind h fun _ => stateContained_ok (by simp))

theorem contained_execStxa {s : State} (hu : isUser s = true) (rd rs1 : BitVec 5) (ea : AsiOperand) :
    Contained s (execStxa rd rs1 ea s) :=
  contained_complete_advance (stateContained_storeAlternate8 hu (checkContained_requireAligned s _ 8) _ _ _)

theorem contained_execLdtw (rd rs1 : BitVec 5) (op2 : RegOrImm13) (s : State) : Contained s (execLdtw rd rs1 op2 s) :=
  contained_ite (contained_trapTo_self s _) <| contained_complete <|
    checkContained_bind (checkContained_requireAligned s _ 8) fun _ =>
      checkContained_bind (checkContained_loadPair s _ _) fun _ => stateContained_ok (by simp)

theorem contained_execLdtwa (rd rs1 : BitVec 5) (ea : AsiOperand) (s : State) : Contained s (execLdtwa rd rs1 ea s) :=
  contained_ite (contained_trapTo_self s _) <| contained_complete <|
    checkContained_bind (checkContained_requireAsi_aligned s .load _ _ 8 admitsLoad) fun _ =>
      checkContained_bind (checkContained_loadPair s _ _) fun _ => stateContained_ok (by simp)

theorem contained_execLdtxa (rd rs1 rs2 : BitVec 5) (asi : Byte) (s : State) : Contained s (execLdtxa rd rs1 rs2 asi s) :=
  contained_ite (contained_trapTo_self s _) <| contained_complete <|
    checkContained_bind (checkContained_requireAligned s _ 16) fun _ =>
      checkContained_bind (checkContained_requirePermitted s _ _) fun _ =>
        checkContained_bind (checkContained_loadTwinAt s _ _) fun _ =>
          checkContained_bind (checkContained_loadTwinAt s _ _) fun _ => stateContained_ok (by simp)

theorem contained_execSttw (rd rs1 : BitVec 5) (op2 : RegOrImm13) (s : State) : Contained s (execSttw rd rs1 op2 s) :=
  contained_ite (contained_trapTo_self s _) <| contained_complete <|
    checkContained_bind (checkContained_requireAligned s _ 8) fun _ =>
      stateContained_bind (stateContained_storePair s _ _ _ _) fun _ => stateContained_ok (by simp)

theorem contained_execSttwa (rd rs1 : BitVec 5) (ea : AsiOperand) (s : State) : Contained s (execSttwa rd rs1 ea s) :=
  contained_ite (contained_trapTo_self s _) <| contained_complete <|
    checkContained_bind (checkContained_requireAsi_aligned s .store _ _ 8 admitsStore) fun _ =>
      stateContained_bind (stateContained_storePair s _ _ _ _) fun _ => stateContained_ok (by simp)

/-! ### Floating-point loads and stores -/

theorem stateContained_blockLoad (src : State) (asi : Byte) (a : DWord) (d : BitVec 5) (n k : Nat) (s : State)
    (h : privilegedView s = privilegedView src) : StateContained src (blockLoad src asi a d n k s) := by
  induction n generalizing k s with
  | zero => exact h
  | succ n ih =>
    exact checkContained_bind (checkContained_loadAt src asi _ 8) fun v => ih (k + 1) _ (by simpa using h)

theorem stateContained_blockStore (asi : Byte) (a : DWord) (d : BitVec 5) (n k : Nat) (s : State) :
    StateContained s (blockStore asi a d n k s) := by
  induction n generalizing k s with
  | zero => exact stateContained_ok rfl
  | succ n ih => exact stateContained_bind (stateContained_storeAt s asi _ 8 _) fun u => ih (k + 1) u

theorem stateContained_runBlockLoad (s : State) (asi : Byte) (a : DWord) (rd : BitVec 5) :
    StateContained s (runBlockLoad s asi a rd) :=
  effectContained_ite rfl <| checkContained_bind (checkContained_requireFpuMarking (by simp)) fun _ =>
    checkContained_bind (checkContained_requireAligned s a 64) fun _ =>
      checkContained_bind (checkContained_requirePermitted s asi a) fun _ =>
        stateContained_blockLoad s asi a _ 8 0 s rfl

theorem stateContained_runBlockStore (s : State) (asi : Byte) (a : DWord) (rd : BitVec 5) :
    StateContained s (runBlockStore s asi a rd) :=
  effectContained_ite rfl <| checkContained_bind (checkContained_requireFpu s) fun _ =>
    checkContained_bind (checkContained_requireAligned s a 64) fun _ =>
      checkContained_bind (checkContained_requirePermitted s asi a) fun _ => stateContained_blockStore asi a _ 8 0 s

theorem stateContained_shortTransfer (s : State) (acc : Access) (asi : Byte) (a : DWord) :
    StateContained s (shortTransfer s acc asi a) :=
  checkContained_bind (effectContained_ite (checkContained_requireAligned s a 2) trivial) fun _ =>
    effectContained_refuseAsi s acc asi a

theorem stateContained_shortLoad (s : State) (rd : BitVec 5) (asi : Byte) (a : DWord) :
    StateContained s (shortLoad s rd asi a) :=
  checkContained_bind (checkContained_requireFpuMarking (by simp)) fun _ => stateContained_shortTransfer s .load asi a

theorem stateContained_shortStore (s : State) (asi : Byte) (a : DWord) :
    StateContained s (do requireFpu s; shortTransfer s .store asi a) :=
  checkContained_bind (checkContained_requireFpu s) fun _ => stateContained_shortTransfer s .store asi a

theorem stateContained_partialStore (s : State) (asi : Byte) (a : DWord) : StateContained s (partialStore s asi a) :=
  checkContained_bind (checkContained_requireFpu s) fun _ =>
    checkContained_bind (checkContained_requireDouble s a _) fun _ => effectContained_refuseAsi s .store asi a

theorem stateContained_loadDoubleFrom (s : State) (rd : BitVec 5) (asi : Byte) (a : DWord) :
    StateContained s (loadDoubleFrom s rd asi a) :=
  effectContained_ite (stateContained_runBlockLoad s asi a rd) <|
    effectContained_ite (stateContained_shortLoad s rd asi a) <|
      checkContained_bind (checkContained_requireFpuMarking (by simp)) fun _ =>
        effectContained_bind (pairContained_loadAlternate8 (checkContained_requireDouble s a _) asi a) fun _ hr =>
          stateContained_ok (by simpa using hr)

theorem stateContained_storeDoubleTo {s : State} (hu : isUser s = true) (rd rs1 : BitVec 5) (ea : AsiOperand) :
    StateContained s (storeDoubleTo s rd rs1 ea) := by
  refine effectContained_ite ?_ <| effectContained_ite (stateContained_runBlockStore s _ _ rd) <|
    effectContained_ite (stateContained_shortStore s _ _) <| checkContained_bind (checkContained_requireFpu s) fun _ =>
      stateContained_storeAlternate8 hu (checkContained_requireDouble s _ _) _ _ _
  cases ea with
  | reg rs2 asi => exact stateContained_partialStore s _ _
  | imm simm13 => exact rfl

theorem contained_execLdf (rd rs1 : BitVec 5) (op2 : RegOrImm13) (s : State) : Contained s (execLdf rd rs1 op2 s) :=
  contained_complete <| checkContained_bind (checkContained_requireFpuMarking (by simp)) fun _ =>
    checkContained_bind (checkContained_requireAligned s _ 4) fun _ =>
      checkContained_bind (checkContained_loadAt s _ _ 4) fun _ => stateContained_ok (by simp)

theorem contained_execLddf (rd rs1 : BitVec 5) (op2 : RegOrImm13) (s : State) : Contained s (execLddf rd rs1 op2 s) :=
  contained_complete <| checkContained_bind (checkContained_requireFpuMarking (by simp)) fun _ =>
    checkContained_bind (checkContained_requireDouble s _ _) fun _ =>
      checkContained_bind (checkContained_loadAt s _ _ 8) fun _ => stateContained_ok (by simp)

theorem contained_execLdfa (rd rs1 : BitVec 5) (ea : AsiOperand) (s : State) : Contained s (execLdfa rd rs1 ea s) :=
  contained_complete <| checkContained_bind (checkContained_requireFpuMarking (by simp)) fun _ =>
    checkContained_bind (checkContained_requireAsi_aligned s .load _ _ 4 admitsLoad) fun _ =>
      checkContained_bind (checkContained_loadAt s _ _ 4) fun _ => stateContained_ok (by simp)

/-- LDFSR and LDXFSR: a load of which FSR alone takes the value. -/
theorem contained_loadFsr (s : State) (a : DWord) (n : Nat) (f : DWord → Fsr) :
    Contained s (complete do
      requireFpu s
      requireAligned s a n
      let v ← loadAt s (implicitAsi s) a n
      return advance { s with fsr := f v }) :=
  contained_complete <| checkContained_bind (checkContained_requireFpu s) fun _ =>
    checkContained_bind (checkContained_requireAligned s a n) fun _ =>
      checkContained_bind (checkContained_loadAt s _ _ n) fun _ => stateContained_ok rfl

/-- STF, STDF, STFA, STFSR and STXFSR: the FPU-enable check, one check of the address, the store, and an end that changes no
privileged state. -/
theorem contained_storeFp {s : State} {check : Effect Unit} (hc : CheckContained s check) (asi : Byte) (a : DWord) (n : Nat)
    (v : DWord) {finish : State → State} (h : ∀ t, privilegedView (finish t) = privilegedView t) :
    Contained s (complete do
      requireFpu s
      check
      let t ← storeAt s asi a n v
      return advance (finish t)) :=
  contained_complete <| checkContained_bind (checkContained_requireFpu s) fun _ => checkContained_bind hc fun _ =>
    stateContained_bind (stateContained_storeAt s asi a n v) fun t => stateContained_ok (h t)


theorem contained_unimplementedFPop_markFD (s : State) (rd : BitVec 5) : Contained s (unimplementedFPop s (markFD · rd)) :=
  contained_unimplementedFPop s (mark := (markFD · rd)) (by simp)

theorem contained_unimplementedFPop_markFQ (s : State) (rd : BitVec 5) : Contained s (unimplementedFPop s (markFQ · rd)) :=
  contained_unimplementedFPop s (mark := (markFQ · rd)) (by simp)

/-! ### The statement -/

/-- The case split of the statement: each instruction but FLUSH stands under the shared operation its meaning is, or under the
checks its meaning makes before one. TA always traps and TN never does. -/
theorem contained_exec {i : Instr} {s : State} (hu : isUser s = true) (hf : ∀ rs1 op2, i ≠ .flush rs1 op2) :
    Contained s (exec i s) := by
  cases i with
  | add | and | or | xor | sub | andn | orn | xnor | addc | subc | mulx | sll | sllx | srl | srlx | sra | srax | sethi | rdy
  | rdccr | rdasi | rdpc | rdfprs => exact contained_writeR s _ _
  | addcc | andcc | orcc | xorcc | subcc | andncc | orncc | xnorcc | addccc | subccc | taddcc | tsubcc =>
    exact contained_writeRC s _ _ _
  | sdivx | udivx | rdtick | rdpic | rdstick => exact contained_ite (contained_trapTo_self s _) (contained_writeR s _ _)
  | udiv | sdiv | udivcc | sdivcc | restore => exact contained_ite (contained_trapTo_self s _) (contained_next (by simp))
  | taddcctv | tsubcctv => exact contained_ite (contained_trapTo_self s _) (contained_writeRC s _ _ _)
  | umul | smul | umulcc | smulcc | mulscc | nop | tn | call | membar | stbar => exact contained_next (by simp)
  | mova | movn | movne | move | movg | movle | movge | movl | movgu | movleu | movcc | movcs | movpos | movneg | movvc | movvs
  | movrz | movrlez | movrlz | movrnz | movrgz | movrgez => exact contained_moveIf s _ _ _
  | movfa | movfn | movfu | movfg | movfug | movfl | movful | movflg | movfne | movfe | movfue | movfge | movfuge | movfle
  | movfule | movfo => exact contained_moveIfFcc s _ _ _ _
  | ba | bn | bne | be | bg | ble | bge | bl | bgu | bleu | bcc | bcs | bpos | bneg | bvc | bvs | bpa | bpn | bpne | bpe | bpg
  | bple | bpge | bpl | bpgu | bpleu | bpcc | bpcs | bppos | bpneg | bpvc | bpvs => exact contained_branchIcc s _ _ _ _
  | brz | brlez | brlz | brnz | brgz | brgez => exact contained_branchReg s _ _ _ _
  | fba | fbn | fbu | fbg | fbug | fbl | fbul | fblg | fbne | fbe | fbue | fbge | fbuge | fble | fbule | fbo | fbpa | fbpn | fbpu
  | fbpg | fbpug | fbpl | fbpul | fbplg | fbpne | fbpe | fbpue | fbpge | fbpuge | fbple | fbpule | fbpo =>
    exact contained_branchFcc s _ _ _ _
  | jmpl => exact contained_ite (contained_next (by simp)) (contained_trapTo rfl)
  | return_ =>
    exact contained_ite (contained_trapTo_self s _) (contained_ite (contained_next (by simp)) (contained_trapTo rfl))
  | tne | te | tg | tle | tge | tl | tgu | tleu | tcc | tcs | tpos | tneg | tvc | tvs => exact contained_trapIf s _ _ _ _
  | done | retry | saved | restored => exact contained_ite_of hu (contained_trapTo_self s _)
  | ta | popc | illtrap | ldqf | ldqfa | stqf | stqfa | allclean | otherw | normalw | invalw | shutdown | impdep1 | impdep2a
  | impdep2b | fexpand | fmul8x16 | fmul8x16au | fmul8x16al | fmul8sux16 | fmul8ulx16 | fmuld8sux16 | fmuld8ulx16 | fpack16
  | fpack32 | fpackfix | fpmerge | pdist => exact contained_trapTo_self s _
  | ldsb | ldsh | ldsw | ldub | lduh | lduw | ldx => exact contained_loadR s _ _ _ _ _
  | ldsba | ldsha | ldswa | lduba | lduha | lduwa => exact contained_loadAlternateR s _ _ _ _ _
  | ldxa => exact contained_execLdxa _ _ _ s
  | ldtw => exact contained_execLdtw _ _ _ s
  | ldtwa => exact contained_execLdtwa _ _ _ s
  | ldtxa => exact contained_execLdtxa _ _ _ _ s
  | stb | sth | stw | stx => exact contained_storeR s _ _ _ _
  | stba | stha | stwa => exact contained_storeAlternateR s _ _ _ _
  | stxa => exact contained_execStxa hu _ _ _
  | sttw => exact contained_execSttw _ _ _ s
  | sttwa => exact contained_execSttwa _ _ _ s
  | ldstub | swap => exact contained_atomicR s _ _ _ _ _
  | ldstuba | swapa | casa | casxa => exact contained_atomicAlternateR s _ _ _ _ _
  | prefetch | prefetcha => exact contained_prefetchHint s _
  | flush => exact absurd rfl (hf _ _)
  | ldf => exact contained_execLdf _ _ _ s
  | lddf => exact contained_execLddf _ _ _ s
  | ldfa => exact contained_execLdfa _ _ _ s
  | ldfsr => exact contained_loadFsr s _ 4 fun v => fsrLoadLow s.fsr (v.extractLsb' 0 32)
  | ldxfsr => exact contained_loadFsr s _ 8 (fsrLoad s.fsr)
  | lddfa => exact contained_complete_advance (stateContained_loadDoubleFrom s _ _ _)
  | ldblockf => exact contained_complete_advance (stateContained_runBlockLoad s _ _ _)
  | ldshortf => exact contained_complete (stateContained_shortLoad s _ _ _)
  | stf => exact contained_storeFp (finish := id) (checkContained_requireAligned s _ 4) _ _ 4 _ fun _ => rfl
  | stdf => exact contained_storeFp (finish := id) (checkContained_requireDouble s _ _) _ _ 8 _ fun _ => rfl
  | stfa =>
    exact contained_storeFp (finish := id) (checkContained_requireAsi_aligned s .store _ _ 4 admitsStore) _ _ 4 _ fun _ => rfl
  | stfsr => exact contained_storeFp (checkContained_requireAligned s _ 4) _ _ 4 _ privilegedView_clearFtt
  | stxfsr => exact contained_storeFp (checkContained_requireAligned s _ 8) _ _ 8 _ privilegedView_clearFtt
  | stdfa => exact contained_complete_advance (stateContained_storeDoubleTo hu _ _ _)
  | stblockf => exact contained_complete_advance (stateContained_runBlockStore s _ _ _)
  | stshortf => exact contained_complete (stateContained_shortStore s _ _)
  | stpartialf => exact contained_complete (stateContained_partialStore s _ _)
  | save =>
    exact contained_ite (contained_trapTo_self s _) (contained_ite (contained_trapTo_self s _) (contained_next (by simp)))
  | flushw | wrgsr => exact contained_ite (contained_next rfl) (contained_trapTo_self s _)
  | rdgsr => exact contained_ite (contained_writeR s _ _) (contained_trapTo_self s _)
  | rdpcr | rdsoftint | rdtick_cmpr | rdstick_cmpr => exact contained_readPrivileged hu _ _
  | wry | wrccr | wrasi | wrfprs => exact contained_next rfl
  | wrpic => exact contained_ite (contained_trapTo_self s _) (contained_next rfl)
  | wrpcr | wrsoftint_set | wrsoftint_clr | wrsoftint | wrtick_cmpr | wrstick_cmpr => exact contained_writePrivileged hu _
  | wrstick | sir => exact contained_hyperOnly hu
  | rdpr | wrpr => exact contained_ite (contained_trapTo_self s _) (contained_ite_of hu (contained_trapTo_self s _))
  | rdhpr | wrhpr => exact contained_ite_of (by simp [not_isHyper_of_isUser hu]) (contained_trapTo_self s _)
  | fadds | fsubs | fmuls | fdivs | fdtos => exact contained_arithIntoS s _ _ _ _ _
  | faddd | fsubd | fmuld | fdivd | fsmuld | fstod => exact contained_arithIntoD s _ _ _ _ _
  | fcmps | fcmpd | fcmpes | fcmped => exact contained_compareFp s _ _ _
  | fitos | fxtos | fstoi | fdtoi => exact contained_fpIntoS s _ _
  | fitod | fxtod | fstox | fdtox => exact contained_fpIntoD s _ _
  | fsqrts | fqtoi | fqtos => exact contained_unimplementedFPop s (privilegedView_markFS s)
  | fsqrtd | fqtox | fqtod => exact contained_unimplementedFPop_markFD s _
  | fcmpq | fcmpeq => exact contained_unimplementedFPop s rfl
  | faddq | fsubq | fmulq | fdivq | fdmulq | fsqrtq | fitoq | fxtoq | fstoq | fdtoq | fmovq | fnegq | fabsq | fmovqicc | fmovqxcc
  | fmovqfcc | fmovrqz | fmovrqlez | fmovrqlz | fmovrqnz | fmovrqgz | fmovrqgez => exact contained_unimplementedFPop_markFQ s _
  | fmovs | fnegs | fabss | fmovsicc | fmovsxcc | fmovsfcc | fmovrsz | fmovrslez | fmovrslz | fmovrsnz | fmovrsgz | fmovrsgez =>
    exact contained_moveFS s _ _ _
  | fmovd | fnegd | fabsd | fmovdicc | fmovdxcc | fmovdfcc | fmovrdz | fmovrdlez | fmovrdlz | fmovrdnz | fmovrdgz | fmovrdgez =>
    exact contained_moveFD s _ _ _
  | siam => exact contained_visInto rfl
  | alignaddress | alignaddress_little | bmask | fcmple16 | fcmpne16 | fcmple32 | fcmpne32 | fcmpgt16 | fcmpeq16 | fcmpgt32
  | fcmpeq32 => exact contained_visInto (by simp)
  | fpadd16s | fpadd32s | fpsub16s | fpsub32s | fzeros | fones | fsrc1s | fsrc2s | fnot1s | fnot2s | fors | fnors | fands | fnands
  | fxors | fxnors | fornot1s | fornot2s | fandnot1s | fandnot2s => exact contained_visIntoS s _ _
  | faligndata | bshuffle | fpadd16 | fpadd32 | fpsub16 | fpsub32 | fzero | fone | fsrc1 | fsrc2 | fnot1 | fnot2 | for_ | fnor
  | fand | fnand | fxor | fxnor | fornot1 | fornot2 | fandnot1 | fandnot2 => exact contained_visIntoD s _ _
  | edge8n | edge8ln | edge16n | edge16ln | edge32n | edge32ln => exact contained_edgeN s _ _ _ _ _ _
  | edge8cc | edge8lcc | edge16cc | edge16lcc | edge32cc | edge32lcc => exact contained_edgeCC s _ _ _ _ _ _
  | array8 | array16 | array32 => exact contained_arrayInto s _ _ _ _

/-- FLUSH completes the parking of its own strand and changes nothing else (rule R1408). -/
theorem parkingCompleted_parkComplete (s : State) : ParkingCompleted s (parkComplete s) := by
  obtain ⟨hstatus, hbits⟩ := parkOwn_spec s.chip s.cmt
  exact ⟨congrArg (fun c : Cmt => { s with cmt := c }) hstatus, hbits⟩

/-- Settles O18: FLUSH parks the strand at most; the outcome of every other instruction is contained. -/
theorem userModeCannotChangePrivilegedState : Obligations.UserModeCannotChangePrivilegedState := by
  intro i s t hu ht
  by_cases hf : ∃ rs1 op2, i = .flush rs1 op2
  · obtain ⟨rs1, op2, rfl⟩ := hf
    cases ht
    exact .inr (.inl ⟨_, rs1, op2, rfl, parkingCompleted_parkComplete s, rfl⟩)
  · push Not at hf
    rcases contained_exec hu hf t ht with hview | ⟨u, e, htrap, hview⟩
    · exact .inl ((privilegedView_eq_iff s t).mp hview)
    · exact .inr (.inr ⟨u, e, htrap, (faultFreeView_eq_iff s u).mp hview⟩)

end Sys2Proof.Machine

/-! PROOFS. Every step and every move of the environment but a power-on reset keeps the machine's invariant (O10). What the invariant
reads is one value, the `footprint` of a state: most operations leave it alone or move the program counters only. The others are the
stores, the traps and returns, a write of TL and the register ASIs, each with a lemma of its own. -/

namespace Sys2Proof.Machine

/-! ### The invariant on one machine -/

/-- What the invariant reads of a state. -/
def footprint (s : State) :
    Memory × PaWidth × Chip × (DWord × DWord) × BitVec 3 × Bank 64 3 × Cmt × List TlbEntry × List TlbEntry :=
  (s.memory, s.paWidth, s.chip, (s.pc, s.npc), s.tl, s.queues, s.cmt, s.mmu.itlb, s.mmu.dtlb)

/-- A good state of the machine whose physical addresses have width `w` and whose strands are `c`. -/
structure GoodOn (w : PaWidth) (c : Chip) (s : State) : Prop where
  inv : s.Inv
  width : s.paWidth = w
  chip : s.chip = c

theorem goodOn_self {s : State} (h : s.Inv) : GoodOn s.paWidth s.chip s := ⟨h, rfl, rfl⟩

section
variable {w : PaWidth} {c : Chip} {s t : State}

theorem GoodOn.of_footprint (h : GoodOn w c s) (hf : footprint t = footprint s) : GoodOn w c t := by
  simp only [footprint, Prod.mk.injEq] at hf
  obtain ⟨hm, hw, hh, hp, ht, hq, hc, hi, hd⟩ := hf
  exact ⟨inv_congr h.inv hm hw hh hp ht hq hc hi hd, hw.trans h.width, hh.trans h.chip⟩

theorem GoodOn.trapped (h : GoodOn w c s) (e : Trap) : GoodOn w c (takeTrap s e) := by
  obtain ⟨-, hw, hh, -⟩ := takeTrap_other s e
  exact ⟨inv_takeTrap h.inv e, hw.trans h.width, hh.trans h.chip⟩

theorem GoodOn.jumped (h : GoodOn w c s) {pc npc : DWord} (hp : pc.extractLsb' 0 2 = 0) (hn : npc.extractLsb' 0 2 = 0) (d : Bool) :
    GoodOn w c (jump s pc npc d) :=
  ⟨{ h.inv with pcs := ⟨hp, hn⟩ }, h.width, h.chip⟩

theorem GoodOn.advanced (h : GoodOn w c s) : GoodOn w c (advance s) :=
  h.jumped h.inv.pcs.2 (low_two_add_four h.inv.pcs.2) false

theorem GoodOn.transferred (h : GoodOn w c s) {ea : DWord} (he : ea.extractLsb' 0 2 = 0) : GoodOn w c (delayedTransfer s ea) :=
  h.jumped h.inv.pcs.2 he true

theorem GoodOn.withTl (h : GoodOn w c s) {tl : BitVec 3} (ht : tl.toNat ≤ 6) : GoodOn w c { s with tl := tl } :=
  ⟨{ h.inv with tl := ht }, h.width, h.chip⟩

theorem GoodOn.withMmu (h : GoodOn w c s) {m : Mmu} (hm : TlbConsistent m.itlb ∧ TlbConsistent m.dtlb) :
    GoodOn w c { s with mmu := m } :=
  ⟨{ h.inv with tlbs := hm }, h.width, h.chip⟩

theorem goodOn_ite {p : Prop} [Decidable p] {a b : State} (ha : GoodOn w c a) (hb : GoodOn w c b) :
    GoodOn w c (if p then a else b) := by
  split <;> assumption

/-- A store to a physical address keeps memory canonical. -/
theorem GoodOn.stored (h : GoodOn w c s) (pa : DWord) (n : Nat) (little : Bool) (v : DWord) :
    GoodOn w c (writePhys s pa n little v) :=
  ⟨{ h.inv with memory := wf_writeMem h.inv.memory pa n little v }, h.width, h.chip⟩

end

/-! ### What leaves the footprint as it is -/

theorem footprint_setPair (s : State) (rd : BitVec 5) (v : DWord × DWord) : footprint (setPair s rd v) = footprint s := by
  simp [footprint, setPair]

theorem footprint_startStep (s : State) : footprint (startStep s) = footprint s := by
  simp only [footprint, startStep, freshStep, drawn, advanceStick, advanceTick]

theorem footprint_parkedStep (s : State) : footprint (parkedStep s) = footprint s := by
  unfold parkedStep
  split <;> simp only [footprint, freshStep, drawn, advanceStick, advanceTick]

theorem footprint_pastError (s : State) : footprint (pastError s) = footprint s := rfl

theorem footprint_xirAccepted (s : State) : footprint (xirAccepted s) = footprint s := rfl

/-! ### Queue registers (rule R1355) -/

theorem low_six_masked (v : DWord) : (v &&& queueRegMask).extractLsb' 0 6 = 0 := by
  rw [BitVec.extractLsb'_and, queueRegMask, BitVec.extractLsb'_append_eq_of_add_le (by decide)]
  simp

theorem low_six_bankWrite {b : Bank 64 3} (hb : ∀ k, (bankRead b k).extractLsb' 0 6 = 0) {v : DWord}
    (hv : v.extractLsb' 0 6 = 0) (q k : BitVec 3) : (bankRead (bankWrite b q v) k).extractLsb' 0 6 = 0 := by
  rw [bankRead_bankWrite]
  split
  · exact hv
  · exact hb k

theorem GoodOn.withQueues {w : PaWidth} {c : Chip} {s : State} (h : GoodOn w c s) {b : Bank 64 3}
    (hb : ∀ k, (bankRead b k).extractLsb' 0 6 = 0) : GoodOn w c { s with queues := b } :=
  ⟨{ h.inv with queues := hb }, h.width, h.chip⟩

/-! ### CMT registers (rules R1405 to R1409) -/

/-- What the invariant says of the CMT registers of a chip. -/
structure CmtInv (h : Chip) (c : Cmt) : Prop where
  status : c.runningStatus = c.running
  enabled : c.running &&& ~~~c.enableStatus = 0
  running : c.running ≠ 0
  available : c.enableStatus &&& ~~~h.available = 0
  asked : c.enable &&& ~~~h.available = 0

theorem GoodOn.cmtInv {w : PaWidth} {c : Chip} {s : State} (h : GoodOn w c s) : CmtInv s.chip s.cmt := by
  obtain ⟨hstatus, henabled, hrunning⟩ := h.inv.cmt
  obtain ⟨havailable, hasked⟩ := h.inv.available
  exact ⟨hstatus, henabled, hrunning, havailable, hasked⟩

theorem GoodOn.withCmt {w : PaWidth} {c : Chip} {s : State} (h : GoodOn w c s) {k : Cmt} (hk : CmtInv s.chip k) :
    GoodOn w c { s with cmt := k } :=
  ⟨{ h.inv with cmt := ⟨hk.status, hk.enabled, hk.running⟩, available := ⟨hk.available, hk.asked⟩ }, h.width, h.chip⟩

theorem and_and_not_self (a b : DWord) : (a &&& b) &&& ~~~b = 0 := by
  rw [BitVec.and_assoc, BitVec.and_not_self]
  exact BitVec.and_zero

/-- STRAND_ENABLE never names a strand that is not available (rule R1406). -/
theorem enableAfter_available (h : Chip) (v : DWord) : enableAfter h v &&& ~~~h.available = 0 := by
  unfold enableAfter
  split
  · split
    · exact (enableZeroValue_spec h).1
    · exact BitVec.zero_and
  · exact and_and_not_self v h.available

/-- A store to STRAND_RUNNING leaves enabled strands running, one at least (rules R1408, R1409). -/
theorem CmtInv.setRunning {h : Chip} {c : Cmt} (hc : CmtInv h c) (new : DWord) : CmtInv h (setRunning c new) := by
  unfold Machine.setRunning
  split
  · exact hc
  · exact ⟨statusAfter_eq c _, and_and_not_self new c.enableStatus, by assumption, hc.available, hc.asked⟩

/-- The registers a store can reach: STRAND_ENABLE, XIR_STEERING, STRAND_RUNNING in its three forms, and STRAND_INTR_ID. -/
theorem CmtInv.cmtWrite {h : Chip} {c d : Cmt} (hc : CmtInv h c) {asi : Byte} {va v : DWord}
    (hd : cmtWrite h c asi va v = some d) : CmtInv h d := by
  unfold Machine.cmtWrite at hd
  simp only [cmtWriteIgnored_eq, Bool.false_eq_true, if_false] at hd
  split_ifs at hd <;> cases hd
  · exact { hc with asked := enableAfter_available h v }
  · exact { hc with }
  · exact hc.setRunning _
  · exact hc.setRunning _
  · exact hc.setRunning _
  · exact { hc with }

/-- A strand that STRAND_RUNNING has parked has stopped already: SKID_MAX is 0 (rule R1409). -/
theorem CmtInv.parkOwn_eq {h : Chip} {c : Cmt} (hc : CmtInv h c) : parkOwn h c = c := by
  obtain ⟨heq, hbits⟩ := parkOwn_spec h c
  rw [heq]
  congr 1
  refine BitVec.eq_of_getLsbD_eq fun n _ => ?_
  rw [hbits, hc.status]
  cases c.running.getLsbD n <;> simp

theorem CmtInv.afterWarmReset {h : Chip} {c : Cmt} (hc : CmtInv h c) (he : c.enable ≠ 0) : CmtInv h (Cmt.afterWarmReset h c) :=
  ⟨rfl, lowestBit_available c.enable, lowestBit_ne_zero he, hc.asked, hc.asked⟩

theorem GoodOn.parked {w : PaWidth} {c : Chip} {s : State} (h : GoodOn w c s) : GoodOn w c (parkComplete s) :=
  h.withCmt (by rw [h.cmtInv.parkOwn_eq]; exact h.cmtInv)

/-! ### TL (rule R936) -/

theorem writtenTl_le (s : State) (v : DWord) : (writtenTl s v).toNat ≤ 6 := by
  unfold writtenTl
  generalize v.extractLsb' 0 3 = x
  generalize isHyper s = b
  revert b x
  decide

/-! ### Multiples of 4 -/

theorem low_two_add {a b : DWord} (ha : a.extractLsb' 0 2 = 0) (hb : b.extractLsb' 0 2 = 0) : (a + b).extractLsb' 0 2 = 0 := by
  have h1 := congrArg BitVec.toNat ha
  have h2 := congrArg BitVec.toNat hb
  apply BitVec.eq_of_toNat_eq
  simp [BitVec.extractLsb'_toNat] at h1 h2 ⊢
  omega

theorem low_two_shifted (a : DWord) : (a <<< 2).extractLsb' 0 2 = 0 := by
  apply BitVec.eq_of_toNat_eq
  simp [BitVec.extractLsb'_toNat]
  omega

theorem low_two_addressOfHigh62 (a : BitVec 62) : (addressOfHigh62 a).extractLsb' 0 2 = 0 := by
  rw [addressOfHigh62, BitVec.extractLsb'_append_eq_of_add_le (by decide)]; rfl

theorem wordAligned_iff (a : DWord) : wordAligned a = true ↔ a.extractLsb' 0 2 = 0 := beq_iff_eq

theorem low_two_branchTarget {s : State} (h : s.Inv) {n : Nat} (disp : BitVec n) : (branchTarget s disp).extractLsb' 0 2 = 0 :=
  low_two_add h.pcs.1 (low_two_shifted _)

/-! ### Outcomes -/

/-- Where an instruction has a next state, it is a good one. -/
def RunGood (w : PaWidth) (c : Chip) (r : Run) : Prop := ∀ t, r = .next t → GoodOn w c t

section
variable {w : PaWidth} {c : Chip} {s t : State}

theorem runGood_next (h : GoodOn w c t) : RunGood w c (.next t) := by
  rintro _ ⟨⟩
  exact h

theorem runGood_trapTo (h : GoodOn w c s) (e : Trap) : RunGood w c (trapTo s e) := runGood_next (h.trapped e)

theorem runGood_ite {p : Prop} [Decidable p] {a b : Run} (ha : RunGood w c a) (hb : RunGood w c b) :
    RunGood w c (if p then a else b) := by
  split <;> assumption

/-- A check that traps in the state as it is, before everything else. -/
theorem runGood_trapOr {p : Prop} [Decidable p] {e : Trap} {r : Run} (h : GoodOn w c s) (hr : RunGood w c r) :
    RunGood w c (if p then trapTo s e else r) :=
  runGood_ite (runGood_trapTo h e) hr

/-- The common end of an instruction: registers the invariant does not read are written, and the next instruction follows. -/
theorem runGood_advance (h : GoodOn w c s) (hf : footprint t = footprint s) : RunGood w c (.next (advance t)) :=
  runGood_next (h.of_footprint hf).advanced

/-- A trap taken with registers changed that the invariant does not read. -/
theorem runGood_trapFrom {e : Trap} (h : GoodOn w c s) (hf : footprint t = footprint s) : RunGood w c (trapTo t e) :=
  runGood_trapTo (h.of_footprint hf) e

end

section
variable {w : PaWidth} {c : Chip} {s : State} (h : GoodOn w c s)
include h

/-! ### Integer and register-access operations -/

theorem runGood_writeR (rd : BitVec 5) (v : DWord) : RunGood w c (writeR s rd v) := runGood_advance h (by simp [footprint])

theorem runGood_writeRC (rd : BitVec 5) (v : DWord) (cc : Ccr) : RunGood w c (writeRC s rd v cc) :=
  runGood_advance h (by simp [footprint])

theorem runGood_moveIf (rd : BitVec 5) (b : Bool) (v : DWord) : RunGood w c (moveIf s rd b v) :=
  runGood_advance h (by cases b <;> simp [footprint])

theorem runGood_moveIfFcc (rd : BitVec 5) (cond : BitVec 4) (cc : BitVec 2) (v : DWord) :
    RunGood w c (moveIfFcc s rd cond cc v) :=
  runGood_ite (runGood_moveIf h rd _ v) (runGood_trapTo h _)

theorem runGood_writeRY (rd : BitVec 5) (v : DWord) : RunGood w c (.next (advance (writeRY s rd v))) :=
  runGood_advance h (by simp [footprint, writeRY])

theorem runGood_writeRYC (rd : BitVec 5) (v : DWord) (cc : Ccr) : RunGood w c (.next (advance (setCcr (writeRY s rd v) cc))) :=
  runGood_advance h (by simp [footprint, writeRY])

theorem runGood_writeRFreeY (rd : BitVec 5) (v : DWord) : RunGood w c (.next (advance (writeRFreeY s rd v))) :=
  runGood_advance h (by simp [footprint, writeRFreeY])

theorem runGood_writeRFreeYC (rd : BitVec 5) (v : DWord) (cc : Ccr) :
    RunGood w c (.next (advance (setCcr (writeRFreeY s rd v) cc))) :=
  runGood_advance h (by simp [footprint, writeRFreeY])

theorem runGood_readPrivileged (rd : BitVec 5) (v : DWord) : RunGood w c (readPrivileged s rd v) :=
  runGood_trapOr h (runGood_writeR h rd v)

theorem runGood_writePrivileged {t : State} (hf : footprint t = footprint s) : RunGood w c (writePrivileged s t) :=
  runGood_trapOr h (runGood_advance h hf)

theorem runGood_prefetchHint (fcn : BitVec 5) : RunGood w c (prefetchHint s fcn) :=
  runGood_trapOr h (runGood_next h.advanced)

/-! ### Control transfer -/

theorem GoodOn.branched {ea : DWord} (he : ea.extractLsb' 0 2 = 0) (taken uncond : Bool) (a : BitVec 1) :
    GoodOn w c (branch s taken uncond a ea) := by
  have hn := h.inv.pcs.2
  exact goodOn_ite (h.transferred he) <| goodOn_ite (h.jumped he (low_two_add_four he) false) <|
    goodOn_ite (h.jumped (low_two_add_four hn) (low_two_add hn rfl) false) (h.jumped hn (low_two_add_four hn) _)

theorem runGood_branchIcc {n : Nat} (cond : BitVec 4) (cc : CC) (a : BitVec 1) (disp : BitVec n) :
    RunGood w c (branchIcc s cond cc a disp) :=
  runGood_next (h.branched (low_two_branchTarget h.inv disp) _ _ a)

theorem runGood_branchReg (rcond : BitVec 3) (a : BitVec 1) (rs1 : BitVec 5) (disp : BitVec 16) :
    RunGood w c (branchReg s rcond a rs1 disp) :=
  runGood_next (h.branched (low_two_branchTarget h.inv disp) _ _ a)

theorem runGood_branchFcc {n : Nat} (cond : BitVec 4) (cc : BitVec 2) (a : BitVec 1) (disp : BitVec n) :
    RunGood w c (branchFcc s cond cc a disp) :=
  runGood_ite (runGood_next (h.branched (low_two_branchTarget h.inv disp) _ _ a)) (runGood_trapTo h _)

/-- CALL, JMPL and RETURN: a transfer to a multiple of 4 after registers the invariant does not read are written. -/
theorem runGood_transfer {t : State} (hf : footprint t = footprint s) {ea : DWord} (he : ea.extractLsb' 0 2 = 0) :
    RunGood w c (.next (delayedTransfer t ea)) :=
  runGood_next ((h.of_footprint hf).transferred he)

theorem runGood_execCall (disp : BitVec 30) : RunGood w c (execCall disp s) :=
  runGood_transfer h (by simp [footprint]) (low_two_branchTarget h.inv disp)

/-- JMPL and RETURN check the address they go to. -/
theorem runGood_checkedTransfer {t : State} (hf : footprint t = footprint s) {ea : DWord} :
    RunGood w c (if wordAligned ea then .next (delayedTransfer t ea) else trapTo (noteTarget s ea) .memAddressNotAligned) := by
  split
  · exact runGood_transfer h hf ((wordAligned_iff ea).mp (by assumption))
  · exact runGood_trapFrom h rfl

theorem runGood_trapIf (cond : BitVec 4) (cc : CC) (rs1 : BitVec 5) (op2 : TrapOperand) :
    RunGood w c (trapIf s cond cc rs1 op2) :=
  runGood_trapOr h (runGood_next h.advanced)

theorem GoodOn.returned (hl : s.tl ≠ 0) {pc npc : DWord} (hp : pc.extractLsb' 0 2 = 0) (hn : npc.extractLsb' 0 2 = 0)
    (slot : Bool) : GoodOn w c (trapReturn s pc npc slot) := by
  have htl : (s.tl - 1).toNat ≤ 6 := by
    have := h.inv.tl
    bv_omega
  exact ⟨{ h.inv with pcs := ⟨hp, hn⟩, tl := htl }, h.width, h.chip⟩

/-- DONE and RETRY return to multiples of 4, which is all that TPC and TNPC hold (rule R161). -/
theorem runGood_returnFromTrap {place : TrapFrame → DWord × DWord × Bool}
    (hp : ∀ f, (place f).1.extractLsb' 0 2 = 0 ∧ (place f).2.1.extractLsb' 0 2 = 0) : RunGood w c (returnFromTrap s place) := by
  unfold returnFromTrap
  split
  · exact runGood_trapTo h _
  split
  · exact runGood_trapTo h _
  split
  · rintro _ ⟨⟩
  · exact runGood_next (h.returned (by assumption) (hp _).1 (hp _).2 _)

theorem runGood_execDone : RunGood w c (execDone s) := by
  refine runGood_returnFromTrap h ?_
  exact fun f => ⟨low_two_addressOfHigh62 f.tnpc, low_two_add_four (low_two_addressOfHigh62 f.tnpc)⟩

theorem runGood_execRetry : RunGood w c (execRetry s) := by
  refine runGood_returnFromTrap h ?_
  exact fun f => ⟨low_two_addressOfHigh62 f.tpc, low_two_addressOfHigh62 f.tnpc⟩

/-! ### Floating-point and VIS operations -/

theorem runGood_finishFp (e : IeeeFlags) {write : State → State} (hw : ∀ t, footprint (write t) = footprint t) :
    RunGood w c (finishFp s e write) := by
  unfold finishFp
  split
  · exact runGood_trapFrom h rfl
  · exact runGood_advance h (hw _)

theorem runGood_unimplementedFPop {mark : State → State} (hm : footprint (mark s) = footprint s) :
    RunGood w c (unimplementedFPop s mark) :=
  runGood_ite (runGood_trapFrom h rfl) (runGood_trapFrom h hm)

theorem runGood_unimplementedFPop_markFD (rd : BitVec 5) : RunGood w c (unimplementedFPop s (markFD · rd)) :=
  runGood_unimplementedFPop h (mark := (markFD · rd)) (by simp [footprint])

theorem runGood_unlessUnfinished {opf : BitVec 9} {a b : DWord} {run : Run} (hr : RunGood w c run) :
    RunGood w c (unlessUnfinished s opf a b run) :=
  runGood_ite (runGood_trapFrom h rfl) hr

/-- An instruction that reads or writes F registers, by the FPU-enable check first: fp_disabled marks a single destination. -/
theorem runGood_fpuS {run : Run} (hr : RunGood w c run) : RunGood w c (if fpuEnabled s then run else trapTo (markFS s) .fpDisabled) :=
  runGood_ite hr (runGood_trapFrom h rfl)

/-- As `runGood_fpuS` for a double destination. -/
theorem runGood_fpuD (rd : BitVec 5) {run : Run} (hr : RunGood w c run) :
    RunGood w c (if fpuEnabled s then run else trapTo (markFD s rd) .fpDisabled) :=
  runGood_ite hr (runGood_trapFrom h (by simp [footprint]))

theorem runGood_fpIntoS (rd : BitVec 5) (r : FpResult) : RunGood w c (fpIntoS s rd r) :=
  runGood_fpuS h (runGood_finishFp h _ fun _ => rfl)

theorem runGood_fpIntoD (rd : BitVec 5) (r : FpResult) : RunGood w c (fpIntoD s rd r) :=
  runGood_fpuD h rd (runGood_finishFp h _ (by simp [footprint]))

theorem runGood_arithIntoS (rd : BitVec 5) (opf : BitVec 9) (a b : DWord) (r : FpResult) :
    RunGood w c (arithIntoS s rd opf a b r) :=
  runGood_fpuS h (runGood_unlessUnfinished h (runGood_fpIntoS h rd r))

theorem runGood_arithIntoD (rd : BitVec 5) (opf : BitVec 9) (a b : DWord) (r : FpResult) :
    RunGood w c (arithIntoD s rd opf a b r) :=
  runGood_fpuD h rd (runGood_unlessUnfinished h (runGood_fpIntoD h rd r))

theorem runGood_compareFp (cc relation : BitVec 2) (nv : Bool) : RunGood w c (compareFp s cc relation nv) :=
  runGood_ite (runGood_finishFp h _ fun _ => rfl) (runGood_trapTo h _)

theorem runGood_moveFS (b : Bool) (rd : BitVec 5) (v : Word) : RunGood w c (moveFS s b rd v) :=
  runGood_fpuS h (runGood_advance h (by cases b <;> rfl))

theorem runGood_moveFD (b : Bool) (rd : BitVec 5) (v : DWord) : RunGood w c (moveFD s b rd v) :=
  runGood_fpuD h rd (runGood_advance h (by cases b <;> simp [footprint, clearFpStatus]))

theorem runGood_visInto {t : State} (hf : footprint t = footprint s) : RunGood w c (visInto s t) :=
  runGood_ite (runGood_advance h hf) (runGood_trapTo h _)

theorem runGood_visIntoR (rd : BitVec 5) (v : DWord) : RunGood w c (visInto s (setR s rd v)) :=
  runGood_visInto h (by simp [footprint])

theorem runGood_visIntoRGsr (rd : BitVec 5) (v : DWord) (g : Gsr) : RunGood w c (visInto s (setRGsr s rd v g)) :=
  runGood_visInto h (by simp [footprint, setRGsr])

theorem runGood_visIntoS (rd : BitVec 5) (v : Word) : RunGood w c (visIntoS s rd v) := runGood_fpuS h (runGood_advance h rfl)

theorem runGood_visIntoD (rd : BitVec 5) (v : DWord) : RunGood w c (visIntoD s rd v) :=
  runGood_fpuD h rd (runGood_advance h (by simp [footprint]))

theorem runGood_edgeN (rd : BitVec 5) (n k : Nat) (little : Bool) (a b : DWord) : RunGood w c (edgeN s rd n k little a b) :=
  runGood_ite (runGood_writeR h rd _) (runGood_trapTo h _)

theorem runGood_edgeCC (rd : BitVec 5) (n k : Nat) (little : Bool) (a b : DWord) : RunGood w c (edgeCC s rd n k little a b) :=
  runGood_ite (runGood_writeRC h rd _ _) (runGood_trapTo h _)

theorem runGood_arrayInto (rd : BitVec 5) (x n : DWord) (shift : Nat) : RunGood w c (arrayInto s rd x n shift) :=
  runGood_ite (runGood_writeR h rd _) (runGood_advance h (by simp [footprint]))

/-! ### Privileged and hyperprivileged registers -/

/-- WRPR writes TL, which stays at most MAXTL (rule R936), or a register the invariant does not read. -/
theorem GoodOn.wrotePr (n : BitVec 5) (v : DWord) : GoodOn w c (writePr s n v) := by
  unfold writePr
  iterate 7 refine goodOn_ite (h.of_footprint rfl) ?_
  refine goodOn_ite (h.withTl (writtenTl_le s v)) ?_
  iterate 7 refine goodOn_ite (h.of_footprint rfl) ?_
  exact h.of_footprint rfl

theorem GoodOn.wroteHpr (n : BitVec 5) (v : DWord) : GoodOn w c (writeHpr s n v) := by
  unfold writeHpr
  iterate 4 refine goodOn_ite (h.of_footprint rfl) ?_
  exact h.of_footprint rfl

theorem runGood_execWrpr (rd rs1 : BitVec 5) (op2 : RegOrImm13) : RunGood w c (execWrpr rd rs1 op2 s) :=
  runGood_trapOr h <| runGood_trapOr h <| runGood_trapOr h <|
    runGood_trapOr h <| runGood_next (h.wrotePr rd _).advanced

theorem runGood_execWrhpr (rd rs1 : BitVec 5) (op2 : RegOrImm13) : RunGood w c (execWrhpr rd rs1 op2 s) :=
  runGood_trapOr h <| runGood_trapOr h <| runGood_advance (h.wroteHpr rd _) rfl

end

/-! ### Effects -/

/-- An effect that answers what `P` says, or raises an exception in a good state. -/
def EffectGood {α : Type} (w : PaWidth) (c : Chip) (P : α → Prop) : Effect α → Prop
  | .ok a => P a
  | .error x => GoodOn w c x.state

/-- A check, a translation or a load: of what it answers nothing is said. -/
def CheckGood {α : Type} (w : PaWidth) (c : Chip) (e : Effect α) : Prop := EffectGood w c (fun _ => True) e

/-- An effect whose answer is the state after it. -/
def StateGood (w : PaWidth) (c : Chip) (e : Effect State) : Prop := EffectGood w c (GoodOn w c) e

/-- An effect whose answer is a value and the state after it. -/
def PairGood (w : PaWidth) (c : Chip) (e : Effect (DWord × State)) : Prop := EffectGood w c (fun r => GoodOn w c r.2) e

section
variable {α β : Type} {w : PaWidth} {c : Chip} {P : α → Prop} {Q : β → Prop}

theorem effectGood_bind {e : Effect α} {f : α → Effect β} (he : EffectGood w c P e) (hf : ∀ a, P a → EffectGood w c Q (f a)) :
    EffectGood w c Q (e >>= f) := by
  cases e with
  | ok a => exact hf a he
  | error x => exact he

theorem checkGood_bind {e : Effect α} {f : α → Effect β} (he : CheckGood w c e) (hf : ∀ a, EffectGood w c Q (f a)) :
    EffectGood w c Q (e >>= f) :=
  effectGood_bind he fun a _ => hf a

theorem effectGood_ite {p : Prop} [Decidable p] {a b : Effect α} (ha : EffectGood w c P a) (hb : EffectGood w c P b) :
    EffectGood w c P (if p then a else b) := by
  split <;> assumption

theorem runGood_complete {e : Effect State} (he : StateGood w c e) : RunGood w c (complete e) := by
  cases e with
  | ok t => exact runGood_next he
  | error x => exact runGood_next (GoodOn.trapped he x.trap)

/-- The instruction ends with `advance` after an effect that answers the state. -/
theorem runGood_complete_advance {e : Effect State} (he : StateGood w c e) :
    RunGood w c (complete do let t ← e; return advance t) :=
  runGood_complete (effectGood_bind he fun _ ht => ht.advanced)

/-- The end of an instruction that reads into a register: what was answered goes to R[rd]. -/
theorem stateGood_writeBack {e : Effect (DWord × State)} (he : PairGood w c e) (rd : BitVec 5) :
    StateGood w c (do let r ← e; return advance (setR r.2 rd r.1)) :=
  effectGood_bind he fun _ hr => GoodOn.advanced (hr.of_footprint (by simp [footprint]))

end

section
variable {w : PaWidth} {c : Chip} {s : State} (h : GoodOn w c s)
include h

theorem stateGood_advance {t : State} (hf : footprint t = footprint s) : StateGood w c (pure (advance t)) :=
  (h.of_footprint hf).advanced

/-! ### Checks and translation -/

/-- An effect whose exceptions change the MMU's fault registers alone. -/
theorem checkGood_of_onlyFaultRegisters {α : Type} {e : Effect α} (he : ∀ x, e = .error x → OnlyFaultRegisters s x.state) :
    CheckGood w c e := by
  cases e with
  | ok a => trivial
  | error x =>
    obtain ⟨hs, hi, hd⟩ := he x rfl
    refine h.of_footprint ?_
    rw [footprint, hi, hd, hs]; rfl

theorem checkGood_requireAligned (a : DWord) (n : Nat) : CheckGood w c (requireAligned s a n) :=
  checkGood_of_onlyFaultRegisters h fun _ hx => (requireAligned_error hx).2

theorem checkGood_requireDouble (a : DWord) (e : Trap) : CheckGood w c (requireDouble s a e) :=
  effectGood_ite (h.of_footprint rfl) (effectGood_ite (h.of_footprint rfl) trivial)

theorem checkGood_requirePermitted (asi : Byte) (a : DWord) : CheckGood w c (requirePermitted s asi a) :=
  checkGood_of_onlyFaultRegisters h fun _ hx => (requirePermitted_error hx).2

theorem checkGood_requireFpu : CheckGood w c (requireFpu s) := effectGood_ite trivial h

theorem checkGood_requireFpuMarkingS : CheckGood w c (requireFpuMarking s markFS) := effectGood_ite trivial (h.of_footprint rfl)

theorem checkGood_requireFpuMarkingD (rd : BitVec 5) : CheckGood w c (requireFpuMarking s (markFD · rd)) :=
  effectGood_ite trivial (h.of_footprint (by simp [footprint]))

theorem effectGood_refuseAsi {α : Type} {P : α → Prop} (acc : Access) (asi : Byte) (a : DWord) :
    EffectGood w c P (refuseAsi s acc asi a) := by
  rw [refuseAsi_eq]
  exact h.of_footprint rfl

theorem checkGood_requireAsi {align : Effect Unit} (ha : CheckGood w c align) (acc : Access) (asi : Byte) (a : DWord)
    (admits : AsiClass → Bool) : CheckGood w c (requireAsi s acc asi a align admits) :=
  checkGood_bind (effectGood_ite trivial ha) fun _ =>
    checkGood_bind (checkGood_requirePermitted h asi a) fun _ => effectGood_ite trivial (effectGood_refuseAsi h acc asi a)

theorem checkGood_requireAsi_aligned (acc : Access) (asi : Byte) (a : DWord) (n : Nat) (admits : AsiClass → Bool) :
    CheckGood w c (requireAsi s acc asi a (requireAligned s a n) admits) :=
  checkGood_requireAsi h (checkGood_requireAligned h a n) acc asi a admits

theorem checkGood_translate (acc : Access) (b : Bool) (asi : Byte) (a : DWord) : CheckGood w c (translate s acc b asi a) :=
  checkGood_of_onlyFaultRegisters h fun _ hx => translate_error hx

/-! ### One access -/

theorem checkGood_loadAt (asi : Byte) (a : DWord) (n : Nat) : CheckGood w c (loadAt s asi a n) :=
  checkGood_of_onlyFaultRegisters h fun _ hx => loadAt_error hx

theorem checkGood_loadTwinAt (asi : Byte) (a : DWord) : CheckGood w c (loadTwinAt s asi a) :=
  checkGood_bind (checkGood_translate h _ _ _ _) fun _ => trivial

theorem checkGood_loadPair (asi : Byte) (a : DWord) : CheckGood w c (loadPair s asi a) :=
  checkGood_bind (checkGood_loadAt h asi a 4) fun _ => checkGood_bind (checkGood_loadAt h asi (a + 4) 4) fun _ => trivial

theorem stateGood_storeAt (asi : Byte) (a : DWord) (n : Nat) (v : DWord) : StateGood w c (storeAt s asi a n v) :=
  checkGood_bind (checkGood_translate h _ _ _ _) fun t => h.stored t.pa n t.little v

theorem stateGood_storePair (asi : Byte) (a v0 v1 : DWord) : StateGood w c (storePair s asi a v0 v1) :=
  effectGood_bind (stateGood_storeAt h asi a 4 v0) fun _ hu => stateGood_storeAt hu asi (a + 4) 4 v1

theorem pairGood_atomicAt (asi : Byte) (a : DWord) (n : Nat) (new : DWord → Option DWord) :
    PairGood w c (atomicAt s asi a n new) := by
  refine checkGood_bind (checkGood_translate h _ _ _ _) fun t => ?_
  dsimp only
  split
  · exact h
  · exact h.stored t.pa n t.little _

/-! ### Register ASIs (rules R1354 to R1357, R1382, R1402 to R1412) -/

/-- What an STXA leaves of the TLBs is consistent: the constraints of rule R1382. -/
theorem mmuWrite_consistent {m : Mmu} {asi : Byte} {va v : DWord} (hm : mmuWrite s.mmu asi va v = some m) :
    TlbConsistent m.itlb ∧ TlbConsistent m.dtlb := by
  rcases mmuWrite_some hm with ⟨-, -, rfl⟩ | ⟨-, -, rfl⟩ | ⟨-, -, rfl⟩ | ⟨-, k, -, rfl⟩
  · exact h.inv.tlbs
  · exact h.inv.tlbs
  · exact h.inv.tlbs
  · obtain ⟨hi, hd⟩ := mmuStxa_lawful k
    exact ⟨hi.consistent h.inv.tlbs.1, hd.consistent h.inv.tlbs.2⟩

theorem goodOn_writeAsiRegister {t : State} {asi : Byte} {va v : DWord} (ht : writeAsiRegister s asi va v = some t) :
    GoodOn w c t := by
  unfold writeAsiRegister at ht
  simp only [writeHypScratchpad_eq] at ht
  split_ifs at ht
  · cases ht; exact h.of_footprint rfl
  · cases ht; exact h.of_footprint rfl
  · cases ht; exact h.withQueues (low_six_bankWrite h.inv.queues (low_six_masked v) _)
  · obtain ⟨k, hk, rfl⟩ := Option.map_eq_some_iff.mp ht
    exact h.withCmt (h.cmtInv.cmtWrite hk)
  · obtain ⟨m, hm, rfl⟩ := Option.map_eq_some_iff.mp ht
    exact h.withMmu (mmuWrite_consistent h hm)

theorem pairGood_loadAlternate8 {align : Effect Unit} (ha : CheckGood w c align) (asi : Byte) (a : DWord) :
    PairGood w c (loadAlternate8 s asi a align) := by
  refine effectGood_ite ?_ ?_
  · refine checkGood_bind ha fun _ => checkGood_bind (checkGood_requirePermitted h asi a) fun _ => ?_
    split
    · exact h.of_footprint rfl
    · exact h
  · exact checkGood_bind (checkGood_requireAsi h ha .load asi a admitsLoad) fun _ =>
      checkGood_bind (checkGood_loadAt h asi a 8) fun _ => h

theorem stateGood_storeAlternate8 {align : Effect Unit} (ha : CheckGood w c align) (asi : Byte) (a v : DWord) :
    StateGood w c (storeAlternate8 s asi a v align) := by
  refine effectGood_ite ?_ ?_
  · refine checkGood_bind ha fun _ => checkGood_bind (checkGood_requirePermitted h asi a) fun _ => ?_
    split
    · exact h.of_footprint rfl
    · exact goodOn_writeAsiRegister h (by assumption)
  · exact checkGood_bind (checkGood_requireAsi h ha .store asi a admitsStore) fun _ => stateGood_storeAt h asi a 8 v

/-! ### Whole integer loads and stores -/

theorem runGood_loadR (rd rs1 : BitVec 5) (op2 : RegOrImm13) (n : Nat) (ext : DWord → DWord) :
    RunGood w c (loadR s rd rs1 op2 n ext) :=
  runGood_complete <| checkGood_bind (checkGood_requireAligned h _ n) fun _ =>
    checkGood_bind (checkGood_loadAt h _ _ n) fun _ => stateGood_advance h (by simp [footprint])

theorem runGood_loadAlternateR (rd rs1 : BitVec 5) (ea : AsiOperand) (n : Nat) (ext : DWord → DWord) :
    RunGood w c (loadAlternateR s rd rs1 ea n ext) :=
  runGood_complete <| checkGood_bind (checkGood_requireAsi_aligned h .load _ _ n admitsLoad) fun _ =>
    checkGood_bind (checkGood_loadAt h _ _ n) fun _ => stateGood_advance h (by simp [footprint])

theorem runGood_storeR (rd rs1 : BitVec 5) (op2 : RegOrImm13) (n : Nat) : RunGood w c (storeR s rd rs1 op2 n) :=
  runGood_complete <| checkGood_bind (checkGood_requireAligned h _ n) fun _ =>
    effectGood_bind (stateGood_storeAt h _ _ n _) fun _ ht => ht.advanced

theorem runGood_storeAlternateR (rd rs1 : BitVec 5) (ea : AsiOperand) (n : Nat) : RunGood w c (storeAlternateR s rd rs1 ea n) :=
  runGood_complete <| checkGood_bind (checkGood_requireAsi_aligned h .store _ _ n admitsStore) fun _ =>
    effectGood_bind (stateGood_storeAt h _ _ n _) fun _ ht => ht.advanced

theorem runGood_atomicR (rd rs1 : BitVec 5) (op2 : RegOrImm13) (n : Nat) (new : DWord → Option DWord) :
    RunGood w c (atomicR s rd rs1 op2 n new) :=
  runGood_complete <| checkGood_bind (checkGood_requireAligned h _ n) fun _ =>
    stateGood_writeBack (pairGood_atomicAt h _ _ n new) rd

theorem runGood_atomicAlternateR (rd : BitVec 5) (asi : Byte) (a : DWord) (n : Nat) (new : DWord → Option DWord) :
    RunGood w c (atomicAlternateR s rd asi a n new) :=
  runGood_complete <| checkGood_bind (checkGood_requireAsi_aligned h .atomic asi a n admitsAtomic) fun _ =>
    stateGood_writeBack (pairGood_atomicAt h asi a n new) rd

theorem runGood_execLdxa (rd rs1 : BitVec 5) (ea : AsiOperand) : RunGood w c (execLdxa rd rs1 ea s) :=
  runGood_complete <| stateGood_writeBack (pairGood_loadAlternate8 h (checkGood_requireAligned h _ 8) _ _) rd

theorem runGood_execStxa (rd rs1 : BitVec 5) (ea : AsiOperand) : RunGood w c (execStxa rd rs1 ea s) :=
  runGood_complete_advance (stateGood_storeAlternate8 h (checkGood_requireAligned h _ 8) _ _ _)

theorem runGood_execLdtw (rd rs1 : BitVec 5) (op2 : RegOrImm13) : RunGood w c (execLdtw rd rs1 op2 s) :=
  runGood_trapOr h <| runGood_complete <| checkGood_bind (checkGood_requireAligned h _ 8) fun _ =>
    checkGood_bind (checkGood_loadPair h _ _) fun _ => stateGood_advance h (footprint_setPair s rd _)

theorem runGood_execLdtwa (rd rs1 : BitVec 5) (ea : AsiOperand) : RunGood w c (execLdtwa rd rs1 ea s) :=
  runGood_trapOr h <| runGood_complete <|
    checkGood_bind (checkGood_requireAsi_aligned h .load _ _ 8 admitsLoad) fun _ =>
      checkGood_bind (checkGood_loadPair h _ _) fun _ => stateGood_advance h (footprint_setPair s rd _)

theorem runGood_execLdtxa (rd rs1 rs2 : BitVec 5) (asi : Byte) : RunGood w c (execLdtxa rd rs1 rs2 asi s) :=
  runGood_trapOr h <| runGood_complete <| checkGood_bind (checkGood_requireAligned h _ 16) fun _ =>
    checkGood_bind (checkGood_requirePermitted h _ _) fun _ =>
      checkGood_bind (checkGood_loadTwinAt h _ _) fun _ =>
        checkGood_bind (checkGood_loadTwinAt h _ _) fun _ => stateGood_advance h (footprint_setPair s rd _)

theorem runGood_execSttw (rd rs1 : BitVec 5) (op2 : RegOrImm13) : RunGood w c (execSttw rd rs1 op2 s) :=
  runGood_trapOr h <| runGood_complete <| checkGood_bind (checkGood_requireAligned h _ 8) fun _ =>
    effectGood_bind (stateGood_storePair h _ _ _ _) fun _ ht => ht.advanced

theorem runGood_execSttwa (rd rs1 : BitVec 5) (ea : AsiOperand) : RunGood w c (execSttwa rd rs1 ea s) :=
  runGood_trapOr h <| runGood_complete <|
    checkGood_bind (checkGood_requireAsi_aligned h .store _ _ 8 admitsStore) fun _ =>
      effectGood_bind (stateGood_storePair h _ _ _ _) fun _ ht => ht.advanced

/-! ### Floating-point loads and stores -/

theorem stateGood_blockLoad (asi : Byte) (a : DWord) (d : BitVec 5) (n k : Nat) {t : State} (ht : GoodOn w c t) :
    StateGood w c (blockLoad s asi a d n k t) := by
  induction n generalizing k t with
  | zero => exact ht
  | succ n ih =>
    exact checkGood_bind (checkGood_loadAt h asi _ 8) fun v => ih (k + 1) (ht.of_footprint (by simp [footprint]))

theorem stateGood_blockStore (asi : Byte) (a : DWord) (d : BitVec 5) (n k : Nat) : StateGood w c (blockStore asi a d n k s) := by
  induction n generalizing k s with
  | zero => exact h
  | succ n ih => exact effectGood_bind (stateGood_storeAt h asi _ 8 _) fun _ hu => ih hu (k + 1)

theorem stateGood_runBlockLoad (asi : Byte) (a : DWord) (rd : BitVec 5) : StateGood w c (runBlockLoad s asi a rd) :=
  effectGood_ite h <| checkGood_bind (checkGood_requireFpuMarkingD h rd) fun _ =>
    checkGood_bind (checkGood_requireAligned h a 64) fun _ =>
      checkGood_bind (checkGood_requirePermitted h asi a) fun _ => stateGood_blockLoad h asi a _ 8 0 h

theorem stateGood_runBlockStore (asi : Byte) (a : DWord) (rd : BitVec 5) : StateGood w c (runBlockStore s asi a rd) :=
  effectGood_ite h <| checkGood_bind (checkGood_requireFpu h) fun _ =>
    checkGood_bind (checkGood_requireAligned h a 64) fun _ =>
      checkGood_bind (checkGood_requirePermitted h asi a) fun _ => stateGood_blockStore h asi a _ 8 0

theorem stateGood_shortTransfer (acc : Access) (asi : Byte) (a : DWord) : StateGood w c (shortTransfer s acc asi a) :=
  checkGood_bind (effectGood_ite (checkGood_requireAligned h a 2) trivial) fun _ => effectGood_refuseAsi h acc asi a

theorem stateGood_shortLoad (rd : BitVec 5) (asi : Byte) (a : DWord) : StateGood w c (shortLoad s rd asi a) :=
  checkGood_bind (checkGood_requireFpuMarkingD h rd) fun _ => stateGood_shortTransfer h .load asi a

theorem stateGood_shortStore (asi : Byte) (a : DWord) : StateGood w c (do requireFpu s; shortTransfer s .store asi a) :=
  checkGood_bind (checkGood_requireFpu h) fun _ => stateGood_shortTransfer h .store asi a

theorem stateGood_partialStore (asi : Byte) (a : DWord) : StateGood w c (partialStore s asi a) :=
  checkGood_bind (checkGood_requireFpu h) fun _ =>
    checkGood_bind (checkGood_requireDouble h a _) fun _ => effectGood_refuseAsi h .store asi a

theorem stateGood_loadDoubleFrom (rd : BitVec 5) (asi : Byte) (a : DWord) : StateGood w c (loadDoubleFrom s rd asi a) :=
  effectGood_ite (stateGood_runBlockLoad h asi a rd) <| effectGood_ite (stateGood_shortLoad h rd asi a) <|
    checkGood_bind (checkGood_requireFpuMarkingD h rd) fun _ =>
      effectGood_bind (pairGood_loadAlternate8 h (checkGood_requireDouble h a _) asi a) fun _ hr =>
        GoodOn.of_footprint hr (by simp [footprint])

theorem stateGood_storeDoubleTo (rd rs1 : BitVec 5) (ea : AsiOperand) : StateGood w c (storeDoubleTo s rd rs1 ea) := by
  refine effectGood_ite ?_ <| effectGood_ite (stateGood_runBlockStore h _ _ rd) <|
    effectGood_ite (stateGood_shortStore h _ _) <| checkGood_bind (checkGood_requireFpu h) fun _ =>
      stateGood_storeAlternate8 h (checkGood_requireDouble h _ _) _ _ _
  cases ea with
  | reg rs2 asi => exact stateGood_partialStore h _ _
  | imm simm13 => exact h

theorem runGood_execLdf (rd rs1 : BitVec 5) (op2 : RegOrImm13) : RunGood w c (execLdf rd rs1 op2 s) :=
  runGood_complete <| checkGood_bind (checkGood_requireFpuMarkingS h) fun _ =>
    checkGood_bind (checkGood_requireAligned h _ 4) fun _ =>
      checkGood_bind (checkGood_loadAt h _ _ 4) fun _ => stateGood_advance h rfl

theorem runGood_execLddf (rd rs1 : BitVec 5) (op2 : RegOrImm13) : RunGood w c (execLddf rd rs1 op2 s) :=
  runGood_complete <| checkGood_bind (checkGood_requireFpuMarkingD h rd) fun _ =>
    checkGood_bind (checkGood_requireDouble h _ _) fun _ =>
      checkGood_bind (checkGood_loadAt h _ _ 8) fun _ => stateGood_advance h (by simp [footprint])

theorem runGood_execLdfa (rd rs1 : BitVec 5) (ea : AsiOperand) : RunGood w c (execLdfa rd rs1 ea s) :=
  runGood_complete <| checkGood_bind (checkGood_requireFpuMarkingS h) fun _ =>
    checkGood_bind (checkGood_requireAsi_aligned h .load _ _ 4 admitsLoad) fun _ =>
      checkGood_bind (checkGood_loadAt h _ _ 4) fun _ => stateGood_advance h rfl

/-- LDFSR and LDXFSR: a load of which FSR alone takes the value. -/
theorem runGood_loadFsr (a : DWord) (n : Nat) (f : DWord → Fsr) :
    RunGood w c (complete do
      requireFpu s
      requireAligned s a n
      let v ← loadAt s (implicitAsi s) a n
      return advance { s with fsr := f v }) :=
  runGood_complete <| checkGood_bind (checkGood_requireFpu h) fun _ =>
    checkGood_bind (checkGood_requireAligned h a n) fun _ =>
      checkGood_bind (checkGood_loadAt h _ _ n) fun _ => stateGood_advance h rfl

/-- STF, STDF, STFA, STFSR and STXFSR: the FPU-enable check, one check of the address, the store, and an end that changes nothing
the invariant reads. -/
theorem runGood_storeFp {check : Effect Unit} (hc : CheckGood w c check) (asi : Byte) (a : DWord) (n : Nat) (v : DWord)
    {finish : State → State} (hf : ∀ t, footprint (finish t) = footprint t) :
    RunGood w c (complete do
      requireFpu s
      check
      let t ← storeAt s asi a n v
      return advance (finish t)) :=
  runGood_complete <| checkGood_bind (checkGood_requireFpu h) fun _ => checkGood_bind hc fun _ =>
    effectGood_bind (stateGood_storeAt h asi a n v) fun t ht => stateGood_advance ht (hf t)

/-! ### Every instruction -/

/-- The case split over the instructions: each stands under the shared operation its meaning is, or under the checks its meaning
makes before one. TA always traps and TN never does. -/
theorem runGood_exec (i : Instr) : RunGood w c (exec i s) := by
  cases i with
  | add | and | or | xor | sub | andn | orn | xnor | addc | subc | mulx | sll | sllx | srl | srlx | sra | srax | sethi | rdy
  | rdccr | rdasi | rdpc | rdfprs => exact runGood_writeR h _ _
  | addcc | andcc | orcc | xorcc | subcc | andncc | orncc | xnorcc | addccc | subccc | taddcc | tsubcc =>
    exact runGood_writeRC h _ _ _
  | sdivx | udivx | rdtick | rdpic | rdstick => exact runGood_trapOr h (runGood_writeR h _ _)
  | udiv | sdiv => exact runGood_trapOr h (runGood_writeRFreeY h _ _)
  | udivcc | sdivcc => exact runGood_trapOr h (runGood_writeRFreeYC h _ _ _)
  | taddcctv | tsubcctv => exact runGood_trapOr h (runGood_writeRC h _ _ _)
  | umul | smul => exact runGood_writeRY h _ _
  | umulcc | smulcc => exact runGood_writeRYC h _ _ _
  | mulscc => exact runGood_advance h (by simp [footprint])
  | nop | membar | stbar | tn => exact runGood_next h.advanced
  | mova | movn | movne | move | movg | movle | movge | movl | movgu | movleu | movcc | movcs | movpos | movneg | movvc | movvs
  | movrz | movrlez | movrlz | movrnz | movrgz | movrgez => exact runGood_moveIf h _ _ _
  | movfa | movfn | movfu | movfg | movfug | movfl | movful | movflg | movfne | movfe | movfue | movfge | movfuge | movfle
  | movfule | movfo => exact runGood_moveIfFcc h _ _ _ _
  | ba | bn | bne | be | bg | ble | bge | bl | bgu | bleu | bcc | bcs | bpos | bneg | bvc | bvs | bpa | bpn | bpne | bpe | bpg
  | bple | bpge | bpl | bpgu | bpleu | bpcc | bpcs | bppos | bpneg | bpvc | bpvs => exact runGood_branchIcc h _ _ _ _
  | brz | brlez | brlz | brnz | brgz | brgez => exact runGood_branchReg h _ _ _ _
  | fba | fbn | fbu | fbg | fbug | fbl | fbul | fblg | fbne | fbe | fbue | fbge | fbuge | fble | fbule | fbo | fbpa | fbpn | fbpu
  | fbpg | fbpug | fbpl | fbpul | fbplg | fbpne | fbpe | fbpue | fbpge | fbpuge | fbple | fbpule | fbpo =>
    exact runGood_branchFcc h _ _ _ _
  | call => exact runGood_execCall h _
  | jmpl => exact runGood_checkedTransfer h (by simp [footprint])
  | return_ => exact runGood_trapOr h (runGood_checkedTransfer h (t := previousWindow s) rfl)
  | tne | te | tg | tle | tge | tl | tgu | tleu | tcc | tcs | tpos | tneg | tvc | tvs => exact runGood_trapIf h _ _ _ _
  | done => exact runGood_execDone h
  | retry => exact runGood_execRetry h
  | ta | popc | illtrap | ldqf | ldqfa | stqf | stqfa | allclean | otherw | normalw | invalw | shutdown | impdep1 | impdep2a
  | impdep2b | fexpand | fmul8x16 | fmul8x16au | fmul8x16al | fmul8sux16 | fmul8ulx16 | fmuld8sux16 | fmuld8ulx16 | fpack16
  | fpack32 | fpackfix | fpmerge | pdist => exact runGood_trapTo h _
  | ldsb | ldsh | ldsw | ldub | lduh | lduw | ldx => exact runGood_loadR h _ _ _ _ _
  | ldsba | ldsha | ldswa | lduba | lduha | lduwa => exact runGood_loadAlternateR h _ _ _ _ _
  | ldxa => exact runGood_execLdxa h _ _ _
  | ldtw => exact runGood_execLdtw h _ _ _
  | ldtwa => exact runGood_execLdtwa h _ _ _
  | ldtxa => exact runGood_execLdtxa h _ _ _ _
  | stb | sth | stw | stx => exact runGood_storeR h _ _ _ _
  | stba | stha | stwa => exact runGood_storeAlternateR h _ _ _ _
  | stxa => exact runGood_execStxa h _ _ _
  | sttw => exact runGood_execSttw h _ _ _
  | sttwa => exact runGood_execSttwa h _ _ _
  | ldstub | swap => exact runGood_atomicR h _ _ _ _ _
  | ldstuba | swapa | casa | casxa => exact runGood_atomicAlternateR h _ _ _ _ _
  | prefetch | prefetcha => exact runGood_prefetchHint h _
  | flush => exact runGood_next h.parked.advanced
  | ldf => exact runGood_execLdf h _ _ _
  | lddf => exact runGood_execLddf h _ _ _
  | ldfa => exact runGood_execLdfa h _ _ _
  | ldfsr => exact runGood_loadFsr h _ 4 fun v => fsrLoadLow s.fsr (v.extractLsb' 0 32)
  | ldxfsr => exact runGood_loadFsr h _ 8 (fsrLoad s.fsr)
  | lddfa => exact runGood_complete_advance (stateGood_loadDoubleFrom h _ _ _)
  | ldblockf => exact runGood_complete_advance (stateGood_runBlockLoad h _ _ _)
  | ldshortf => exact runGood_complete (stateGood_shortLoad h _ _ _)
  | stf => exact runGood_storeFp h (finish := id) (checkGood_requireAligned h _ 4) _ _ 4 _ fun _ => rfl
  | stdf => exact runGood_storeFp h (finish := id) (checkGood_requireDouble h _ _) _ _ 8 _ fun _ => rfl
  | stfa => exact runGood_storeFp h (finish := id) (checkGood_requireAsi_aligned h .store _ _ 4 admitsStore) _ _ 4 _ fun _ => rfl
  | stfsr => exact runGood_storeFp h (finish := clearFtt) (checkGood_requireAligned h _ 4) _ _ 4 _ fun _ => rfl
  | stxfsr => exact runGood_storeFp h (finish := clearFtt) (checkGood_requireAligned h _ 8) _ _ 8 _ fun _ => rfl
  | stdfa => exact runGood_complete_advance (stateGood_storeDoubleTo h _ _ _)
  | stblockf => exact runGood_complete_advance (stateGood_runBlockStore h _ _ _)
  | stshortf => exact runGood_complete (stateGood_shortStore h _ _)
  | stpartialf => exact runGood_complete (stateGood_partialStore h _ _)
  | save =>
    exact runGood_trapOr h <| runGood_trapOr h <|
      runGood_writeR (h.of_footprint (t := nextWindow s) rfl) _ _
  | restore => exact runGood_trapOr h (runGood_writeR (h.of_footprint (t := lastWindow s) rfl) _ _)
  | saved | restored | wrpic => exact runGood_trapOr h (runGood_advance h rfl)
  | flushw | wrgsr | wrstick => exact runGood_ite (runGood_advance h rfl) (runGood_trapTo h _)
  | rdgsr => exact runGood_ite (runGood_writeR h _ _) (runGood_trapTo h _)
  | rdpcr | rdsoftint | rdtick_cmpr | rdstick_cmpr => exact runGood_readPrivileged h _ _
  | wry | wrccr | wrasi | wrfprs => exact runGood_advance h rfl
  | wrpcr | wrsoftint_set | wrsoftint_clr | wrsoftint | wrtick_cmpr | wrstick_cmpr => exact runGood_writePrivileged h rfl
  | sir => exact runGood_trapOr h (runGood_trapTo h _)
  | rdpr =>
    exact runGood_trapOr h <| runGood_trapOr h <| runGood_trapOr h <|
      runGood_writeR h _ _
  | rdhpr => exact runGood_trapOr h (runGood_trapOr h (runGood_writeR h _ _))
  | wrpr => exact runGood_execWrpr h _ _ _
  | wrhpr => exact runGood_execWrhpr h _ _ _
  | fadds | fsubs | fmuls | fdivs | fdtos => exact runGood_arithIntoS h _ _ _ _ _
  | faddd | fsubd | fmuld | fdivd | fsmuld | fstod => exact runGood_arithIntoD h _ _ _ _ _
  | fcmps | fcmpd | fcmpes | fcmped => exact runGood_compareFp h _ _ _
  | fitos | fxtos | fstoi | fdtoi => exact runGood_fpIntoS h _ _
  | fitod | fxtod | fstox | fdtox => exact runGood_fpIntoD h _ _
  | fsqrts | fqtoi | fqtos | fcmpq | fcmpeq => exact runGood_unimplementedFPop h rfl
  | fsqrtd | fqtox | fqtod | faddq | fsubq | fmulq | fdivq | fdmulq | fsqrtq | fitoq | fxtoq | fstoq | fdtoq | fmovq | fnegq
  | fabsq | fmovqicc | fmovqxcc | fmovqfcc | fmovrqz | fmovrqlez | fmovrqlz | fmovrqnz | fmovrqgz | fmovrqgez =>
    exact runGood_unimplementedFPop_markFD h _
  | fmovs | fnegs | fabss | fmovsicc | fmovsxcc | fmovsfcc | fmovrsz | fmovrslez | fmovrslz | fmovrsnz | fmovrsgz | fmovrsgez =>
    exact runGood_moveFS h _ _ _
  | fmovd | fnegd | fabsd | fmovdicc | fmovdxcc | fmovdfcc | fmovrdz | fmovrdlez | fmovrdlz | fmovrdnz | fmovrdgz | fmovrdgez =>
    exact runGood_moveFD h _ _ _
  | siam => exact runGood_visInto h rfl
  | alignaddress | alignaddress_little | bmask => exact runGood_visIntoRGsr h _ _ _
  | fcmple16 | fcmpne16 | fcmple32 | fcmpne32 | fcmpgt16 | fcmpeq16 | fcmpgt32 | fcmpeq32 => exact runGood_visIntoR h _ _
  | fpadd16s | fpadd32s | fpsub16s | fpsub32s | fzeros | fones | fsrc1s | fsrc2s | fnot1s | fnot2s | fors | fnors | fands | fnands
  | fxors | fxnors | fornot1s | fornot2s | fandnot1s | fandnot2s => exact runGood_visIntoS h _ _
  | faligndata | bshuffle | fpadd16 | fpadd32 | fpsub16 | fpsub32 | fzero | fone | fsrc1 | fsrc2 | fnot1 | fnot2 | for_ | fnor
  | fand | fnand | fxor | fxnor | fornot1 | fornot2 | fandnot1 | fandnot2 => exact runGood_visIntoD h _ _
  | edge8n | edge8ln | edge16n | edge16ln | edge32n | edge32ln => exact runGood_edgeN h _ _ _ _ _ _
  | edge8cc | edge8lcc | edge16cc | edge16lcc | edge32cc | edge32lcc => exact runGood_edgeCC h _ _ _ _ _ _
  | array8 | array16 | array32 => exact runGood_arrayInto h _ _ _ _

/-! ### A step -/

theorem runGood_step : RunGood w c (step s) := by
  have hstart : GoodOn w c (startStep s) := h.of_footprint (footprint_startStep s)
  intro t ht
  rcases step_next ht with ⟨-, rfl⟩ | rfl | ⟨i, hi⟩ | ⟨u, e, rfl, hu⟩
  · exact h.of_footprint (footprint_parkedStep s)
  · exact (hstart.of_footprint (footprint_xirAccepted _)).trapped _
  · exact runGood_exec (hstart.of_footprint (footprint_pastError _)) i t hi
  · refine GoodOn.trapped (hstart.of_footprint ((congrArg footprint hu).trans ?_)) e
    simp only [footprint, startStep, freshStep, drawn, advanceStick, advanceTick]

/-! ### Moves of the environment -/

theorem GoodOn.otherAgent (pa : DWord) (n : Nat) (little : Bool) (v : DWord) : GoodOn w c (otherAgentStores s pa n little v) :=
  goodOn_ite (h.stored pa n little v) h

theorem GoodOn.otherStrand (va v : DWord) : GoodOn w c (otherStrandStores s va v) := by
  unfold otherStrandStores
  split
  · exact h
  · exact h.withCmt (h.cmtInv.cmtWrite (by assumption))

theorem GoodOn.xirAsserted : GoodOn w c (assertXir s) :=
  goodOn_ite (h.of_footprint rfl) h

theorem GoodOn.warmlyReset (he : s.cmt.enable ≠ 0) : GoodOn w c (warmReset s) := by
  have hcmt := h.withCmt (h.cmtInv.afterWarmReset he)
  have hvector : (redVector s.paWidth 0x20).extractLsb' 0 2 = 0 := by
    rw [redVector, BitVec.extractLsb'_append_eq_of_add_le (by decide)]; rfl
  exact ((hcmt.withTl (tl := 6) (by decide)).jumped hvector (low_two_add_four hvector) false).of_footprint rfl

theorem GoodOn.errorRaised (e : ErrorEvent) : GoodOn w c (raiseError s e) := by
  cases e <;> exact h.of_footprint rfl

theorem runGood_steeredError (e : ErrorEvent) : RunGood w c (steeredError s e) :=
  runGood_ite (runGood_next h) <| runGood_ite (runGood_next (h.errorRaised e)) fun _ ht => by cases ht

theorem GoodOn.packetArrived (first : BitVec 61) (packet : Bank 64 3) : GoodOn w c (packetStored s first packet) := by
  unfold packetStored
  induction List.range 8 generalizing s with
  | nil => exact h
  | cons k ks ih => exact ih (h.otherAgent _ 8 false _)

theorem GoodOn.accepted (q : Fin 3) (first : BitVec 61) (size : Nat) (packet : Bank 64 3) :
    GoodOn w c (accepts s q first size packet) :=
  goodOn_ite ((h.packetArrived first packet).withQueues (low_six_bankWrite h.inv.queues (low_six_masked _) _)) h

theorem runGood_fabricDelivers (id : BitVec 16) (q : Fin 3) (first : BitVec 61) (size : Nat) (packet : Bank 64 3) :
    RunGood w c (fabricDelivers s id q first size packet) := by
  intro t ht
  rcases fabricDelivers_next ht with ⟨-, rfl⟩ | ⟨n, -, -, rfl⟩
  · exact h
  · split
    · exact h.accepted q first size packet
    · exact h

end

/-- Settles O10: a step by its cases (`step_next`), every instruction by `runGood_exec`; each move of the environment by its lemma. -/
theorem stepKeepsInvariant : Obligations.StepKeepsInvariant := by
  constructor
  · intro s t hs ht
    obtain ⟨hinv, hwidth, hchip⟩ := runGood_step (goodOn_self hs) t ht
    exact ⟨hinv, hwidth, hchip⟩
  · intro s hs
    have h := goodOn_self hs
    exact ⟨fun pa v n little => (h.otherAgent pa n little v).inv, fun va v => (h.otherStrand va v).inv,
      fun strand v => (h.of_footprint (t := peerStoresIntrId s strand v) rfl).inv, h.xirAsserted.inv, h.parked.inv,
      fun he => (h.warmlyReset he).inv,
      fun e => ⟨(h.errorRaised e).inv, fun t ht => (runGood_steeredError h e t ht).inv⟩,
      (h.of_footprint (t := clearError s) rfl).inv,
      fun id q first size packet t ht => (runGood_fabricDelivers h id q first size packet t ht).inv⟩

end Sys2Proof.Machine

/-! PROOFS. The ASI of an access, the class and the space of each ASI (O40), and the translation of addresses (O42): an access is
physical, or hits the one entry that matches, or misses; the checks of a hit decide the rest. -/

namespace Sys2Proof.Machine

/-! ### Physical accesses (rule R1377, case H) -/

theorem isPhysical_iff (s : State) (asi : Byte) : isPhysical s asi = true ↔
    isHyper s = true ∧ asiSpace asi ≠ .real ∧ asiIsAsIfUser asi = false ∧ asiIsAsIfPriv asi = false := by
  simp [isPhysical, and_assoc]

/-- The accesses that are looked up in the TLB. -/
theorem not_isPhysical_of {s : State} {asi : Byte}
    (h : isHyper s = false ∨ asiSpace asi = .real ∨ asiIsAsIfUser asi = true ∨ asiIsAsIfPriv asi = true) :
    isPhysical s asi = false := by
  refine Bool.eq_false_iff.mpr fun hp => ?_
  obtain ⟨hhyper, hspace, huser, hpriv⟩ := (isPhysical_iff s asi).mp hp
  rcases h with h | h | h | h
  · exact Bool.eq_false_iff.mp h hhyper
  · exact hspace h
  · exact Bool.eq_false_iff.mp huser h
  · exact Bool.eq_false_iff.mp hpriv h

/-! ### The byte order (rule R344) -/

/-- The byte order, the as-if-user ASIs of hyperprivileged mode listed (decision D36). -/
theorem littleEndian_eq (s : State) (asi : Byte) (ie : Bool) : littleEndian s asi ie =
    if isHyper s = true ∧ asi ∈ ([0x10, 0x11, 0x16, 0x17] : List Byte) then false
    else if isHyper s = true ∧ asi ∈ ([0x18, 0x19, 0x1E, 0x1F] : List Byte) then true else asi.getLsbD 3 != ie := by
  simp [littleEndian, flagAt, or_assoc]

theorem littleEndian_of_not_asIfUser (s : State) {asi : Byte} (ie : Bool) (h : asiIsAsIfUser asi = false) :
    littleEndian s asi ie = (asi.getLsbD 3 != ie) := by
  have hlist : asi ∉ ([0x10, 0x11, 0x16, 0x17] : List Byte) ∧ asi ∉ ([0x18, 0x19, 0x1E, 0x1F] : List Byte) := by
    revert asi; decide +kernel
  rw [littleEndian_eq, if_neg (fun hc => hlist.1 hc.2), if_neg (fun hc => hlist.2 hc.2)]

/-! ### The implicit ASI (rules R341, R731) -/

theorem implicitAsi_mem (s : State) : implicitAsi s ∈ ([0x80, 0x88, 0x04, 0x0C] : List Byte) := by
  unfold implicitAsi
  split <;> split <;> decide

/-- Bit 3 of the implicit ASI, which is the byte order it names, is PSTATE.cle. -/
theorem implicitAsi_bit3 (s : State) : (implicitAsi s).getLsbD 3 = s.pstate.cle := by
  unfold implicitAsi
  cases s.pstate.cle <;> split <;> rfl

theorem translate_implicit {s : State} (h : isHyper s = true) (acc : Access) (c : Bool) (a : DWord) :
    translate s acc c (implicitAsi s) a = .ok ⟨a, s.pstate.cle⟩ := by
  obtain ⟨hspace, huser, hpriv⟩ :
      asiSpace (implicitAsi s) ≠ .real ∧ asiIsAsIfUser (implicitAsi s) = false ∧ asiIsAsIfPriv (implicitAsi s) = false := by
    have hmem := implicitAsi_mem s
    revert hmem
    generalize implicitAsi s = asi
    revert asi
    decide +kernel
  rw [translate_physical ((isPhysical_iff s _).mpr ⟨h, hspace, huser, hpriv⟩), littleEndian_of_not_asIfUser s false huser,
    implicitAsi_bit3, Bool.bne_false]

/-! ### The classes of the 256 ASIs (rules R343, R348, R349, R352) -/

/-- The ASIs that the lists of rule R343 give each class. -/
def asisOfClass : AsiClass → List Byte
  | .all => [0x04, 0x0C, 0x10, 0x11, 0x18, 0x19, 0x14, 0x1C, 0x80, 0x81, 0x88, 0x89, 0x30, 0x31, 0x36, 0x38, 0x39, 0x3E]
  | .noatomic => [0x15, 0x1D]
  | .nofault => [0x82, 0x83, 0x8A, 0x8B]
  | .ldtx => [0x22, 0x23, 0x26, 0x27, 0x2A, 0x2B, 0x2E, 0x2F, 0xE2, 0xE3, 0xEA, 0xEB, 0x24, 0x2C]
  | .block => [0x16, 0x17, 0x1E, 0x1F, 0xF0, 0xF1, 0xF8, 0xF9]
  | .partialStore => [0xC0, 0xC1, 0xC2, 0xC3, 0xC4, 0xC5, 0xC8, 0xC9, 0xCA, 0xCB, 0xCC, 0xCD]
  | .short => [0xD0, 0xD1, 0xD2, 0xD3, 0xD8, 0xD9, 0xDA, 0xDB]
  | .register => [0x20, 0x21, 0x25, 0x41, 0x4F, 0x50, 0x52, 0x54, 0x55, 0x56, 0x57, 0x58, 0x5C, 0x5D, 0x5E, 0x5F, 0x63]
  | .unassigned => []

theorem asiClass_eq_iff (c : AsiClass) (hc : c ≠ .unassigned) (asi : Byte) : asiClass asi = c ↔ asi ∈ asisOfClass c := by
  revert asi
  cases c with
  | unassigned => exact absurd rfl hc
  | _ => decide +kernel

theorem asiIsBlock_iff (asi : Byte) : asiIsBlock asi = true ↔ asiClass asi = .block := by
  rw [asiClass_eq_iff .block nofun]; simp [asiIsBlock, asisOfClass, or_assoc]

theorem asiIsShort_iff (asi : Byte) : asiIsShort asi = true ↔ asiClass asi = .short := by
  rw [asiClass_eq_iff .short nofun]; simp [asiIsShort, asisOfClass, or_assoc]

theorem asiIsPartial_iff (asi : Byte) : asiIsPartial asi = true ↔ asiClass asi = .partialStore := by
  rw [asiClass_eq_iff .partialStore nofun]; simp [asiIsPartial, asisOfClass, or_assoc]

theorem asiIsNoFault_iff (asi : Byte) : asiIsNoFault asi = true ↔ asiClass asi = .nofault := by
  rw [asiClass_eq_iff .nofault nofun]; simp [asiIsNoFault, asisOfClass, or_assoc]

theorem asiIsRealIo_iff (asi : Byte) : asiIsRealIo asi = true ↔ asiClass asi = .noatomic := by
  rw [asiClass_eq_iff .noatomic nofun]; simp [asiIsRealIo, asisOfClass]

/-- Which classes each kind of instruction may use (rule R343). -/
theorem admits_iff (c : AsiClass) : (admitsLoad c = true ↔ c = .all ∨ c = .noatomic ∨ c = .nofault)
    ∧ (admitsStore c = true ↔ c = .all ∨ c = .noatomic) ∧ (admitsAtomic c = true ↔ c = .all)
    ∧ (isSpecialClass c = true ↔ c = .ldtx ∨ c = .block ∨ c = .partialStore ∨ c = .short) := by
  cases c <;> decide

/-- Settles O40: the implicit ASI by its four values, the classes by `asiClass_eq_iff`, the spaces by the lists. -/
theorem asiClassesAndImplicitAsi : Obligations.AsiClassesAndImplicitAsi := by
  refine ⟨fun s => ⟨fun _ => rfl, translate_implicit, fun _ _ _ => ⟨rfl, rfl⟩, fun _ _ => ⟨rfl, rfl⟩, fun _ => ⟨rfl, rfl⟩⟩,
    fun asi => ?_, admits_iff, by decide, by decide, by decide, by decide⟩
  refine ⟨asiClass_eq_iff .all nofun asi, asiClass_eq_iff .noatomic nofun asi, asiClass_eq_iff .nofault nofun asi,
    asiClass_eq_iff .ldtx nofun asi, asiClass_eq_iff .block nofun asi, asiClass_eq_iff .partialStore nofun asi,
    asiClass_eq_iff .short nofun asi, asiClass_eq_iff .register nofun asi,
    asiIsBlock_iff asi, asiIsShort_iff asi, asiIsPartial_iff asi, asiIsNoFault_iff asi, asiIsRealIo_iff asi, ?_, ?_⟩
  · simp [asiIsAsIfUser, or_assoc]
  · simp [asiIsAsIfPriv, or_assoc]

/-! ### The TLB entry of an address (rule R1374) -/

/-- In a consistent TLB the lookup answers the entry that matches. -/
theorem find_of_consistent {tlb : List TlbEntry} {q a : DWord} {x : Option (BitVec 16)} {e : TlbEntry} (hc : TlbConsistent tlb)
    (he : e ∈ tlb) (hm : tlbMatches q x a e = true) : tlb.find? (tlbMatches q x a) = some e := by
  have hmem : e ∈ tlb.filter (tlbMatches q x a) := List.mem_filter.mpr ⟨he, hm⟩
  obtain ⟨d, hd⟩ := List.length_eq_one_iff.mp (le_antisymm (hc q x a) (List.length_pos_of_mem hmem))
  rw [hd, List.mem_singleton] at hmem
  rw [← List.head?_filter, hd, hmem]; rfl

theorem find_of_no_match {tlb : List TlbEntry} {q a : DWord} {x : Option (BitVec 16)}
    (h : ∀ e ∈ tlb, tlbMatches q x a e = false) : tlb.find? (tlbMatches q x a) = none :=
  List.find?_eq_none.mpr fun e he => Bool.eq_false_iff.mp (h e he)

/-! ### Where an address is looked up (rules R1375, R1377) -/

theorem lookupContext_eq (s : State) (asi : Byte) : contextOf s (lookupSpace s asi) =
    if s.mmu.dmmuEnable = true ∧ s.hpstate.red = false then contextOf s (asiSpace asi) else none := by
  simp only [lookupSpace, dtranslationOn, Bool.and_eq_true, Bool.not_eq_true']
  split <;> rfl

theorem fetchContext_eq (s : State) : contextOf s (fetchSpace s) =
    if s.mmu.immuEnable = true ∧ s.hpstate.red = false then (if s.tl = 0 then some s.mmu.primaryContext else some 0) else none := by
  simp only [fetchSpace, itranslationOn, Bool.and_eq_true, Bool.not_eq_true']
  split
  · split <;> rfl
  · rfl

/-- A real address that no entry covers (rule R1380). -/
theorem translate_miss_real {s : State} {acc : Access} {c : Bool} {asi : Byte} {a : DWord} (hp : isPhysical s asi = false)
    (hx : contextOf s (lookupSpace s asi) = none) (hf : s.mmu.dtlb.find? (tlbMatches s.mmu.partitionId none a) = none) :
    translate s acc c asi a = .error ⟨.dataRealTranslationMiss, s⟩ := by
  simp [translate, hp, hx, hf, raise]

/-- A virtual address that no entry covers, and no hardware tablewalk (rule R1380). -/
theorem translate_miss_virtual {s : State} {acc : Access} {c : Bool} {asi : Byte} {a : DWord} {ctx : BitVec 16}
    (hp : isPhysical s asi = false) (hx : contextOf s (lookupSpace s asi) = some ctx)
    (hf : s.mmu.dtlb.find? (tlbMatches s.mmu.partitionId (some ctx) a) = none) :
    translate s acc c asi a = .error ⟨.fastDataAccessMmuMiss, noteDtag s ⟨false, ctx, a⟩⟩ := by
  simp [translate, hp, hx, hf]

/-! ### The checks of a data access that hits (rule R1378) -/

/-- The cause of data_access_exception of the four violations a page can make, in their order. -/
def violationCause (privileged noFault sideEffect noncacheable : Bool) : Option DaeCause :=
  if privileged then some .privilegeViolation else if noFault then some .noFaultOnly
  else if sideEffect then some .sideEffect else if noncacheable then some .noncacheable else none

theorem pageViolation_eq (s : State) (acc : Access) (c : Bool) (asi : Byte) (e : TlbEntry) : pageViolation s acc c asi e =
    violationCause (e.p && (isUser s || asiIsAsIfUser asi)) (e.nfo && !asiIsNoFault asi)
      ((e.e || asiIsRealIo asi) && asiIsNoFault asi) ((!e.cp || asiIsRealIo asi) && (c || acc == .atomic)) := by
  simp only [pageViolation, violationCause, cacheable, Bool.not_and, Bool.not_not]; rfl

theorem violationCause_none {p n e c : Bool} (h : (p || n || e || c) = false) : violationCause p n e c = none := by
  revert p n e c; decide

theorem violationCause_some {p n e c : Bool} (h : (p || n || e || c) = true) :
    ∃ cause, violationCause p n e c = some cause ∧ decide (cause = .noFaultOnly) = (!p && n) :=
  match p, n, e, c, h with
  | true, _, _, _, _ => ⟨.privilegeViolation, rfl, rfl⟩
  | false, true, _, _, _ => ⟨.noFaultOnly, rfl, rfl⟩
  | false, false, true, _, _ => ⟨.sideEffect, rfl, rfl⟩
  | false, false, false, true, _ => ⟨.noncacheable, rfl, rfl⟩

/-- DSFSR's fault type is 0x10 for the no-fault-only violation, and another nonzero code for each other cause (rule R1383). -/
theorem faultType_spec (c : DaeCause) : if decide (c = .noFaultOnly) = true then faultType c = 0x10 else faultType c ≠ 0 := by
  have hcode (d : DaeCause) : BitVec.ofNat 8 ((Config.dsfsrCode d).val + 1) ≠ 0 := fun h => by
    have hlt := (Config.dsfsrCode d).isLt
    have hzero : ((Config.dsfsrCode d).val + 1) % 2 ^ 8 = 0 := (BitVec.toNat_ofNat _ 8).symm.trans (congrArg BitVec.toNat h)
    omega
  cases c
  case noFaultOnly => rfl
  all_goals exact hcode _

/-- What data_access_exception leaves in the fault registers, whatever its cause (rule R1383). -/
theorem reportedDae_of_cause (s : State) (real : Bool) (a : DWord) (c : DaeCause) :
    ReportedDae s (noteDae s real a c) real a (decide (c = .noFaultOnly)) :=
  ⟨reported_noteDae s real a c, rfl, ⟨faultType c, faultType_spec c, rfl⟩, ⟨_, rfl⟩⟩

section
variable {s : State} {acc : Access} {c : Bool} {asi : Byte} {a : DWord} {e : TlbEntry}

theorem throughEntry_violation {cause : DaeCause} (h : pageViolation s acc c asi e = some cause) :
    throughEntry s acc c asi a e = .error ⟨.dataAccessException, noteDae s e.real a cause⟩ := by
  rw [throughEntry, h]; rfl

theorem throughEntry_protected (h : pageViolation s acc c asi e = none) (hw : writes acc = true) (he : e.w = false) :
    throughEntry s acc c asi a e = .error ⟨.fastDataAccessProtection, noteDtag s ⟨e.real, e.context, a⟩⟩ := by
  rw [throughEntry, h, hw, he]; rfl

theorem throughEntry_ok (h : pageViolation s acc c asi e = none) (hw : writes acc = false ∨ e.w = true) :
    throughEntry s acc c asi a e = .ok ⟨e.pa + (a - e.base), littleEndian s asi e.ie⟩ := by
  have hpass : (writes acc && !e.w) = false := by rcases hw with hw | hw <;> simp [hw]
  simp [throughEntry, h, hpass, Config.paWatch]

end

/-! ### Fetches (rules R1379, R1380) -/

section
variable {s : State} {a : DWord} {x : Option (BitVec 16)}

theorem translateFetch_hit {e : TlbEntry} (hh : isHyper s = false) (hx : contextOf s (fetchSpace s) = x)
    (hf : s.mmu.itlb.find? (tlbMatches s.mmu.partitionId x a) = some e) : translateFetch s a = throughFetchEntry s a e := by
  cases x <;> simp [translateFetch, hh, hx, hf]

theorem translateFetch_miss_real (hh : isHyper s = false) (hx : contextOf s (fetchSpace s) = none)
    (hf : s.mmu.itlb.find? (tlbMatches s.mmu.partitionId none a) = none) :
    translateFetch s a = .error ⟨.instructionRealTranslationMiss, s⟩ := by
  simp [translateFetch, hh, hx, hf, raise]

theorem translateFetch_miss_virtual {ctx : BitVec 16} (hh : isHyper s = false) (hx : contextOf s (fetchSpace s) = some ctx)
    (hf : s.mmu.itlb.find? (tlbMatches s.mmu.partitionId (some ctx) a) = none) :
    translateFetch s a = .error ⟨.fastInstructionAccessMmuMiss, noteItag s ⟨false, ctx, a⟩⟩ := by
  simp [translateFetch, hh, hx, hf]

theorem throughFetchEntry_ok {e : TlbEntry} (h : (e.p = false ∨ isUser s = false) ∧ e.ep = true ∧ e.nfo = false) :
    throughFetchEntry s a e = .ok (e.pa + (a - e.base)) := by
  obtain ⟨hp, hep, hnfo⟩ := h
  have hpriv : (e.p && isUser s) = false := Bool.and_eq_false_iff.mpr hp
  simp [throughFetchEntry, hpriv, hep, hnfo]

theorem throughFetchEntry_refused {e : TlbEntry} (h : (e.p = true ∧ isUser s = true) ∨ e.ep = false ∨ e.nfo = true) :
    throughFetchEntry s a e = .error ⟨.instructionAccessException, noteItag s ⟨e.real, e.context, a⟩⟩ := by
  rw [throughFetchEntry, if_pos]
  simpa [or_assoc] using h

end

/-- Settles O42: physical accesses, then hits and misses of data accesses, then of fetches. -/
theorem addressTranslation : Obligations.AddressTranslation := by
  intro s a
  refine ⟨fun hh => ⟨?_, fun acc c asi hspace huser hpriv => ?_⟩, fun acc c asi x hlook hx => ?_, fun hh x hx => ?_⟩
  · rw [translateFetch, if_pos hh, reachedFetch_eq]
  · refine ⟨_, translate_physical ((isPhysical_iff s asi).mpr ⟨hh, hspace, huser, hpriv⟩), ?_⟩
    rw [littleEndian_of_not_asIfUser s false huser, Bool.bne_false]
  · have hphys := not_isPhysical_of hlook
    have hcontext : contextOf s (lookupSpace s asi) = x := by
      rw [hx, lookupContext_eq]; cases asiSpace asi <;> rfl
    refine ⟨?_, fun hnone => ⟨?_, ?_⟩⟩
    · rintro e he hc hm _ _ _ _ _ _ rfl rfl rfl rfl rfl rfl
      rw [translate_hit hphys (by rw [hcontext]; exact find_of_consistent hc he hm), ← littleEndian_eq]
      refine ⟨fun hviol => ?_, fun hclean => ?_⟩
      · obtain ⟨cause, hcause, hnfo⟩ := violationCause_some hviol
        rw [← pageViolation_eq] at hcause
        exact ⟨_, throughEntry_violation hcause, hnfo ▸ reportedDae_of_cause s e.real a cause⟩
      · have hpass : pageViolation s acc c asi e = none := (pageViolation_eq s acc c asi e).trans (violationCause_none hclean)
        exact ⟨throughEntry_protected hpass, throughEntry_ok hpass⟩
    · rintro rfl
      exact translate_miss_real hphys hcontext (find_of_no_match hnone)
    · rintro ctx rfl
      exact translate_miss_virtual hphys hcontext (find_of_no_match hnone)
  · have hcontext : contextOf s (fetchSpace s) = x := (fetchContext_eq s).trans hx.symm
    refine ⟨fun e he hc hm => ?_, fun hnone => ⟨?_, ?_⟩⟩
    · rw [translateFetch_hit hh hcontext (find_of_consistent hc he hm)]
      exact ⟨throughFetchEntry_ok, throughFetchEntry_refused⟩
    · rintro rfl
      exact translateFetch_miss_real hh hcontext (find_of_no_match hnone)
    · rintro ctx rfl
      exact translateFetch_miss_virtual hh hcontext (find_of_no_match hnone)

end Sys2Proof.Machine

/-! PROOFS. The registers reached through ASIs: at which addresses they stand, and what an eight-byte load or store of one answers;
then the exceptions of loads, stores and atomics in their order (O41). -/

namespace Sys2Proof.Machine

/-! ### Addresses -/

theorem maskAm_mod_eight (s : State) (a : DWord) : (maskAm s a).toNat % 8 = a.toNat % 8 := by
  unfold maskAm low32
  split
  · simp only [BitVec.toNat_setWidth, BitVec.extractLsb'_toNat, Nat.shiftRight_zero]
    omega
  · rfl

theorem inGroup_iff (va first last : DWord) :
    inGroup va first last = true ↔ first.toNat ≤ va.toNat ∧ va.toNat ≤ last.toNat ∧ va.toNat % 8 = 0 := by
  have hlow : va.extractLsb' 0 3 = 0#3 ↔ va.toNat % 8 = 0 := by
    rw [← BitVec.toNat_inj, BitVec.extractLsb'_toNat, Nat.shiftRight_zero]; rfl
  simp only [inGroup, Bool.and_eq_true, decide_eq_true_eq, beq_iff_eq, and_assoc]
  exact and_congr_right' (and_congr_right' hlow)

theorem isDataAccessVa_iff (va : DWord) :
    isDataAccessVa va = true ↔ va.toNat ≤ 0x3F8 ∨ 0x800 ≤ va.toNat ∧ va.toNat ≤ 0x7FFF8 := by
  simp [isDataAccessVa]

/-! ### Where the registers stand (rule R342) -/

theorem registerAt_of_mem {l : List (Byte × Nat × Nat)} {asi : Byte} {va : DWord} (lo hi : Nat) (hm : (asi, lo, hi) ∈ l)
    (hlo : lo ≤ va.toNat) (hhi : va.toNat ≤ hi) : RegisterAt l asi va :=
  ⟨(asi, lo, hi), hm, rfl, hlo, hhi⟩

/-- A run of registers that are both read and written. -/
theorem registerAt_of_mem_both {asi : Byte} {va : DWord} (lo hi : Nat)
    (hm : (asi, lo, hi) ∈ readableRegisters ∧ (asi, lo, hi) ∈ writableRegisters) (hlo : lo ≤ va.toNat) (hhi : va.toNat ≤ hi) :
    RegisterAt readableRegisters asi va ∧ RegisterAt writableRegisters asi va :=
  ⟨registerAt_of_mem lo hi hm.1 hlo hhi, registerAt_of_mem lo hi hm.2 hlo hhi⟩

/-- The MMU registers of rule R1382 that are read and written stand in both lists. -/
theorem registerAt_of_mmuReadWrite {asi : Byte} {va : DWord} (h : mmuReadWrite asi va = true) :
    RegisterAt readableRegisters asi va ∧ RegisterAt writableRegisters asi va := by
  unfold mmuReadWrite at h
  split_ifs at h with h50 h52 h54 h55 h58
  · subst h50
    simp only [Bool.or_eq_true, beq_iff_eq] at h
    rcases h with rfl | rfl <;> unfold RegisterAt <;> decide
  · subst h52
    simp only [Bool.or_eq_true, inGroup_iff] at h
    rcases h with ⟨hlo, hhi, -⟩ | ⟨hlo, hhi, -⟩
    · exact registerAt_of_mem_both 0x108 0x120 (by decide) hlo hhi
    · exact registerAt_of_mem_both 0x208 0x220 (by decide) hlo hhi
  · subst h54
    obtain ⟨hlo, hhi, -⟩ := (inGroup_iff _ _ _).mp h
    exact registerAt_of_mem_both 0x10 0x98 (by decide) hlo hhi
  · simp only [Bool.or_eq_true, decide_eq_true_eq] at h55
    rcases (isDataAccessVa_iff va).mp h with hhi | ⟨hlo, hhi⟩ <;> rcases h55 with rfl | rfl
    · exact registerAt_of_mem_both 0 0x3F8 (by decide) (Nat.zero_le _) hhi
    · exact registerAt_of_mem_both 0 0x3F8 (by decide) (Nat.zero_le _) hhi
    · exact registerAt_of_mem_both 0x800 0x7FFF8 (by decide) hlo hhi
    · exact registerAt_of_mem_both 0x800 0x7FFF8 (by decide) hlo hhi
  · subst h58
    simp only [Bool.or_eq_true, beq_iff_eq] at h
    rcases h with ((rfl | rfl) | rfl) | rfl <;> unfold RegisterAt <;> decide

theorem registerAt_of_mmuReadOnly {asi : Byte} {va : DWord} (h : mmuReadOnly asi va = true) :
    RegisterAt readableRegisters asi va := by
  unfold mmuReadOnly at h
  split_ifs at h with htarget htag
  · simp only [Bool.or_eq_true, decide_eq_true_eq] at htarget
    rw [beq_iff_eq] at h
    subst h
    rcases htarget with rfl | rfl <;> unfold RegisterAt <;> decide
  · simp only [Bool.or_eq_true, decide_eq_true_eq] at htag
    rw [decide_eq_true_eq] at h
    rcases htag with rfl | rfl <;> exact registerAt_of_mem 0 0xFFFF8 (by decide) (Nat.zero_le _) h

theorem registerAt_of_mmuWriteOnly {asi : Byte} {va : DWord} (h : mmuWriteOnly asi va = true) :
    RegisterAt writableRegisters asi va := by
  unfold mmuWriteOnly at h
  split_ifs at h with hasi
  simp only [Bool.or_eq_true, decide_eq_true_eq] at hasi
  rw [beq_iff_eq] at h
  subst h
  rcases hasi with ((rfl | rfl) | rfl) | rfl <;> unfold RegisterAt <;> decide

theorem registerAt_of_mmuRead {m : Mmu} {asi : Byte} {va v : DWord} (h : mmuRead m asi va = some v) :
    RegisterAt readableRegisters asi va := by
  unfold mmuRead at h
  simp only [Bool.and_eq_true, decide_eq_true_eq, Bool.or_eq_true] at h
  split_ifs at h with h21 h8 h10 hfar hpid hplatform
  · subst h21 h8; unfold RegisterAt; decide
  · subst h21 h10; unfold RegisterAt; decide
  · obtain ⟨rfl, rfl⟩ := hfar; unfold RegisterAt; decide
  · obtain ⟨rfl, rfl⟩ := hpid; unfold RegisterAt; decide
  · rcases hplatform with hrw | hro
    · exact (registerAt_of_mmuReadWrite hrw).1
    · exact registerAt_of_mmuReadOnly hro

theorem registerAt_of_mmuWrite {m n : Mmu} {asi : Byte} {va v : DWord} (h : mmuWrite m asi va v = some n) :
    RegisterAt writableRegisters asi va := by
  rcases mmuWrite_some h with ⟨rfl, rfl, -⟩ | ⟨rfl, rfl, -⟩ | ⟨rfl, rfl, -⟩ | ⟨hrw | hwo, -⟩
  · unfold RegisterAt; decide
  · unfold RegisterAt; decide
  · unfold RegisterAt; decide
  · exact (registerAt_of_mmuReadWrite hrw).2
  · exact registerAt_of_mmuWriteOnly hwo

theorem registerAt_of_cmtRead {h : Chip} {c : Cmt} {asi : Byte} {va v : DWord} (hasi : asi = 0x41 ∨ asi = 0x63)
    (hr : cmtRead h c asi va = some v) : RegisterAt readableRegisters asi va := by
  unfold cmtRead at hr
  rcases hasi with rfl | rfl
  · rw [if_pos rfl] at hr
    split_ifs at hr <;> subst va <;> unfold RegisterAt <;> decide
  · rw [if_neg (by decide)] at hr
    split_ifs at hr <;> subst va <;> unfold RegisterAt <;> decide

theorem registerAt_of_cmtWrite {h : Chip} {c d : Cmt} {asi : Byte} {va v : DWord} (hasi : asi = 0x41 ∨ asi = 0x63)
    (hw : cmtWrite h c asi va v = some d) : RegisterAt writableRegisters asi va := by
  unfold cmtWrite at hw
  simp only [cmtWriteIgnored_eq, Bool.false_eq_true, if_false] at hw
  rcases hasi with rfl | rfl
  · rw [if_pos rfl] at hw
    split_ifs at hw <;> subst va <;> unfold RegisterAt <;> decide
  · rw [if_neg (by decide)] at hw
    split_ifs at hw; subst va; unfold RegisterAt; decide

/-- A load finds a register only where the access column of rule R342 has one that may be read. -/
theorem registerAt_of_readAsiRegister {s : State} {asi : Byte} {va v : DWord} (h : readAsiRegister s asi va = some v) :
    RegisterAt readableRegisters asi va := by
  unfold readAsiRegister at h
  simp only [Bool.and_eq_true, inGroup_iff, Bool.or_eq_true, decide_eq_true_eq] at h
  split_ifs at h with h20 hs h4F hh h25 hq hcmt
  · subst h20; exact registerAt_of_mem 0 0x38 (by decide) hs.1.1 hs.1.2.1
  · subst h4F; exact registerAt_of_mem 0 0x38 (by decide) hh.1 hh.2.1
  · subst h25; exact registerAt_of_mem 0x3C0 0x3F8 (by decide) hq.1 hq.2.1
  · exact registerAt_of_cmtRead hcmt h
  · exact registerAt_of_mmuRead h

/-- A store finds a register only where the access column of rule R342 has one that may be written. -/
theorem registerAt_of_writeAsiRegister {s t : State} {asi : Byte} {va v : DWord} (h : writeAsiRegister s asi va v = some t) :
    RegisterAt writableRegisters asi va := by
  unfold writeAsiRegister at h
  simp only [Bool.and_eq_true, inGroup_iff, Bool.or_eq_true, decide_eq_true_eq] at h
  split_ifs at h with h20 hs h4F hh h25 hq hcmt
  · subst h20; exact registerAt_of_mem 0 0x38 (by decide) hs.1.1 hs.1.2.1
  · subst h4F; exact registerAt_of_mem 0 0x38 (by decide) hh.1 hh.2.1
  · subst h25; exact registerAt_of_mem 0x3C0 0x3F8 (by decide) hq.1.1 hq.1.2.1
  · obtain ⟨c, hc, -⟩ := Option.map_eq_some_iff.mp h
    exact registerAt_of_cmtWrite hcmt hc
  · obtain ⟨m, hm, -⟩ := Option.map_eq_some_iff.mp h
    exact registerAt_of_mmuWrite hm

/-! ### The checks of an alternate-space access (rules R343, R734) -/

section
variable {s : State} {acc : Access} {asi : Byte} {a v : DWord} {align : Effect Unit} {admits : AsiClass → Bool}

/-- Past the alignment check, or where the ASI is one of another special instruction. -/
theorem requireAsi_refusals (h : isSpecialClass (asiClass asi) = true ∨ align = .ok ()) :
    (asiPermitted s asi = false →
      requireAsi s acc asi a align admits = .error ⟨.privilegedAction, noteDsfar s (maskAm s a)⟩)
    ∧ (asiPermitted s asi = true → admits (asiClass asi) = false → requireAsi s acc asi a align admits = invalidAsi s a) := by
  have hpass : requireAsi s acc asi a align admits = requireAsi s acc asi a (.ok ()) admits := by
    rcases h with h | h
    · simp only [requireAsi, h, if_true]
    · rw [h]
  rw [hpass]
  exact ⟨requireAsi_denied rfl, requireAsi_invalid rfl⟩

theorem not_register_of_special {c : AsiClass} (h : isSpecialClass c = true) : c ≠ .register := by
  rintro rfl; cases h

theorem loadAlternate8_register (hc : asiClass asi = .register) :
    loadAlternate8 s asi a align = (do
      align
      requirePermitted s asi a
      match readAsiRegister s asi (maskAm s a) with
      | none => invalidAsi s a
      | some v => .ok (v, s)) := by
  rw [loadAlternate8, if_pos hc]; rfl

theorem storeAlternate8_register (hc : asiClass asi = .register) :
    storeAlternate8 s asi a v align = (do
      align
      requirePermitted s asi a
      match writeAsiRegister s asi (maskAm s a) v with
      | none => invalidAsi s a
      | some t => .ok t) := by
  rw [storeAlternate8, if_pos hc]; rfl

/-- The refusals of the eight-byte load, in their order. -/
theorem loadAlternate8_refusals (h : isSpecialClass (asiClass asi) = true ∨ align = .ok ()) :
    (asiPermitted s asi = false → loadAlternate8 s asi a align = .error ⟨.privilegedAction, noteDsfar s (maskAm s a)⟩)
    ∧ (asiPermitted s asi = true → asiClass asi ≠ .register → admitsLoad (asiClass asi) = false →
      loadAlternate8 s asi a align = invalidAsi s a)
    ∧ (asiPermitted s asi = true → asiClass asi = .register → readAsiRegister s asi (maskAm s a) = none →
      loadAlternate8 s asi a align = invalidAsi s a) := by
  obtain ⟨hdenied, hinvalid⟩ := requireAsi_refusals (s := s) (acc := .load) (a := a) (admits := admitsLoad) h
  refine ⟨fun hp => ?_, fun hp hc hadmits => ?_, fun hp hc hnone => ?_⟩
  · by_cases hc : asiClass asi = .register
    · rw [loadAlternate8_register hc, h.resolve_left fun hs => not_register_of_special hs hc, requirePermitted_denied hp]; rfl
    · rw [loadAlternate8, if_neg hc, hdenied hp]; rfl
  · rw [loadAlternate8, if_neg hc, hinvalid hp hadmits]; rfl
  · rw [loadAlternate8_register hc, h.resolve_left fun hs => not_register_of_special hs hc, requirePermitted_of hp, hnone]; rfl

/-- The refusals of the eight-byte store, in their order. -/
theorem storeAlternate8_refusals (h : isSpecialClass (asiClass asi) = true ∨ align = .ok ()) :
    (asiPermitted s asi = false → storeAlternate8 s asi a v align = .error ⟨.privilegedAction, noteDsfar s (maskAm s a)⟩)
    ∧ (asiPermitted s asi = true → asiClass asi ≠ .register → admitsStore (asiClass asi) = false →
      storeAlternate8 s asi a v align = invalidAsi s a)
    ∧ (asiPermitted s asi = true → asiClass asi = .register → writeAsiRegister s asi (maskAm s a) v = none →
      storeAlternate8 s asi a v align = invalidAsi s a) := by
  obtain ⟨hdenied, hinvalid⟩ := requireAsi_refusals (s := s) (acc := .store) (a := a) (admits := admitsStore) h
  refine ⟨fun hp => ?_, fun hp hc hadmits => ?_, fun hp hc hnone => ?_⟩
  · by_cases hc : asiClass asi = .register
    · rw [storeAlternate8_register hc, h.resolve_left fun hs => not_register_of_special hs hc, requirePermitted_denied hp]; rfl
    · rw [storeAlternate8, if_neg hc, hdenied hp]; rfl
  · rw [storeAlternate8, if_neg hc, hinvalid hp hadmits]; rfl
  · rw [storeAlternate8_register hc, h.resolve_left fun hs => not_register_of_special hs hc, requirePermitted_of hp, hnone]; rfl

end

/-! ### Instructions that begin with a check -/

/-- Any effect may stand first: `refuses_of` for an effect that answers no state. -/
theorem refuses_bind {α : Type} {s : State} {i : Instr} {a : DWord} {tr : Trap} {e : Effect α} {k : α → Effect State}
    (hi : exec i s = complete (e >>= k)) (h : e = .error ⟨tr, noteDsfar s (maskAm s a)⟩) : Refuses s i tr a := by
  subst h
  exact hi

theorem refusesAsi_bind {α : Type} {s : State} {i : Instr} {a : DWord} {e : Effect α} {k : α → Effect State}
    (hi : exec i s = complete (e >>= k)) (h : e = invalidAsi s a) : RefusesAsi s i a := by
  subst h
  exact ⟨_, hi, reportedDae_noteDae s (maskAm s a)⟩

theorem refuses_misaligned {s : State} {i : Instr} {a : DWord} {n : Nat} {k : Unit → Effect State}
    (hi : exec i s = complete (requireAligned s a n >>= k)) (h : a.toNat % n ≠ 0) : Refuses s i .memAddressNotAligned a :=
  refuses_bind hi (requireAligned_not ((not_alignedTo_iff a n).mpr h))

theorem complete_passed {check : Effect Unit} (h : check = .ok ()) (k : Unit → Effect State) :
    complete (check >>= k) = complete (k ()) := by
  rw [h]; rfl

/-- A twin instruction whose `rd` is even runs. -/
theorem ite_oddRd_of_even {α : Type} {rd : BitVec 5} (h : rd.getLsbD 0 = false) (x y : α) : (if oddRd rd then x else y) = y := by
  rw [oddRd, flagAt, h]; rfl

/-- The refusals of an alternate-space access of `n` bytes: misaligned, an ASI the mode may not use, an ASI not valid for
the instruction (rules R340, R343, R734). -/
theorem alternate_refusals {s : State} {i : Instr} {acc : Access} {a a' : DWord} {asi asi' : Byte} {n : Nat}
    {admits : AsiClass → Bool} {k : Unit → Effect State} (ha : a = a') (hasi : asi = asi')
    (hi : exec i s = complete (requireAsi s acc asi' a' (requireAligned s a' n) admits >>= k)) :
    (isSpecialClass (asiClass asi) = false → a.toNat % n ≠ 0 → Refuses s i .memAddressNotAligned a)
    ∧ (isSpecialClass (asiClass asi) = true ∨ a.toNat % n = 0 →
      (asiPermitted s asi = false → Refuses s i .privilegedAction a)
      ∧ (asiPermitted s asi = true → admits (asiClass asi) = false → RefusesAsi s i a)) := by
  subst ha hasi
  refine ⟨fun hs hn => refuses_bind hi (requireAsi_misaligned hs ((not_alignedTo_iff a n).mpr hn)), fun h => ?_⟩
  obtain ⟨hdenied, hinvalid⟩ := requireAsi_refusals (s := s) (acc := acc) (a := a) (admits := admits)
    (h.imp_right fun hn => requireAligned_of ((alignedTo_iff a n).mpr hn))
  exact ⟨fun hp => refuses_bind hi (hdenied hp), fun hp hadmits => refusesAsi_bind hi (hinvalid hp hadmits)⟩

/-- What an eight-byte access refuses past its alignment check, with the registers of a register ASI that it may reach. -/
def EightByteRefusals (s : State) (i : Instr) (asi : Byte) (a : DWord) (admits : AsiClass → Bool)
    (registers : List (Byte × Nat × Nat)) : Prop :=
  isSpecialClass (asiClass asi) = true ∨ a.toNat % 8 = 0 →
    (asiPermitted s asi = false → Refuses s i .privilegedAction a)
    ∧ (asiPermitted s asi = true → asiClass asi ≠ .register → admits (asiClass asi) = false → RefusesAsi s i a)
    ∧ (asiPermitted s asi = true → asiClass asi = .register → ¬RegisterAt registers asi (maskAm s a) → RefusesAsi s i a)

theorem eightByteRefusals_load {s : State} {i : Instr} {asi : Byte} {a : DWord} {align : Effect Unit}
    {k : DWord × State → Effect State} (hi : exec i s = complete (loadAlternate8 s asi a align >>= k))
    (halign : a.toNat % 8 = 0 → align = .ok ()) : EightByteRefusals s i asi a admitsLoad readableRegisters := by
  intro h
  obtain ⟨hdenied, hinvalid, hnone⟩ := loadAlternate8_refusals (s := s) (a := a) (h.imp_right halign)
  exact ⟨fun hp => refuses_bind hi (hdenied hp), fun hp hc hadmits => refusesAsi_bind hi (hinvalid hp hc hadmits),
    fun hp hc hr => refusesAsi_bind hi (hnone hp hc
      (Option.eq_none_iff_forall_ne_some.mpr fun _ hv => hr (registerAt_of_readAsiRegister hv)))⟩

theorem eightByteRefusals_store {s : State} {i : Instr} {asi : Byte} {a v : DWord} {align : Effect Unit}
    {k : State → Effect State} (hi : exec i s = complete (storeAlternate8 s asi a v align >>= k))
    (halign : a.toNat % 8 = 0 → align = .ok ()) : EightByteRefusals s i asi a admitsStore writableRegisters := by
  intro h
  obtain ⟨hdenied, hinvalid, hnone⟩ := storeAlternate8_refusals (s := s) (a := a) (v := v) (h.imp_right halign)
  exact ⟨fun hp => refuses_bind hi (hdenied hp), fun hp hc hadmits => refusesAsi_bind hi (hinvalid hp hc hadmits),
    fun hp hc hr => refusesAsi_bind hi (hnone hp hc
      (Option.eq_none_iff_forall_ne_some.mpr fun _ ht => hr (registerAt_of_writeAsiRegister ht)))⟩

/-! ### The eight-byte accesses of each instruction (rules R747, R759, R841, R851) -/

section
variable {s : State} (rd rs1 : BitVec 5) (ea : AsiOperand)

theorem exec_ldxa_eq : exec (.ldxa rd rs1 ea) s = complete
    (loadAlternate8 s (asiNumber s ea) (asiAddress s rs1 ea) (requireAligned s (asiAddress s rs1 ea) 8)
      >>= fun r => .ok (advance (setR r.2 rd r.1))) := rfl

theorem exec_stxa_eq : exec (.stxa rd rs1 ea) s = complete
    (storeAlternate8 s (asiNumber s ea) (asiAddress s rs1 ea) (getR s rd) (requireAligned s (asiAddress s rs1 ea) 8)
      >>= fun t => .ok (advance t)) := rfl

theorem exec_lddfa_eq (hf : fpuEnabled s = true) (hb : asiClass (asiNumber s ea) ≠ .block)
    (hs : asiClass (asiNumber s ea) ≠ .short) : exec (.lddfa rd rs1 ea) s = complete
      (loadAlternate8 s (asiNumber s ea) (asiAddress s rs1 ea) (requireLddf s (asiAddress s rs1 ea))
        >>= fun r => .ok (advance (setFD r.2 rd r.1))) :=
  (execLddfa_ordinary (Bool.eq_false_iff.mpr (mt (asiIsBlock_iff _).mp hb)) (Bool.eq_false_iff.mpr (mt (asiIsShort_iff _).mp hs))).trans
    (complete_passed (requireFpuMarking_of hf) _)

theorem exec_stdfa_eq (hf : fpuEnabled s = true) (hp : asiClass (asiNumber s ea) ≠ .partialStore)
    (hb : asiClass (asiNumber s ea) ≠ .block) (hs : asiClass (asiNumber s ea) ≠ .short) : exec (.stdfa rd rs1 ea) s = complete
      (storeAlternate8 s (asiNumber s ea) (asiAddress s rs1 ea) (getFD s rd) (requireStdf s (asiAddress s rs1 ea))
        >>= fun t => .ok (advance t)) :=
  (execStdfa_ordinary (Bool.eq_false_iff.mpr (mt (asiIsPartial_iff _).mp hp)) (Bool.eq_false_iff.mpr (mt (asiIsBlock_iff _).mp hb))
    (Bool.eq_false_iff.mpr (mt (asiIsShort_iff _).mp hs))).trans (complete_passed (requireFpu_of hf) _)

end

theorem asiPermitted_iff (s : State) (asi : Byte) : asiPermitted s asi = true ↔
    0x80 ≤ asi.toNat ∨ isHyper s = true ∨ (isPriv s = true ∧ asi.toNat < 0x30) := by
  simp only [asiPermitted, Bool.or_eq_true, Bool.and_eq_true, decide_eq_true_eq]
  rw [or_comm (a := isHyper s = true), or_assoc]

/-- Settles O41: the accesses of the implicit space begin with their alignment check, those of an alternate space with `requireAsi`
(`alternate_refusals`) or with an eight-byte access (`EightByteRefusals`). -/
theorem accessTraps : Obligations.AccessTraps := by
  intro rd rs1 rs2 s a
  refine ⟨fun op2 ha => ⟨?_, fun hrd hn => ?_⟩, asiPermitted_iff s, fun ea sel asi even fpu heven hfpu => ?_,
    fun ea asi c fpu ha hasi hc hfpu => ?_, fun asi x hrd ha hx => ?_⟩
  · subst ha
    simp only [List.forall_mem_cons]
    exact ⟨refuses_misaligned rfl, refuses_misaligned rfl, refuses_misaligned rfl, refuses_misaligned rfl, refuses_misaligned rfl,
      refuses_misaligned rfl, refuses_misaligned rfl, refuses_misaligned rfl, refuses_misaligned rfl, by simp⟩
  · subst ha
    simp only [List.forall_mem_cons]
    exact ⟨refuses_misaligned (ite_oddRd_of_even hrd _ _) hn, refuses_misaligned (ite_oddRd_of_even hrd _ _) hn, by simp⟩
  · have hrd (h : even = true) : rd.getLsbD 0 = false := by simpa using heven.symm.trans h
    have hen (h : fpu = true) : fpuEnabled s = true := hfpu.symm.trans h
    simp only [List.forall_mem_cons]
    exact ⟨fun _ ha hn => alternate_refusals ha hn rfl, fun _ ha hn => alternate_refusals ha hn rfl,
      fun _ ha hn => alternate_refusals ha hn rfl, fun _ ha hn => alternate_refusals ha hn rfl,
      fun _ ha hn => alternate_refusals ha hn rfl, fun _ ha hn => alternate_refusals ha hn rfl,
      fun _ ha hn => alternate_refusals ha hn rfl, fun _ ha hn => alternate_refusals ha hn rfl,
      fun _ ha hn => alternate_refusals ha hn rfl, fun _ ha hn => alternate_refusals ha hn rfl,
      fun _ ha hn => alternate_refusals ha hn rfl,
      fun h ha hn => alternate_refusals ha hn (ite_oddRd_of_even (hrd h) _ _),
      fun h ha hn => alternate_refusals ha hn (ite_oddRd_of_even (hrd h) _ _),
      fun h ha hn => alternate_refusals ha hn (complete_passed (requireFpuMarking_of (hen h)) _),
      fun h ha hn => alternate_refusals ha hn (complete_passed (requireFpu_of (hen h)) _),
      fun _ ha hn => alternate_refusals ha hn rfl, fun _ ha hn => alternate_refusals ha hn rfl, by simp⟩
  · subst ha hasi hc hfpu
    have haligned (h : (asiAddress s rs1 ea).toNat % 8 = 0) := requireAligned_of (s := s) ((alignedTo_iff _ 8).mpr h)
    have hmis (h : (asiAddress s rs1 ea).toNat % 8 ≠ 0) := requireAligned_not (s := s) ((not_alignedTo_iff _ 8).mpr h)
    simp only [List.forall_mem_cons, Bool.and_eq_true, bne_iff_ne]
    refine ⟨fun _ => ⟨fun hs hn _ => ?_, eightByteRefusals_load (exec_ldxa_eq rd rs1 ea) haligned⟩,
      fun _ => ⟨fun hs hn _ => ?_, eightByteRefusals_store (exec_stxa_eq rd rs1 ea) haligned⟩,
      fun h => ⟨?_, ?_⟩, fun h => ⟨?_, ?_⟩, by simp⟩
    · exact refuses_bind (exec_ldxa_eq rd rs1 ea) (loadAlternate8_align_error hs (hmis hn))
    · exact refuses_bind (exec_stxa_eq rd rs1 ea) (storeAlternate8_align_error hs (hmis hn))
    · rintro - - (h | h) <;> cases h
    · obtain ⟨⟨⟨hp, hf⟩, hb⟩, hs⟩ := h
      exact eightByteRefusals_load (exec_lddfa_eq rd rs1 ea (fpuEnabled_of hp hf) hb hs) requireDouble_of
    · rintro - - (h | h) <;> cases h
    · obtain ⟨⟨⟨⟨hp, hf⟩, hpart⟩, hb⟩, hs⟩ := h
      exact eightByteRefusals_store (exec_stdfa_eq rd rs1 ea (fpuEnabled_of hp hf) hpart hb hs) requireDouble_of
  · subst ha hx
    refine ⟨fun hn => refuses_misaligned (ite_oddRd_of_even hrd _ _) hn, fun hn hp => ?_⟩
    have haligned := requireAligned_of (s := s) ((alignedTo_iff (getR s rs1 + getR s rs2) 16).mpr hn)
    exact refuses_bind ((ite_oddRd_of_even hrd _ _).trans (complete_passed haligned _)) (requirePermitted_denied hp)

end Sys2Proof.Machine

/-! PROOFS. Eight-byte loads and stores of the registers reached through ASIs: what LDXA, LDDFA, STXA and STDFA of one answer once its
address is known, then the scratchpads, the queue registers, the contexts and the partition ID (O37), and the CMT registers and the
MMU registers whose meaning is the platform's (O38). -/

namespace Sys2Proof.Machine

/-! ### One access to a register (rules R345, R841, R851) -/

/-- The operand is the address `b`, as PSTATE.am masks it, of a register ASI that the mode may use, and is a multiple of eight. -/
structure RegisterAccess (s : State) (rs1 : BitVec 5) (ea : AsiOperand) (asi : Byte) (b : DWord) : Prop where
  number : asiNumber s ea = asi
  masked : maskAm s (asiAddress s rs1 ea) = b
  aligned : (asiAddress s rs1 ea).toNat % 8 = 0
  register : asiClass asi = .register
  permitted : asiPermitted s asi = true

section
variable {s : State} {rs1 : BitVec 5} {ea : AsiOperand} {asi : Byte} {b : DWord} (h : RegisterAccess s rs1 ea asi b)
include h

theorem RegisterAccess.ne_special : asiClass (asiNumber s ea) ≠ .partialStore ∧ asiClass (asiNumber s ea) ≠ .block
    ∧ asiClass (asiNumber s ea) ≠ .short := by
  rw [h.number, h.register]; decide

theorem RegisterAccess.aligned_ok : requireAligned s (asiAddress s rs1 ea) 8 = .ok () :=
  requireAligned_of ((alignedTo_iff _ 8).mpr h.aligned)

theorem RegisterAccess.load_some {align : Effect Unit} (ha : align = .ok ()) {v : DWord} (hv : readAsiRegister s asi b = some v) :
    loadAlternate8 s (asiNumber s ea) (asiAddress s rs1 ea) align = .ok (v, s) := by
  rw [h.number, loadAlternate8_register h.register, ha, requirePermitted_of h.permitted, h.masked, hv]; rfl

theorem RegisterAccess.load_none {align : Effect Unit} (ha : align = .ok ()) (hv : readAsiRegister s asi b = none) :
    loadAlternate8 s (asiNumber s ea) (asiAddress s rs1 ea) align = invalidAsi s (asiAddress s rs1 ea) := by
  rw [h.number, loadAlternate8_register h.register, ha, requirePermitted_of h.permitted, h.masked, hv]; rfl

theorem RegisterAccess.exec_lddfa (rd : BitVec 5) (hp : s.pstate.pef = true) (hf : s.fprs.fef = true) :
    exec (.lddfa rd rs1 ea) s = complete
      (loadAlternate8 s (asiNumber s ea) (asiAddress s rs1 ea) (requireLddf s (asiAddress s rs1 ea))
        >>= fun r => .ok (advance (setFD r.2 rd r.1))) := by
  obtain ⟨-, hblock, hshort⟩ := h.ne_special
  exact exec_lddfa_eq rd rs1 ea (fpuEnabled_of hp hf) hblock hshort

/-- A register that may be read: LDXA and LDDFA answer its value. -/
theorem RegisterAccess.reads (rd : BitVec 5) {v : DWord} (hv : readAsiRegister s asi b = some v) :
    ReadsRegister s rd rs1 ea v := by
  refine ⟨⟨_, ?_, resultR_setR s rd v⟩, fun hp hf => ⟨_, ?_, resultFD_setFD s rd v s.fsr⟩⟩
  · rw [exec_ldxa_eq, h.load_some h.aligned_ok hv]; rfl
  · rw [h.exec_lddfa rd hp hf, requireLddf, h.load_some (requireDouble_of h.aligned) hv]; rfl

/-- No register: LDXA and LDDFA take data_access_exception. -/
theorem RegisterAccess.refusesLoads (rd : BitVec 5) (hv : readAsiRegister s asi b = none) :
    RefusesAsi s (.ldxa rd rs1 ea) (asiAddress s rs1 ea)
    ∧ (s.pstate.pef = true → s.fprs.fef = true → RefusesAsi s (.lddfa rd rs1 ea) (asiAddress s rs1 ea)) :=
  ⟨refusesAsi_bind (exec_ldxa_eq rd rs1 ea) (h.load_none h.aligned_ok hv),
    fun hp hf => refusesAsi_bind (h.exec_lddfa rd hp hf) (h.load_none (requireDouble_of h.aligned) hv)⟩

/-- STXA and STDFA of a register are one store. -/
theorem RegisterAccess.exec_store {rd : BitVec 5} {i : Instr} {v : DWord} (hi : StoresRegister s rd rs1 ea i v) :
    exec i s = complete (storeAlternate8 s (asiNumber s ea) (asiAddress s rs1 ea) v (.ok ()) >>= fun t => .ok (advance t)) := by
  obtain ⟨hpartial, hblock, hshort⟩ := h.ne_special
  rcases hi with ⟨rfl, rfl⟩ | ⟨rfl, hp, hf, rfl⟩
  · rw [exec_stxa_eq, h.aligned_ok]
  · rw [exec_stdfa_eq rd rs1 ea (fpuEnabled_of hp hf) hpartial hblock hshort, requireStdf, requireDouble_of h.aligned]

/-- A register that may be written: STXA and STDFA leave the state that the write makes. -/
theorem RegisterAccess.stores {rd : BitVec 5} {i : Instr} {v : DWord} {t : State} (hi : StoresRegister s rd rs1 ea i v)
    (ht : writeAsiRegister s asi b v = some t) : exec i s = .next (advance t) := by
  rw [h.exec_store hi, h.number, storeAlternate8_register h.register, requirePermitted_of h.permitted, h.masked, ht]; rfl

theorem RegisterAccess.refusesStore {rd : BitVec 5} {i : Instr} {v : DWord} (hi : StoresRegister s rd rs1 ea i v)
    (ht : writeAsiRegister s asi b v = none) : RefusesAsi s i (asiAddress s rs1 ea) := by
  refine refusesAsi_bind (h.exec_store hi) ?_
  rw [h.number, storeAlternate8_register h.register, requirePermitted_of h.permitted, h.masked, ht]; rfl

end

/-! ### Which register an address names -/

/-- PSTATE.am masks nothing of an address below 4 Gbytes. -/
theorem maskAm_of_lt (s : State) {a : DWord} (h : a.toNat < 2 ^ 32) : maskAm s a = a := by
  unfold maskAm low32
  split
  · apply BitVec.eq_of_toNat_eq
    simp only [BitVec.toNat_setWidth, BitVec.extractLsb'_toNat, Nat.shiftRight_zero]
    omega
  · rfl

theorem isPriv_of_isHyper {s : State} (h : isHyper s = true) : isPriv s = false := by
  rw [isPriv, show s.hpstate.hpriv = true from h]; rfl

theorem isPriv_of_not_hyper_not_user {s : State} (hh : isHyper s = false) (hu : isUser s = false) : isPriv s = true := by
  have hpriv : s.hpstate.hpriv = false := hh
  rw [isUser, hpriv, Bool.not_false, Bool.true_and, Bool.not_eq_false'] at hu
  rw [isPriv, hpriv, hu]; rfl

theorem asiPermitted_of_hyper {s : State} (h : isHyper s = true) (asi : Byte) : asiPermitted s asi = true :=
  (asiPermitted_iff s asi).mpr (.inr (.inl h))

/-- Privileged software may use the ASIs below 0x30 (rule R340). -/
theorem asiPermitted_of_not_user {s : State} (h : isUser s = false) {asi : Byte} (hasi : asi.toNat < 0x30) :
    asiPermitted s asi = true := by
  refine (asiPermitted_iff s asi).mpr (.inr ?_)
  by_cases hh : isHyper s = true
  · exact .inl hh
  · exact .inr ⟨isPriv_of_not_hyper_not_user (Bool.eq_false_iff.mpr hh) h, hasi⟩

/-- An address below 4 Gbytes. -/
theorem registerAccess_of {s : State} {rs1 : BitVec 5} {ea : AsiOperand} {asi : Byte} {x : DWord} (ha : asiAddress s rs1 ea = x)
    (hx : x.toNat % 8 = 0 ∧ x.toNat < 2 ^ 32) (hasi : asiNumber s ea = asi) (hreg : asiClass asi = .register)
    (hp : asiPermitted s asi = true) : RegisterAccess s rs1 ea asi x := by
  subst ha
  exact ⟨hasi, maskAm_of_lt s hx.2, hx.1, hreg, hp⟩

/-- Scratchpad `k`, of either bank, stands at 8k (rules R356, R357). -/
theorem scratchpadAddress (k : BitVec 3) :
    ((BitVec.ofNat 64 (8 * k.toNat)).toNat % 8 = 0 ∧ (BitVec.ofNat 64 (8 * k.toNat)).toNat < 2 ^ 32)
    ∧ inGroup (BitVec.ofNat 64 (8 * k.toNat)) 0 0x38 = true ∧ groupIndex (BitVec.ofNat 64 (8 * k.toNat)) 0 = k := by
  revert k; decide

/-- Queue register `k` stands at 0x3C0 + 8k; bit 3 of its address tells a tail from a head (rule R1354). -/
theorem queueAddress (k : BitVec 3) :
    ((BitVec.ofNat 64 (0x3C0 + 8 * k.toNat)).toNat % 8 = 0 ∧ (BitVec.ofNat 64 (0x3C0 + 8 * k.toNat)).toNat < 2 ^ 32)
    ∧ inGroup (BitVec.ofNat 64 (0x3C0 + 8 * k.toNat)) 0x3C0 0x3F8 = true
    ∧ groupIndex (BitVec.ofNat 64 (0x3C0 + 8 * k.toNat)) 0x3C0 = k
    ∧ (BitVec.ofNat 64 (0x3C0 + 8 * k.toNat)).getLsbD 3 = k.getLsbD 0 := by
  revert k; decide

section
variable (s : State) (k : BitVec 3) (v : DWord)

theorem readAsiRegister_scratchpad :
    readAsiRegister s 0x20 (BitVec.ofNat 64 (8 * k.toNat)) = some (bankRead s.scratchpad k) := by
  obtain ⟨-, hin, hindex⟩ := scratchpadAddress k
  simp only [readAsiRegister, scratchpadDenied, Config.scratchpad47Priv, hin, hindex, Bool.not_true, Bool.and_false, Bool.false_and]
  rfl

theorem writeAsiRegister_scratchpad : writeAsiRegister s 0x20 (BitVec.ofNat 64 (8 * k.toNat)) v =
    some { s with scratchpad := bankWrite s.scratchpad k v } := by
  obtain ⟨-, hin, hindex⟩ := scratchpadAddress k
  simp only [writeAsiRegister, scratchpadDenied, Config.scratchpad47Priv, hin, hindex, Bool.not_true, Bool.and_false, Bool.false_and]
  rfl

theorem readAsiRegister_hypScratchpad :
    readAsiRegister s 0x4F (BitVec.ofNat 64 (8 * k.toNat)) = some (bankRead s.hypScratchpad k) := by
  obtain ⟨-, hin, hindex⟩ := scratchpadAddress k
  simp only [readAsiRegister, hin, hindex]
  rfl

theorem writeAsiRegister_hypScratchpad : writeAsiRegister s 0x4F (BitVec.ofNat 64 (8 * k.toNat)) v =
    some { s with hypScratchpad := bankWrite s.hypScratchpad k v } := by
  obtain ⟨-, hin, hindex⟩ := scratchpadAddress k
  simp only [writeAsiRegister, hin, hindex]
  rfl

theorem readAsiRegister_queue :
    readAsiRegister s 0x25 (BitVec.ofNat 64 (0x3C0 + 8 * k.toNat)) = some (bankRead s.queues k) := by
  obtain ⟨-, hin, hindex, -⟩ := queueAddress k
  simp only [readAsiRegister, hin, hindex]
  rfl

/-- The tail registers are the odd ones: privileged software may not write them (rule R1354). -/
theorem queueDenied_eq : queueDenied s (BitVec.ofNat 64 (0x3C0 + 8 * k.toNat)) = (isPriv s && k.getLsbD 0) := by
  obtain ⟨-, -, -, hbit⟩ := queueAddress k
  rw [queueDenied, flagAt, hbit, Config.queueTailPrivWritable, Bool.not_false, Bool.and_true]

theorem writeAsiRegister_queue (h : (isPriv s && k.getLsbD 0) = false) :
    writeAsiRegister s 0x25 (BitVec.ofNat 64 (0x3C0 + 8 * k.toNat)) v =
      some { s with queues := bankWrite s.queues k (v &&& (Config.queueRegMaskHigh ++ 0#6)) } := by
  obtain ⟨-, hin, hindex, -⟩ := queueAddress k
  simp only [writeAsiRegister, hin, hindex, queueDenied_eq, h]
  rfl

theorem writeAsiRegister_queue_denied (h : (isPriv s && k.getLsbD 0) = true) :
    writeAsiRegister s 0x25 (BitVec.ofNat 64 (0x3C0 + 8 * k.toNat)) v = none := by
  obtain ⟨-, hin, -, -⟩ := queueAddress k
  simp only [writeAsiRegister, hin, queueDenied_eq, h]
  rfl

end

/-- Settles O37: each register by the equations of `readAsiRegister` and `writeAsiRegister` at its address. -/
theorem asiRegisters : Obligations.AsiRegisters := by
  rintro rd rs1 ea s k i _ v rfl hi huser
  refine ⟨fun ha => ⟨fun hasi => ?_, fun hasi hhyper => ?_⟩, fun ha hasi => ?_, fun hasi => ⟨fun ha => ?_, fun ha => ?_⟩,
    fun hasi hhyper ha => ?_⟩
  · have h := registerAccess_of ha (scratchpadAddress k).1 hasi (by decide) (asiPermitted_of_not_user huser (by decide))
    exact ⟨h.reads rd (readAsiRegister_scratchpad s k), _, h.stores hi (writeAsiRegister_scratchpad s k v), rfl,
      fun j => bankRead_bankWrite s.scratchpad k j v⟩
  · have h := registerAccess_of ha (scratchpadAddress k).1 hasi (by decide) (asiPermitted_of_hyper hhyper _)
    exact ⟨h.reads rd (readAsiRegister_hypScratchpad s k), _, h.stores hi (writeAsiRegister_hypScratchpad s k v), rfl,
      fun j => bankRead_bankWrite s.hypScratchpad k j v⟩
  · have h := registerAccess_of ha (queueAddress k).1 hasi (by decide) (asiPermitted_of_not_user huser (by decide))
    refine ⟨h.reads rd (readAsiRegister_queue s k), fun hwritable => ?_, fun hhyper htail => ?_⟩
    · have hallowed : (isPriv s && k.getLsbD 0) = false := Bool.and_eq_false_iff.mpr (hwritable.imp_left isPriv_of_isHyper)
      exact ⟨_, h.stores hi (writeAsiRegister_queue s k v hallowed), rfl, fun j => bankRead_bankWrite s.queues k j _⟩
    · exact h.refusesStore hi (writeAsiRegister_queue_denied s k v (by rw [isPriv_of_not_hyper_not_user hhyper huser, htail]; rfl))
  · have h := registerAccess_of ha (by decide) hasi (by decide) (asiPermitted_of_not_user huser (by decide))
    exact ⟨h.reads rd rfl, _, h.stores hi rfl, rfl⟩
  · have h := registerAccess_of ha (by decide) hasi (by decide) (asiPermitted_of_not_user huser (by decide))
    exact ⟨h.reads rd rfl, _, h.stores hi rfl, rfl⟩
  · have h := registerAccess_of ha (by decide) hasi (by decide) (asiPermitted_of_hyper hhyper _)
    exact ⟨h.reads rd rfl, _, h.stores hi rfl, rfl⟩

end Sys2Proof.Machine

/-! PROOFS. The CMT registers, and the MMU registers outside the TLBs whose meaning is the platform's, in hyperprivileged mode (O38). -/

namespace Sys2Proof.Machine

/-! ### CMT registers that are written (rules R1403, R1406, R1408, R1412) -/

/-- What STRAND_ENABLE may hold after a store (rule R1406). -/
theorem enableAfter_spec (h : Chip) (v : DWord) :
    (v &&& h.available ≠ 0 → enableAfter h v = v &&& h.available)
    ∧ (v &&& h.available = 0 → Config.enableZeroGuard = false → enableAfter h v = 0)
    ∧ (v &&& h.available = 0 → Config.enableZeroGuard = true → enableAfter h v &&& ~~~h.available = 0
      ∧ (h.available ≠ 0 → enableAfter h v ≠ 0)) := by
  refine ⟨fun hv => ?_, fun hv hg => ?_, fun hv hg => ?_⟩
  · rw [enableAfter, if_neg hv]
  · rw [enableAfter, if_pos hv, hg]; rfl
  · rw [enableAfter, if_pos hv, hg, if_pos rfl]
    exact enableZeroValue_spec h

/-- A register of which some bits are writable and the others keep their value. -/
theorem getLsbD_masked_write (old v writable allowed : DWord) {n : Nat} (hn : n < 64) :
    ((old &&& ~~~writable) ||| (v &&& writable &&& allowed)).getLsbD n =
      if writable.getLsbD n = true then v.getLsbD n && allowed.getLsbD n else old.getLsbD n := by
  simp only [BitVec.getLsbD_or, BitVec.getLsbD_and, BitVec.getLsbD_not, hn, decide_true, Bool.true_and]
  cases writable.getLsbD n <;> simp

/-- A store to STRAND_RUNNING that would park every strand is dropped. -/
theorem setRunning_none {c : Cmt} {new : DWord} (h : new &&& c.enableStatus = 0) : setRunning c new = c := by
  rw [setRunning, if_pos h]

/-- STRAND_RUNNING_STATUS follows at once: SKID_MAX is 0 (rule R1409). -/
theorem setRunning_some {c : Cmt} {new : DWord} (h : new &&& c.enableStatus ≠ 0) :
    setRunning c new = { c with running := new &&& c.enableStatus, runningStatus := new &&& c.enableStatus } := by
  rw [setRunning, if_neg h, statusAfter_eq]

/-- Every bit of the interrupt ID is writable by default (rule R1403). -/
theorem intrId_written (old new : BitVec 16) :
    (old &&& ~~~Config.intrIdWritableMask) ||| (new &&& Config.intrIdWritableMask) = new := by
  rw [show Config.intrIdWritableMask = BitVec.allOnes 16 from rfl, BitVec.not_allOnes, BitVec.and_zero, BitVec.and_allOnes,
    BitVec.zero_or]

/-! ### STRAND_ID (rule R1402) -/

/-- A six-bit value placed at bit `p`: its own bits there, and no other bit. -/
theorem getLsbD_field {v : DWord} (hv : v.toNat < 64) (p : Fin 59) (n : Nat) :
    (v <<< p.val).getLsbD n = (decide (p.val ≤ n ∧ n < p.val + 6) && v.getLsbD (n - p.val)) := by
  have hp := p.isLt
  rw [BitVec.getLsbD_shiftLeft]
  by_cases hlow : p.val ≤ n
  · by_cases hhigh : n < p.val + 6
    · simp [hlow, hhigh, show n < 64 by omega, show ¬ n < p.val by omega]
    · have hbit : v.getLsbD (n - p.val) = false := by
        refine Nat.testBit_lt_two_pow (lt_of_lt_of_le hv ?_)
        exact (by decide : 64 = 2 ^ 6) ▸ Nat.pow_le_pow_right (by decide) (by omega)
      simp [hbit]
  · simp [hlow, show n < p.val by omega]

/-- The field at `p` of a register that holds `v` there and other fields apart from it. -/
theorem extract_field {x v : DWord} {p : Fin 59} (hv : v.toNat < 64)
    (hx : ∀ n, p.val ≤ n → n < p.val + 6 → x.getLsbD n = (v <<< p.val).getLsbD n) : x.extractLsb' p.val 6 = v.setWidth 6 := by
  refine BitVec.eq_of_getLsbD_eq fun n hn => ?_
  rw [BitVec.getLsbD_extractLsb', hx _ (by omega) (by omega), getLsbD_field hv, BitVec.getLsbD_setWidth]
  simp [hn]

theorem highestIndex_lt (v : DWord) : highestIndex v < 64 := by unfold highestIndex; omega

/-- The bit that is set and has no higher one. -/
theorem highestIndex_eq {v : DWord} {m : Nat} (hm : v.getLsbD m = true) (hhigh : ∀ k, m < k → v.getLsbD k = false) :
    highestIndex v = m := by
  have hlt : m < 64 := BitVec.lt_of_getLsbD hm
  have hfind : (List.range 64).findIdx (fun n => v.getLsbD (63 - n)) = 63 - m := by
    rw [List.findIdx_eq (by rw [List.length_range]; omega)]
    refine ⟨?_, fun j hj => ?_⟩
    · rw [List.getElem_range, show 63 - (63 - m) = m by omega, hm]
    · rw [List.getElem_range]
      exact hhigh _ (by omega)
  rw [highestIndex, hfind]
  omega

theorem fieldsApart_iff (p q : Fin 59) : fieldsApart p q = true ↔ p.val + 6 ≤ q.val ∨ q.val + 6 ≤ p.val := by
  simp [fieldsApart]

/-- STRAND_ID holds its three fields and nothing else, since they are disjoint. -/
theorem isStrandId_strandIdBits {c : Chip} (h : chipLegal c = true) : IsStrandId c (strandIdBits c) := by
  have hown : (c.strand.setWidth 64).toNat < 64 := by rw [BitVec.toNat_setWidth]; have := c.strand.isLt; omega
  have hmax : (BitVec.ofNat 64 (highestIndex c.available)).toNat < 64 := by
    rw [BitVec.toNat_ofNat]; have := highestIndex_lt c.available; omega
  have hcore : (c.maxStrandIdPerCore.setWidth 64).toNat < 64 := by
    rw [BitVec.toNat_setWidth]; have := c.maxStrandIdPerCore.isLt; omega
  have hbits (n : Nat) : (strandIdBits c).getLsbD n =
      ((c.strand.setWidth 64 <<< c.layout.strandId.val).getLsbD n
        || (BitVec.ofNat 64 (highestIndex c.available) <<< c.layout.maxStrandId.val).getLsbD n
        || (c.maxStrandIdPerCore.setWidth 64 <<< c.layout.maxStrandIdPerCore.val).getLsbD n) := by
    rw [strandIdBits, BitVec.getLsbD_or, BitVec.getLsbD_or]
  have outside {v : DWord} (hv : v.toNat < 64) (p : Fin 59) {n : Nat} (hn : n < p.val ∨ p.val + 6 ≤ n) :
      (v <<< p.val).getLsbD n = false := by
    rw [getLsbD_field hv, decide_eq_false (by omega), Bool.false_and]
  simp only [chipLegal, layoutLegal, Bool.and_eq_true, fieldsApart_iff] at h
  obtain ⟨-, ⟨h12, h13⟩, h23⟩ := h
  refine ⟨?_, fun m hm hhigh => ?_, ?_, fun n hn => ?_⟩
  · rw [extract_field hown fun n hlo hhi => ?_, BitVec.setWidth_setWidth_of_le _ (by decide), BitVec.setWidth_eq]
    rw [hbits, outside hmax _ (by omega), outside hcore _ (by omega), Bool.or_false, Bool.or_false]
  · rw [extract_field hmax fun n hlo hhi => ?_, highestIndex_eq hm hhigh, BitVec.toNat_setWidth, BitVec.toNat_ofNat]
    · have := BitVec.lt_of_getLsbD hm
      omega
    · rw [hbits, outside hown _ (by omega), outside hcore _ (by omega), Bool.or_false, Bool.false_or]
  · rw [extract_field hcore fun n hlo hhi => ?_, BitVec.setWidth_setWidth_of_le _ (by decide), BitVec.setWidth_eq]
    rw [hbits, outside hown _ (by omega), outside hmax _ (by omega), Bool.or_false, Bool.false_or]
  · simp only [List.forall_mem_cons] at hn
    obtain ⟨hown', hmax', hcore', -⟩ := hn
    rw [hbits, outside hown _ hown', outside hmax _ hmax', outside hcore _ hcore']; rfl

/-! ### The MMU registers whose meaning is the platform's (rule R1382) -/

/-- The ASIs of the MMU registers that rule R1382 does not fix. -/
def platformAsis : List Byte := [0x50, 0x52, 0x54, 0x55, 0x56, 0x57, 0x58, 0x5C, 0x5D, 0x5E, 0x5F]

/-- Such a register has an ASI of its own, and is none of those the rules fix: DSFAR and the partition ID. -/
structure PlatformAddress (asi : Byte) (va : DWord) : Prop where
  asi_mem : asi ∈ platformAsis
  not_fixed : asi = 0x58 → va ≠ 0x20 ∧ va ≠ 0x80

theorem platformAddress_of_readWrite {asi : Byte} {va : DWord} (h : mmuReadWrite asi va = true) : PlatformAddress asi va := by
  unfold mmuReadWrite at h
  split_ifs at h with h50 h52 h54 h55 h58
  · exact ⟨by subst h50; decide, by rintro rfl; cases h50⟩
  · exact ⟨by subst h52; decide, by rintro rfl; cases h52⟩
  · exact ⟨by subst h54; decide, by rintro rfl; cases h54⟩
  · simp only [Bool.or_eq_true, decide_eq_true_eq] at h55
    rcases h55 with rfl | rfl <;> exact ⟨by decide, by rintro ⟨⟩⟩
  · subst h58
    simp only [Bool.or_eq_true, beq_iff_eq] at h
    rcases h with ((rfl | rfl) | rfl) | rfl <;> exact ⟨by decide, by decide⟩

theorem platformAddress_of_readOnly {asi : Byte} {va : DWord} (h : mmuReadOnly asi va = true) : PlatformAddress asi va := by
  unfold mmuReadOnly at h
  split_ifs at h with htarget htag
  · simp only [Bool.or_eq_true, decide_eq_true_eq] at htarget
    rw [beq_iff_eq] at h
    subst h
    rcases htarget with rfl | rfl <;> exact ⟨by decide, by decide⟩
  · simp only [Bool.or_eq_true, decide_eq_true_eq] at htag
    rcases htag with rfl | rfl <;> exact ⟨by decide, by rintro ⟨⟩⟩

theorem platformAddress_of_writeOnly {asi : Byte} {va : DWord} (h : mmuWriteOnly asi va = true) : PlatformAddress asi va := by
  unfold mmuWriteOnly at h
  split_ifs at h with hasi
  simp only [Bool.or_eq_true, decide_eq_true_eq] at hasi
  rcases hasi with ((rfl | rfl) | rfl) | rfl <;> exact ⟨by decide, by rintro ⟨⟩⟩

theorem PlatformAddress.register {asi : Byte} {va : DWord} (h : PlatformAddress asi va) : asiClass asi = .register :=
  (by decide : ∀ x ∈ platformAsis, asiClass x = .register) asi h.asi_mem

/-- The other register ASIs. -/
theorem PlatformAddress.asi_ne {asi : Byte} {va : DWord} (h : PlatformAddress asi va) :
    asi ≠ 0x20 ∧ asi ≠ 0x21 ∧ asi ≠ 0x25 ∧ asi ≠ 0x41 ∧ asi ≠ 0x4F ∧ asi ≠ 0x63 :=
  (by decide : ∀ x ∈ platformAsis, x ≠ 0x20 ∧ x ≠ 0x21 ∧ x ≠ 0x25 ∧ x ≠ 0x41 ∧ x ≠ 0x4F ∧ x ≠ 0x63) asi h.asi_mem

/-- A load of such a register asks the platform. -/
theorem readAsiRegister_platform {s : State} {asi : Byte} {va : DWord}
    (h : mmuReadWrite asi va = true ∨ mmuReadOnly asi va = true) : readAsiRegister s asi va = Config.mmuLdxa s.mmu asi va := by
  have haddress : PlatformAddress asi va := h.elim platformAddress_of_readWrite platformAddress_of_readOnly
  obtain ⟨h20, h21, h25, h41, h4F, h63⟩ := haddress.asi_ne
  have hplatform : (mmuReadWrite asi va || mmuReadOnly asi va) = true := (Bool.or_eq_true _ _).mpr h
  have hfar : (decide (asi = 0x58) && decide (va = 0x20)) = false := by
    simpa using fun e => (haddress.not_fixed e).1
  have hpid : (decide (asi = 0x58) && decide (va = 0x80)) = false := by
    simpa using fun e => (haddress.not_fixed e).2
  simp only [readAsiRegister, mmuRead, h20, h21, h25, h41, h4F, h63, hplatform, hfar, hpid]; rfl

/-- A store to such a register is what the platform makes of it. -/
theorem writeAsiRegister_platform {s : State} {asi : Byte} {va v : DWord}
    (h : mmuReadWrite asi va = true ∨ mmuWriteOnly asi va = true) :
    writeAsiRegister s asi va v = (Config.mmuStxa s.mmu asi va v).map fun n => { s with mmu := n.val } := by
  have haddress : PlatformAddress asi va := h.elim platformAddress_of_readWrite platformAddress_of_writeOnly
  obtain ⟨h20, h21, h25, h41, h4F, h63⟩ := haddress.asi_ne
  have hplatform : (mmuReadWrite asi va || mmuWriteOnly asi va) = true := (Bool.or_eq_true _ _).mpr h
  have hpid : (decide (asi = 0x58) && decide (va = 0x80)) = false := by
    simpa using fun e => (haddress.not_fixed e).2
  simp only [writeAsiRegister, mmuWrite, h20, h21, h25, h41, h4F, h63, hplatform, hpid]
  cases Config.mmuStxa s.mmu asi va v <;> rfl

/-- The MMU registers outside the TLBs that are both read and written, found by their addresses. -/
theorem mmuReadWrite_of_registerAt {asi : Byte} {va : DWord} (h : RegisterAt platformRegisters asi va) (hva : va.toNat % 8 = 0) :
    mmuReadWrite asi va = true := by
  obtain ⟨p, hp, rfl, hlo, hhi⟩ := h
  simp only [platformRegisters, List.mem_cons, List.not_mem_nil, or_false] at hp
  rcases hp with rfl | rfl | rfl | rfl | rfl | rfl | rfl
  · rw [BitVec.eq_of_toNat_eq (y := 0x18) (le_antisymm hhi hlo)]; rfl
  · rw [BitVec.eq_of_toNat_eq (y := 0x30) (le_antisymm hhi hlo)]; rfl
  · rw [mmuReadWrite, if_neg (by decide), if_pos rfl, (inGroup_iff va 0x108 0x120).mpr ⟨hlo, hhi, hva⟩, Bool.true_or]
  · rw [mmuReadWrite, if_neg (by decide), if_pos rfl, (inGroup_iff va 0x208 0x220).mpr ⟨hlo, hhi, hva⟩, Bool.or_true]
  · rw [mmuReadWrite, if_neg (by decide), if_neg (by decide), if_pos rfl]
    exact (inGroup_iff va 0x10 0x98).mpr ⟨hlo, hhi, hva⟩
  · rw [BitVec.eq_of_toNat_eq (y := 0x18) (le_antisymm hhi hlo)]; rfl
  · have hthree : va.toNat = 0x30 ∨ va.toNat = 0x38 ∨ va.toNat = 0x40 := by simp only at hlo hhi; omega
    rcases hthree with h | h | h
    · rw [BitVec.eq_of_toNat_eq (y := 0x30) h]; rfl
    · rw [BitVec.eq_of_toNat_eq (y := 0x38) h]; rfl
    · rw [BitVec.eq_of_toNat_eq (y := 0x40) h]; rfl

section
variable {s : State} {rs1 : BitVec 5} {ea : AsiOperand} {asi : Byte} {b : DWord} (h : RegisterAccess s rs1 ea asi b)
include h

theorem RegisterAccess.readsPlatform (rd : BitVec 5) (hb : mmuReadWrite asi b = true ∨ mmuReadOnly asi b = true) :
    ReadsPlatform s rd rs1 ea b := by
  have hread := readAsiRegister_platform (s := s) hb
  unfold ReadsPlatform
  rw [h.number]
  cases hv : Config.mmuLdxa s.mmu asi b with
  | some x => exact h.reads rd (hread.trans hv)
  | none => exact h.refusesLoads rd (hread.trans hv)

/-- What such a store leaves, with what the constraints of rule R1382 say of the TLBs. -/
theorem RegisterAccess.storesPlatform {rd : BitVec 5} {i : Instr} {v : DWord} {tlbs : Mmu → Prop} (hi : StoresRegister s rd rs1 ea i v)
    (hb : mmuReadWrite asi b = true ∨ mmuWriteOnly asi b = true) (htlbs : ∀ n, MmuStxaLawful s.mmu asi b v n → tlbs n) :
    StoresPlatform s i asi (asiAddress s rs1 ea) b v tlbs := by
  have hwrite := writeAsiRegister_platform (s := s) (v := v) hb
  unfold StoresPlatform
  cases hn : Config.mmuStxa s.mmu asi b v with
  | some n => exact ⟨⟨_, h.stores hi (by rw [hwrite, hn]; rfl), rfl⟩, htlbs n.val n.property⟩
  | none => exact h.refusesStore hi (by rw [hwrite, hn]; rfl)

/-- A store to STRAND_RUNNING, as its address reads the value (rule R1408). -/
theorem RegisterAccess.storesRunning {rd : BitVec 5} {i : Instr} {v new : DWord} (hi : StoresRegister s rd rs1 ea i v)
    (hw : writeAsiRegister s asi b v = some { s with cmt := setRunning s.cmt new }) (r : DWord) (hr : r = new &&& s.cmt.enableStatus) :
    ∃ t, exec i s = .next t ∧ (r = 0 → t = advance s)
      ∧ (r ≠ 0 → t = advance { s with cmt := { s.cmt with running := r, runningStatus := r } }) := by
  subst hr
  refine ⟨_, h.stores hi hw, fun hzero => ?_, fun hsome => ?_⟩
  · rw [setRunning_none hzero]
  · rw [setRunning_some hsome]

end

/-- Settles O38: each CMT register at its address, and the registers of the platform by `readsPlatform` and `storesPlatform`. -/
theorem cmtAndMmuRegisters : Obligations.CmtAndMmuRegisters := by
  rintro rd rs1 ea s i _ _ v rfl rfl hi hhyper
  have access {asi : Byte} (hreg : asiClass asi = .register) (hasi : asiNumber s ea = asi) {x : DWord}
      (hx : x.toNat % 8 = 0 ∧ x.toNat < 2 ^ 32) (ha : asiAddress s rs1 ea = x) : RegisterAccess s rs1 ea asi x :=
    registerAccess_of ha hx hasi hreg (asiPermitted_of_hyper hhyper asi)
  refine ⟨fun hasi => ?_, fun hasi => ?_, fun ha hb => ?_, fun ha hasi => ?_, fun ha hasi => ?_⟩
  · have at41 {x : DWord} := access (asi := 0x41) (by decide) hasi (x := x)
    refine ⟨?_, fun ha => ?_, fun ha => ?_, ?_⟩
    · simp only [List.forall_mem_cons]
      exact ⟨fun ha => (at41 (by decide) ha).reads rd rfl, fun ha => (at41 (by decide) ha).reads rd rfl,
        fun ha => (at41 (by decide) ha).reads rd rfl, fun ha => (at41 (by decide) ha).reads rd rfl,
        fun ha => (at41 (by decide) ha).reads rd rfl, fun ha => (at41 (by decide) ha).reads rd rfl, by simp⟩
    · exact ⟨_, (at41 (by decide) ha).stores hi rfl, rfl, enableAfter_spec s.chip v⟩
    · exact ⟨_, (at41 (by decide) ha).stores hi rfl, rfl, fun n hn => getLsbD_masked_write _ _ _ _ hn⟩
    · simp only [List.forall_mem_cons]
      exact ⟨fun ha => (at41 (by decide) ha).storesRunning hi rfl, fun ha => (at41 (by decide) ha).storesRunning hi rfl,
        fun ha => (at41 (by decide) ha).storesRunning hi rfl, by simp⟩
  · have at63 {x : DWord} := access (asi := 0x63) (by decide) hasi (x := x)
    refine ⟨fun ha => ?_, fun ha => ⟨_, (at63 (by decide) ha).reads rd rfl, isStrandId_strandIdBits⟩⟩
    refine ⟨(at63 (by decide) ha).reads rd rfl, _, (at63 (by decide) ha).stores hi rfl, ?_⟩
    rw [intrId_written]
  · have hrw := mmuReadWrite_of_registerAt hb ((maskAm_mod_eight s _).trans ha)
    have h : RegisterAccess s rs1 ea (asiNumber s ea) (maskAm s (asiAddress s rs1 ea)) :=
      ⟨rfl, rfl, ha, (platformAddress_of_readWrite hrw).register, asiPermitted_of_hyper hhyper _⟩
    exact ⟨h.readsPlatform rd (.inl hrw),
      h.storesPlatform hi (.inl hrw) fun n hn => ⟨hn.1.installsLawfully, hn.2.1.installsLawfully⟩⟩
  · rcases hasi with hasi | hasi
    · exact (access (by decide) hasi (by decide) ha).readsPlatform rd (.inr rfl)
    · exact (access (by decide) hasi (by decide) ha).readsPlatform rd (.inr rfl)
  · exact (access (by decide) hasi (by decide) ha).reads rd rfl

end Sys2Proof.Machine

/-! PROOFS. The words that are no instruction: the trap a reject leads to, the reserved bits 12:5 of a register form (O3), and which
words name an unassigned FPop (O6). -/

namespace Sys2Proof.Machine

/-! ### Running a word that decodes to nothing (rules R431, R1056) -/

theorem runWord_of_decode_error {s : State} {w : Word} {r : Reject} (h : decode w = .error r) : runWord s w = runReject s r := by
  rw [runWord, if_neg (by simp [breakpointHit, Config.instrBreakpoint]), h]

theorem runReject_illegalInstruction (s : State) {r : Reject} (h : r ≠ .unassignedFPop) :
    runReject s r = .next (takeTrap s .illegalInstruction) := by
  cases r with
  | unassignedFPop => exact absurd rfl h
  | reservedOpcode | reservedBits | illegalField => rfl

theorem runWord_illegalInstruction (s : State) {w : Word} {r : Reject} (h : decode w = .error r) (hr : r ≠ .unassignedFPop) :
    runWord s w = .next (takeTrap s .illegalInstruction) :=
  (runWord_of_decode_error h).trans (runReject_illegalInstruction s hr)

/-! ### Reserved bits of a register form (rule R432) -/

/-- The decoder names an instruction whose reserved field is not zero. -/
def RejectsReserved (d : Decoded) : Prop := ∃ m, d = .error (.reservedBits m)

theorem RejectsReserved.runWord {w : Word} (h : RejectsReserved (decode w)) (s : State) :
    runWord s w = .next (takeTrap s .illegalInstruction) := by
  obtain ⟨m, hm⟩ := h
  exact runWord_illegalInstruction s hm (by simp)

theorem rejectsReserved_ite {p : Prop} [Decidable p] {a b : Decoded} (ha : RejectsReserved a) (hb : RejectsReserved b) :
    RejectsReserved (if p then a else b) := by
  split
  · exact ha
  · exact hb

theorem decSrc2_eq_none {low : BitVec 14} (hi : low.extractLsb' 13 1 = 0) (hr : low.extractLsb' 5 8 ≠ 0) : decSrc2 low = none := by
  rw [decSrc2, if_neg (by rw [hi]; decide), if_neg hr]

section
variable {low : BitVec 14}

theorem rejectsReserved_withSrc2 (h : decSrc2 low = none) (name : String) (k : RegOrImm13 → Instr) :
    RejectsReserved (withSrc2 name low k) := ⟨name, by rw [withSrc2, h]; rfl⟩

/-- The FSR loads and stores (rule R443): two instructions share the opcode, at `rd` 0 and 1, and no other `rd` names one. -/
theorem decodeMem_fsr {op3 : BitVec 6} (hop : op3 ∈ ([0x21, 0x25] : List (BitVec 6))) (rs1 : BitVec 5) :
    ∃ n0 n1 k0 k1, ∀ rd : BitVec 5, decodeMem rd op3 rs1 low =
      if rd = 0 then withSrc2 n0 low k0 else if rd = 1 then withSrc2 n1 low k1 else .error (.illegalField n1) := by
  revert op3
  simp only [List.forall_mem_cons]
  exact ⟨⟨_, _, _, _, fun _ => rfl⟩, ⟨_, _, _, _, fun _ => rfl⟩, by simp⟩

theorem rejectsReserved_decodeMem_fsr (h : decSrc2 low = none) {op3 : BitVec 6} (hop : op3 ∈ ([0x21, 0x25] : List (BitVec 6)))
    {rd : BitVec 5} (hrd : rd.toNat < 2) (rs1 : BitVec 5) : RejectsReserved (decodeMem rd op3 rs1 low) := by
  obtain ⟨n0, n1, k0, k1, hd⟩ := decodeMem_fsr (low := low) hop rs1
  rw [hd]
  by_cases h0 : rd = 0
  · rw [if_pos h0]
    exact rejectsReserved_withSrc2 h n0 k0
  · rw [if_neg h0, if_pos (by bv_omega)]
    exact rejectsReserved_withSrc2 h n1 k1

theorem decodeMem_fsr_illegalField {op3 : BitVec 6} (hop : op3 ∈ ([0x21, 0x25] : List (BitVec 6))) {rd : BitVec 5}
    (hrd : 2 ≤ rd.toNat) (rs1 : BitVec 5) : ∃ m, decodeMem rd op3 rs1 low = .error (.illegalField m) := by
  obtain ⟨n0, n1, k0, k1, hd⟩ := decodeMem_fsr (low := low) hop rs1
  exact ⟨n1, by rw [hd, if_neg (by bv_omega), if_neg (by bv_omega)]⟩

end

/-- Settles O3: every opcode of the two lists decodes by `withSrc2`, POPC and FLUSH once the register field they reserve besides is
zero; the FSR opcodes do so where `rd` names an instruction. -/
theorem reservedBitsRejected : Obligations.ReservedBitsRejected := by
  intro rd rs1 low s hi hr
  have h := decSrc2_eq_none hi hr
  have arith {op3 : BitVec 6} (hd : RejectsReserved (decodeArith rd op3 rs1 low)) :
      RejectsReserved (decode (enc3 2 rd op3 rs1 low))
        ∧ runWord s (enc3 2 rd op3 rs1 low) = .next (takeTrap s .illegalInstruction) := by
    rw [← Laws.decode_arith] at hd
    exact ⟨hd, hd.runWord s⟩
  have mem {op3 : BitVec 6} (hd : RejectsReserved (decodeMem rd op3 rs1 low)) :
      RejectsReserved (decode (enc3 3 rd op3 rs1 low))
        ∧ runWord s (enc3 3 rd op3 rs1 low) = .next (takeTrap s .illegalInstruction) := by
    rw [← Laws.decode_mem] at hd
    exact ⟨hd, hd.runWord s⟩
  have src2 {d : Decoded} {name : String} {k : RegOrImm13 → Instr} (hd : d = withSrc2 name low k) : RejectsReserved d :=
    hd ▸ rejectsReserved_withSrc2 h name k
  have guarded {d : Decoded} {p : Prop} [Decidable p] {name : String} {k : RegOrImm13 → Instr}
      (hd : d = if p then withSrc2 name low k else .error (.reservedBits name)) : RejectsReserved d :=
    hd ▸ rejectsReserved_ite (src2 rfl) ⟨name, rfl⟩
  refine ⟨?_, fun op3 hop => ?_, ?_⟩
  -- The runs of `withSrc2` opcodes stop at POPC and at FLUSH.
  · repeat refine List.forall_mem_cons.mpr ⟨arith (src2 rfl), ?_⟩
    refine List.forall_mem_cons.mpr ⟨arith (op3 := 0x2e) (guarded rfl), ?_⟩
    repeat refine List.forall_mem_cons.mpr ⟨arith (src2 rfl), ?_⟩
    refine List.forall_mem_cons.mpr ⟨arith (op3 := 0x3b) (guarded rfl), ?_⟩
    repeat refine List.forall_mem_cons.mpr ⟨arith (src2 rfl), ?_⟩
    exact List.forall_mem_nil _
  · by_cases hrd : rd.toNat < 2
    · obtain ⟨hd, hrun⟩ := mem (rejectsReserved_decodeMem_fsr h hop hrd rs1)
      exact ⟨fun _ => hd, fun hge => by omega, hrun⟩
    · obtain ⟨m, hd⟩ := decodeMem_fsr_illegalField (low := low) hop (Nat.le_of_not_lt hrd) rs1
      rw [← Laws.decode_mem] at hd
      exact ⟨fun hlt => absurd hlt hrd, fun _ => ⟨m, hd⟩, runWord_illegalInstruction s hd (by simp)⟩
  · repeat refine List.forall_mem_cons.mpr ⟨mem (src2 rfl), ?_⟩
    exact List.forall_mem_nil _

/-! ### Unassigned FPops (rules R447, R448) -/

/-- The decoder's answer is an FPop whose `opf` is unassigned. -/
def NamesUnassignedFPop (d : Decoded) : Prop := d = .error .unassignedFPop

/-! The lemmas below push the predicate through the tests of a decoder, down to its answers. -/

@[simp] theorem namesUnassignedFPop_ite (p : Prop) [Decidable p] (a b : Decoded) :
    NamesUnassignedFPop (if p then a else b) ↔ if p then NamesUnassignedFPop a else NamesUnassignedFPop b := by
  split <;> rfl

@[simp] theorem namesUnassignedFPop_ok (i : Instr) : ¬NamesUnassignedFPop (.ok i) := nofun

@[simp] theorem namesUnassignedFPop_error (r : Reject) : NamesUnassignedFPop (.error r) ↔ r = .unassignedFPop := by
  simp [NamesUnassignedFPop]

@[simp] theorem namesUnassignedFPop_whenZero (name : String) (zero : Bool) (i : Instr) :
    ¬NamesUnassignedFPop (whenZero name zero i) := by
  simp [whenZero]

@[simp] theorem namesUnassignedFPop_orReject {α : Type} (r : Reject) (x : Option α) (k : α → Instr) :
    NamesUnassignedFPop (orReject r x k) ↔ x = none ∧ r = .unassignedFPop := by
  cases x <;> simp [orReject]

@[simp] theorem namesUnassignedFPop_withSrc2 (name : String) (low : BitVec 14) (k : RegOrImm13 → Instr) :
    ¬NamesUnassignedFPop (withSrc2 name low k) := by
  simp [withSrc2]

/-! The decoders of the other groups never answer it. -/

@[simp] theorem namesUnassignedFPop_decodeBicc (a cond disp) : ¬NamesUnassignedFPop (decodeBicc a cond disp) := by
  simp [decodeBicc]

@[simp] theorem namesUnassignedFPop_decodeFbfcc (a cond disp) : ¬NamesUnassignedFPop (decodeFbfcc a cond disp) := by
  simp [decodeFbfcc]

@[simp] theorem namesUnassignedFPop_decodeBpcc (a cond cc p disp) : ¬NamesUnassignedFPop (decodeBpcc a cond cc p disp) := by
  unfold decodeBpcc
  cases decIcc cc <;> simp

@[simp] theorem namesUnassignedFPop_decodeFbpfcc (a cond cc p disp) : ¬NamesUnassignedFPop (decodeFbpfcc a cond cc p disp) := by
  simp [decodeFbpfcc]

@[simp] theorem namesUnassignedFPop_decodeBpr (a b28 rcond p rs1 disp) :
    ¬NamesUnassignedFPop (decodeBpr a b28 rcond p rs1 disp) := by
  simp [decodeBpr]

@[simp] theorem namesUnassignedFPop_decodeFmt2 (top op2 low) : ¬NamesUnassignedFPop (decodeFmt2 top op2 low) := by
  simp [decodeFmt2]

@[simp] theorem namesUnassignedFPop_decodeMovcc (rd cc2 cond low) : ¬NamesUnassignedFPop (decodeMovcc rd cc2 cond low) := by
  unfold decodeMovcc
  cases decMovccSrc low with
  | none => simp
  | some op2 => cases decIcc (low.extractLsb' 11 2) <;> simp

@[simp] theorem namesUnassignedFPop_decodeMovr (rd rs1 low) : ¬NamesUnassignedFPop (decodeMovr rd rs1 low) := by
  unfold decodeMovr
  cases decMovrSrc low <;> simp

@[simp] theorem namesUnassignedFPop_decodeTcc (b29 cond rs1 low) : ¬NamesUnassignedFPop (decodeTcc b29 cond rs1 low) := by
  unfold decodeTcc
  cases decTrapOperand low with
  | none => simp
  | some op2 => cases decIcc (low.extractLsb' 11 2) <;> simp

@[simp] theorem namesUnassignedFPop_decodeRdasr (rd rs1 low) : ¬NamesUnassignedFPop (decodeRdasr rd rs1 low) := by
  simp [decodeRdasr]

@[simp] theorem namesUnassignedFPop_decodeWrasr (rd rs1 low) : ¬NamesUnassignedFPop (decodeWrasr rd rs1 low) := by
  simp [decodeWrasr]

@[simp] theorem namesUnassignedFPop_decodeWindow (fcn rs1 low) : ¬NamesUnassignedFPop (decodeWindow fcn rs1 low) := by
  simp [decodeWindow]

@[simp] theorem namesUnassignedFPop_decodeVis (rd rs1 opf rs2) : ¬NamesUnassignedFPop (decodeVis rd rs1 opf rs2) := by
  simp [decodeVis]

@[simp] theorem namesUnassignedFPop_decodeMem (rd op3 rs1 low) : ¬NamesUnassignedFPop (decodeMem rd op3 rs1 low) := by
  unfold decodeMem
  cases decAsi low <;> simp

/-! The two FPop groups. An assigned pattern with a reserved field is illegal, not unassigned. -/

@[simp] theorem namesUnassignedFPop_decodeFmovcc (rd rs1 opfcc low6 rs2) :
    ¬NamesUnassignedFPop (decodeFmovcc rd rs1 opfcc low6 rs2) := by
  simp [decodeFmovcc]

@[simp] theorem namesUnassignedFPop_decodeFmovr (rd rs1 opf rs2) : ¬NamesUnassignedFPop (decodeFmovr rd rs1 opf rs2) := by
  simp [decodeFmovr]

/-- The list is in numeric order, the decoder's tests are in the order of the opcode map: `grind` matches them. -/
theorem namesUnassignedFPop_decodeFPop1 (rd rs1 : BitVec 5) (opf : BitVec 9) (rs2 : BitVec 5) :
    NamesUnassignedFPop (decodeFPop1 rd rs1 opf rs2) ↔
      opf ∉ ([0x001, 0x002, 0x003, 0x005, 0x006, 0x007, 0x009, 0x00A, 0x00B, 0x029, 0x02A, 0x02B, 0x041, 0x042, 0x043,
        0x045, 0x046, 0x047, 0x049, 0x04A, 0x04B, 0x04D, 0x04E, 0x04F, 0x069, 0x06E, 0x081, 0x082, 0x083, 0x084, 0x088,
        0x08C, 0x0C4, 0x0C6, 0x0C7, 0x0C8, 0x0C9, 0x0CB, 0x0CC, 0x0CD, 0x0CE, 0x0D1, 0x0D2, 0x0D3] : List (BitVec 9)) := by
  simp only [decodeFPop1, namesUnassignedFPop_ite, namesUnassignedFPop_ok, namesUnassignedFPop_whenZero,
    namesUnassignedFPop_error, if_false_left, and_true, List.mem_cons, List.not_mem_nil, or_false, not_or]
  grind

theorem namesUnassignedFPop_decodeFPop2 (rd rs1 : BitVec 5) (opf : BitVec 9) (rs2 : BitVec 5) :
    NamesUnassignedFPop (decodeFPop2 rd rs1 opf rs2) ↔
      opf ∉ ([0x051, 0x052, 0x053, 0x055, 0x056, 0x057] : List (BitVec 9))
        ∧ opf.extractLsb' 0 6 ∉ ([1, 2, 3] : List (BitVec 6)) ∧ opf.extractLsb' 0 5 ∉ ([5, 6, 7] : List (BitVec 5)) := by
  simp [decodeFPop2, and_assoc]

theorem NamesUnassignedFPop.op3_eq {rd op3 rs1 low} (h : NamesUnassignedFPop (decodeArith rd op3 rs1 low)) :
    op3 = 0x34#6 ∨ op3 = 0x35#6 := by
  by_contra hne
  obtain ⟨h1, h2⟩ := not_or.mp hne
  revert h
  simp [decodeArith, h1, h2]

theorem NamesUnassignedFPop.word_fields {w : Word} (h : NamesUnassignedFPop (decode w)) :
    w.extractLsb' 30 2 = 2 ∧ (w.extractLsb' 19 6 = 0x34 ∨ w.extractLsb' 19 6 = 0x35) := by
  simp only [decode, namesUnassignedFPop_ite, namesUnassignedFPop_decodeFmt2, namesUnassignedFPop_ok,
    namesUnassignedFPop_decodeMem, if_false_left, if_false_right] at h
  obtain ⟨-, -, hop, hd⟩ := h
  exact ⟨hop, hd.op3_eq⟩

theorem runWord_unassignedFPop {s : State} {w : Word} (h : decode w = .error .unassignedFPop) :
    runWord s w = unimplementedFPop s id := runWord_of_decode_error h

/-- Settles O6: a reject runs as its trap, an unassigned FPop as `unimplementedFPop` without a destination; which words name one is
read off the two decoders. -/
theorem undecodableWordTraps : Obligations.UndecodableWordTraps := by
  refine ⟨fun s w r h => ⟨runWord_illegalInstruction s h, ?_, ?_⟩, fun rd rs1 rs2 opf => ⟨?_, ?_⟩,
    fun w h => NamesUnassignedFPop.word_fields h⟩
  · rintro rfl hf
    exact (runWord_unassignedFPop h).trans (unimplementedFPop_of hf)
  · rintro rfl hf
    exact (runWord_unassignedFPop h).trans (unimplementedFPop_of_disabled hf)
  · rw [← namesUnassignedFPop_decodeFPop1 rd rs1 opf rs2, ← Laws.decode_fpop1]
    rfl
  · rw [← namesUnassignedFPop_decodeFPop2 rd rs1 opf rs2, ← Laws.decode_fpop2]
    rfl

end Sys2Proof.Machine

/-! PROOFS. The integer instructions: what an instruction that ends with a write of R[rd] leaves, and the arithmetic, logical and
tagged instructions (O20 to O23). -/

namespace Sys2Proof.Machine

/-! ### Instructions that complete with a write of R[rd] -/

section
variable {i : Instr} {s : State} {rd : BitVec 5} {v w : DWord} {c : Ccr}

theorem completes_writeR (hi : exec i s = writeR s rd v) (hv : v = w) : ∃ t, exec i s = .next t ∧ ResultR s t rd w :=
  hv ▸ ⟨_, hi, resultR_setR s rd v⟩

theorem completes_writeRC {P : Ccr → Prop} (hi : exec i s = writeRC s rd v c) (hv : v = w) (hc : P c) :
    ∃ t c, exec i s = .next t ∧ ResultRC s t rd w c ∧ P c :=
  hv ▸ ⟨_, c, hi, resultRC_setR s rd v c, hc⟩

end

/-! ### Results as exact sums, differences and products -/

theorem carryIn_eq_ofNat (s : State) : carryIn s = BitVec.ofNat 64 s.ccr.icc.c.toNat := by
  rw [carryIn]; cases s.ccr.icc.c <;> rfl

theorem carryIn_eq_ofInt (s : State) : carryIn s = BitVec.ofInt 64 s.ccr.icc.c.toNat := by
  rw [carryIn_eq_ofNat, BitVec.ofInt_natCast]

theorem add_eq_ofInt (a b : DWord) : a + b = BitVec.ofInt 64 (a.toInt + b.toInt) := by
  simp [BitVec.ofInt_add]

theorem add_eq_ofNat (a b : DWord) : a + b = BitVec.ofNat 64 (a.toNat + b.toNat) := by
  simp [BitVec.ofNat_add]

theorem ofInt_sub_eq (x y : Int) : BitVec.ofInt 64 (x - y) = BitVec.ofInt 64 x - BitVec.ofInt 64 y := by
  rw [Int.sub_eq_add_neg, BitVec.ofInt_add, BitVec.ofInt_neg, BitVec.sub_eq_add_neg]

theorem sub_eq_ofInt (a b : DWord) : a - b = BitVec.ofInt 64 (a.toInt - b.toInt) := by
  simp [ofInt_sub_eq]

theorem mul_eq_ofInt (a b : DWord) : a * b = BitVec.ofInt 64 (a.toInt * b.toInt) := by
  simp [BitVec.ofInt_mul]

theorem add_carryIn_eq_ofInt (s : State) (a b : DWord) :
    a + b + carryIn s = BitVec.ofInt 64 (a.toInt + b.toInt + s.ccr.icc.c.toNat) := by
  rw [BitVec.ofInt_add, ← add_eq_ofInt, ← carryIn_eq_ofInt]

theorem add_carryIn_eq_ofNat (s : State) (a b : DWord) :
    a + b + carryIn s = BitVec.ofNat 64 (a.toNat + b.toNat + s.ccr.icc.c.toNat) := by
  rw [BitVec.ofNat_add, ← add_eq_ofNat, ← carryIn_eq_ofNat]

theorem sub_carryIn_eq_ofInt (s : State) (a b : DWord) :
    a - b - carryIn s = BitVec.ofInt 64 (a.toInt - b.toInt - s.ccr.icc.c.toNat) := by
  rw [ofInt_sub_eq, ← sub_eq_ofInt, ← carryIn_eq_ofInt]

theorem not_xor_eq (a b : DWord) : ~~~(a ^^^ b) = a ^^^ ~~~b := by
  rw [BitVec.not_xor_right]

/-- Settles O20: each instruction ends with a write of R[rd]; what it writes is the exact result modulo 2^64. -/
theorem aluResults : Obligations.AluResults := by
  rintro rd rs1 op2 s _ _ rfl rfl
  simp only [List.forall_mem_cons]
  exact ⟨completes_writeR rfl (add_eq_ofInt _ _), completes_writeR rfl (add_carryIn_eq_ofInt s _ _),
    completes_writeR rfl (sub_eq_ofInt _ _), completes_writeR rfl (sub_carryIn_eq_ofInt s _ _),
    completes_writeR rfl (mul_eq_ofInt _ _), completes_writeR rfl rfl, completes_writeR rfl rfl, completes_writeR rfl rfl,
    completes_writeR rfl rfl, completes_writeR rfl rfl, completes_writeR rfl (not_xor_eq _ _), List.forall_mem_nil _⟩

/-- Settles O21, from the flags of a sum and of a difference. -/
theorem arithmeticConditionCodes : Obligations.ArithmeticConditionCodes := by
  rintro rd rs1 op2 s a b rfl rfl
  simp only [List.forall_mem_cons]
  refine ⟨⟨?add, ?addc, List.forall_mem_nil _⟩, ?sub, ?subc, List.forall_mem_nil _⟩
  case add => exact completes_writeRC rfl (add_eq_ofNat _ _) (sumCcr_addCcr _ _ _)
  case addc => exact completes_writeRC rfl (add_carryIn_eq_ofNat s _ _) (sumCcr_addCcr _ _ _)
  case sub => exact completes_writeRC rfl ((sub_eq_ofInt _ _).trans (by simp)) (differenceCcr_subCcr _ _ _)
  case subc => exact completes_writeRC rfl (sub_carryIn_eq_ofInt s _ _) (differenceCcr_subCcr _ _ _)

/-- Settles O22: the flags are those of the value written. -/
theorem logicalConditionCodes : Obligations.LogicalConditionCodes := by
  rintro rd rs1 op2 s a b rfl rfl
  have logical {i : Instr} {v w : DWord} (hi : exec i s = writeRC s rd v (logicCcr v)) (hv : v = w) :
      ∃ t c, exec i s = .next t ∧ ResultRC s t rd w c ∧ LogicalCcr c w :=
    completes_writeRC hi hv (hv ▸ logicalCcr_logicCcr v)
  simp only [List.forall_mem_cons]
  exact ⟨logical rfl rfl, logical rfl rfl, logical rfl rfl, logical rfl rfl, logical rfl rfl, logical rfl (not_xor_eq _ _),
    List.forall_mem_nil _⟩

/-! ### Tagged arithmetic (section 10 of spec/40_integer.md) -/

theorem tagOverflowAdd_iff (a b : DWord) : tagOverflowAdd a b = true ↔
    a.extractLsb' 0 2 ≠ 0 ∨ b.extractLsb' 0 2 ≠ 0 ∨ (addCcr a b false).icc.v = true := by
  simp only [tagOverflowAdd, addCcr, Bool.or_eq_true, bne_iff_ne, or_assoc]

theorem tagOverflowSub_iff (a b : DWord) : tagOverflowSub a b = true ↔
    a.extractLsb' 0 2 ≠ 0 ∨ b.extractLsb' 0 2 ≠ 0 ∨ (subCcr a b false).icc.v = true := by
  simp only [tagOverflowSub, subCcr, Bool.or_eq_true, bne_iff_ne, or_assoc]

/-- The trapping form `j` of `i`, with tag overflow `o`, traps where it holds and acts as `i` where it does not. -/
theorem trapping_form {i j : Instr} {s : State} {rd : BitVec 5} {v : DWord} {c : Ccr} {o : Bool}
    (hi : exec i s = writeRC s rd v (withTagOverflow c o))
    (hj : exec j s = if o then trapTo s .tagOverflow else writeRC s rd v (withTagOverflow c false)) :
    (o = true → exec j s = .next (takeTrap s .tagOverflow)) ∧ (o = false → exec j s = exec i s) := by
  constructor <;> rintro rfl
  · exact hj
  · exact hj.trans hi.symm

/-- Settles O23: the trapping forms differ from the others only where there is a tag overflow. -/
theorem taggedArithmetic : Obligations.TaggedArithmetic := by
  rintro rd rs1 op2 s a b rfl rfl
  simp only [List.forall_mem_cons]
  exact ⟨⟨_, _, addCcr (getR s rs1) (src2 s op2) false, _, add_eq_ofInt _ _, sumCcr_addCcr _ _ _, rfl, tagOverflowAdd_iff _ _, rfl,
      resultRC_setR s rd _ _, trapping_form (i := .taddcc rd rs1 op2) rfl rfl⟩,
    ⟨_, _, subCcr (getR s rs1) (src2 s op2) false, _, sub_eq_ofInt _ _, differenceCcr_subCcr _ _ _, rfl, tagOverflowSub_iff _ _, rfl,
      resultRC_setR s rd _ _, trapping_form (i := .tsubcc rd rs1 op2) rfl rfl⟩, List.forall_mem_nil _⟩

end Sys2Proof.Machine

/-! PROOFS. The 32-bit multiplies and the divides: R[rd] written together with Y, the saturated quotients, and division_by_zero (O24,
O25). -/

namespace Sys2Proof.Machine

/-! ### R[rd] written together with Y and CCR -/

/-- What `WroteR` says of a state, it says of every state with the same register files. -/
theorem wroteR_congr {s t u : State} {rd : BitVec 5} {v : DWord} (h : WroteR s u rd v) (hg : t.globals = u.globals)
    (hw : t.windows = u.windows) : WroteR s t rd v := by
  rw [WroteR, hg, hw]; exact h

/-- A write of R[rd] followed by writes of Y and CCR touches nothing but the register files, Y and CCR. -/
theorem setR_setY_setCcr_eq (s : State) (rd : BitVec 5) (v : DWord) (y : Word) (c : Ccr) :
    setCcr (setY (setR s rd v) y) c
      = { s with globals := (setR s rd v).globals, windows := (setR s rd v).windows, y := y, ccr := c } := by
  conv_lhs => rw [setR_eq]
  rfl

theorem setCcr_of_eq {s : State} {c : Ccr} (h : s.ccr = c) : setCcr s c = s := by subst h; rfl

theorem setCcr_writeRY_self (s : State) (rd : BitVec 5) (v : DWord) : setCcr (writeRY s rd v) s.ccr = writeRY s rd v :=
  setCcr_of_eq (by simp [writeRY])

theorem setCcr_writeRFreeY_self (s : State) (rd : BitVec 5) (v : DWord) :
    setCcr (writeRFreeY s rd v) s.ccr = writeRFreeY s rd v :=
  setCcr_of_eq (by simp [writeRFreeY])

theorem resultRYC_writeRY (s : State) (rd : BitVec 5) (v : DWord) (c : Ccr) :
    ResultRYC s (advance (setCcr (writeRY s rd v) c)) rd v (v.extractLsb' 32 32) c :=
  ⟨wroteR_congr (wroteR_setR s rd v) (by simp [writeRY]) (by simp [writeRY]), sameBytes_of (by simp [writeRY]) (by simp [writeRY]),
    congrArg advance (setR_setY_setCcr_eq s rd v _ c)⟩

theorem resultRC_freeY_writeRFreeY (s : State) (rd : BitVec 5) (v : DWord) (c : Ccr) :
    ResultRC_freeY s (advance (setCcr (writeRFreeY s rd v) c)) rd v c := by
  refine ⟨wroteR_congr (wroteR_setR s rd v) (by simp [writeRFreeY]) (by simp [writeRFreeY]),
    sameBytes_of (by simp [writeRFreeY]) (by simp [writeRFreeY]), ?_⟩
  exact congrArg (fun u => advance (drawn u)) (setR_setY_setCcr_eq s rd v _ c)

/-! ### Products (rules R503 to R506) -/

theorem umulProduct_eq_ofNat (a b : DWord) : umulProduct a b = BitVec.ofNat 64 ((lo32 a).toNat * (lo32 b).toNat) := by
  rw [BitVec.ofNat_mul, BitVec.ofNat_toNat, BitVec.ofNat_toNat, umulProduct]

theorem smulProduct_eq_ofInt (a b : DWord) : smulProduct a b = BitVec.ofInt 64 ((lo32 a).toInt * (lo32 b).toInt) := by
  rw [BitVec.ofInt_mul]; rfl

/-- A multiply and its cc form, which adds the flags of the product. -/
theorem multiply_outcomes {i j : Instr} {s : State} {rd : BitVec 5} {v w : DWord} (hi : exec i s = .next (advance (writeRY s rd v)))
    (hj : exec j s = .next (advance (setCcr (writeRY s rd v) (logicCcr v)))) (hv : v = w) :
    (∃ t, exec i s = .next t ∧ ResultRYC s t rd w (w.extractLsb' 32 32) s.ccr)
      ∧ ∃ t c, exec j s = .next t ∧ ResultRYC s t rd w (w.extractLsb' 32 32) c ∧ LogicalCcr c w := by
  subst hv
  rw [← setCcr_writeRY_self] at hi
  exact ⟨⟨_, hi, resultRYC_writeRY s rd v _⟩, _, _, hj, resultRYC_writeRY s rd v _, logicalCcr_logicCcr v⟩

/-! ### The multiply step (rule R511) -/

theorem mulStepA_eq (s : State) (a : DWord) :
    mulStepA s a = (if s.ccr.icc.n = s.ccr.icc.v then 0#1 else 1#1) ++ a.extractLsb' 1 31 := by
  rw [mulStepA]; cases s.ccr.icc.n <;> cases s.ccr.icc.v <;> rfl

/-- Settles O24: the multiplies write the exact product; MULScc is one 32-bit addition. -/
theorem multiply : Obligations.Multiply := by
  constructor
  · rintro rd rs1 op2 s _ _ rfl rfl
    simp only [List.forall_mem_cons]
    exact ⟨multiply_outcomes rfl rfl (umulProduct_eq_ofNat _ _), multiply_outcomes rfl rfl (smulProduct_eq_ofInt _ _),
      List.forall_mem_nil _⟩
  · rintro rd rs1 op2 s _ _ rfl rfl x m hx hm
    obtain rfl : x = mulStepA s (getR s rs1) := hx.trans (mulStepA_eq s _).symm
    obtain rfl : m = mulStepB s (src2 s op2) := hm
    refine ⟨_, ⟨ccOfBits ((freeValue s).extractLsb' 32 4), addCC _ _ false⟩, (freeValue s).extractLsb' 0 32, rfl,
      sumFlags_addCC (w := 31) _ _ false, wroteR_congr (wroteR_setR s rd _) (by simp) (by simp),
      sameBytes_of (by simp) (by simp), ?_⟩
    exact congrArg (fun u => advance (drawn u)) (setR_setY_setCcr_eq s rd _ _ _)

/-! ### Quotients (rules R501, R502, R507, R508) -/

theorem udivResult_eq (y : Word) (a b : DWord) :
    udivResult y a b = (BitVec.ofNat 64 (min ((y ++ lo32 a).toNat / (lo32 b).toNat) 0xFFFFFFFF),
      decide (0xFFFFFFFF < (y ++ lo32 a).toNat / (lo32 b).toNat)) := by
  unfold udivResult
  generalize (y ++ lo32 a).toNat / (lo32 b).toNat = q
  by_cases h : 2 ^ 32 ≤ q
  · simp only [if_pos h, Nat.min_eq_right (show 0xFFFFFFFF ≤ q by omega), decide_eq_true (show 0xFFFFFFFF < q by omega)]; rfl
  · simp only [if_neg h, Nat.min_eq_left (show q ≤ 0xFFFFFFFF by omega), decide_eq_false (show ¬ 0xFFFFFFFF < q by omega)]

theorem sdivResult_eq (y : Word) (a b : DWord) :
    sdivResult y a b = (BitVec.ofInt 64 (max (min ((y ++ lo32 a).toInt.tdiv (lo32 b).toInt) (2 ^ 31 - 1)) (-(2 ^ 31))),
      decide ((y ++ lo32 a).toInt.tdiv (lo32 b).toInt < -(2 ^ 31) ∨ 2 ^ 31 ≤ (y ++ lo32 a).toInt.tdiv (lo32 b).toInt)) := by
  unfold sdivResult
  generalize (y ++ lo32 a).toInt.tdiv (lo32 b).toInt = q
  by_cases hhigh : 2 ^ 31 ≤ q
  · have hq : max (min q (2 ^ 31 - 1)) (-(2 ^ 31)) = 2 ^ 31 - 1 := by omega
    simp only [if_pos hhigh, hq, decide_eq_true (Or.inr hhigh)]; rfl
  by_cases hlow : q ≤ -(2 ^ 31) - 1
  · have hq : max (min q (2 ^ 31 - 1)) (-(2 ^ 31)) = -(2 ^ 31) := by omega
    simp only [if_neg hhigh, if_pos hlow, hq, decide_eq_true (Or.inl (show q < -(2 ^ 31) by omega))]; rfl
  · have hq : max (min q (2 ^ 31 - 1)) (-(2 ^ 31)) = q := by omega
    simp only [if_neg hhigh, if_neg hlow, hq, decide_eq_false (show ¬ (q < -(2 ^ 31) ∨ 2 ^ 31 ≤ q) by omega)]

theorem udiv_eq_ofNat (a b : DWord) : a / b = BitVec.ofNat 64 (a.toNat / b.toNat) := by
  rw [← BitVec.toNat_udiv, BitVec.ofNat_toNat, BitVec.setWidth_eq]

/-- The one 64-bit quotient that does not fit, 2^63, is written as the dividend. -/
theorem ofInt_tdiv_eq (a b : DWord) : BitVec.ofInt 64 (a.toInt.tdiv b.toInt)
    = if a = BitVec.intMin 64 ∧ b = -1 then a else BitVec.ofInt 64 (a.toInt.tdiv b.toInt) := by
  by_cases h : a = BitVec.intMin 64 ∧ b = -1
  · rw [if_pos h]
    obtain ⟨rfl, rfl⟩ := h
    decide
  · rw [if_neg h]

/-- A 32-bit divide and its cc form, where the divisor is not `zero`: `r` is the value written and the overflow. -/
theorem divide_outcomes {i j : Instr} {s : State} {rd : BitVec 5} {r : DWord × Bool} {v : DWord} {o : Bool} {zero : Prop}
    [Decidable zero] (hz : ¬ zero)
    (hi : exec i s = if zero then trapTo s .divisionByZero else .next (advance (writeRFreeY s rd r.1)))
    (hj : exec j s = if zero then trapTo s .divisionByZero
      else .next (advance (setCcr (writeRFreeY s rd r.1) (divCcr r.1 r.2))))
    (hr : r = (v, o)) :
    (∃ t, exec i s = .next t ∧ ResultRC_freeY s t rd v s.ccr)
      ∧ ∃ t c, exec j s = .next t ∧ ResultRC_freeY s t rd v c ∧ SignZero c.xcc v
          ∧ SignZero c.icc (lo32 v) ∧ c.xcc.v = false ∧ c.xcc.c = false ∧ c.icc.c = false ∧ c.icc.v = o := by
  subst hr
  rw [if_neg hz] at hi hj
  rw [← setCcr_writeRFreeY_self] at hi
  exact ⟨⟨_, hi, resultRC_freeY_writeRFreeY s rd v _⟩, _, _, hj, resultRC_freeY_writeRFreeY s rd v _,
    signZero_of _ _ _, signZero_of _ _ _, rfl, rfl, rfl, rfl⟩

/-- Settles O25: the zero divisor is the one test each makes; the quotient written is `udivResult_eq`, `sdivResult_eq` or exact. -/
theorem divide : Obligations.Divide := by
  constructor
  · rintro rd rs1 op2 s _ _ rfl rfl _ rfl
    refine ⟨fun hzero => ?_, fun hnonzero => ?_⟩ <;> simp only [List.forall_mem_cons]
    · exact ⟨if_pos hzero, if_pos hzero, if_pos hzero, if_pos hzero, List.forall_mem_nil _⟩
    · exact ⟨divide_outcomes hnonzero rfl rfl (udivResult_eq _ _ _), divide_outcomes hnonzero rfl rfl (sdivResult_eq _ _ _),
        List.forall_mem_nil _⟩
  · rintro rd rs1 op2 s _ _ rfl rfl
    refine ⟨fun hzero => ?_, fun hnonzero => ?_⟩ <;> simp only [List.forall_mem_cons]
    · exact ⟨if_pos hzero, if_pos hzero, List.forall_mem_nil _⟩
    · exact ⟨completes_writeR (if_neg hnonzero) (udiv_eq_ofNat _ _), completes_writeR (if_neg hnonzero) (ofInt_tdiv_eq _ _),
        List.forall_mem_nil _⟩

end Sys2Proof.Machine

/-! PROOFS. The shifts, SETHI and NOP, the conditional moves (O26 to O28), and the words that the encoding tables write out (O1). -/

namespace Sys2Proof.Machine

/-! ### Shifts as multiplication and division by a power of two (rules R494 to R499) -/

theorem shiftLeft_eq_ofNat (a : DWord) (n : Nat) : a <<< n = BitVec.ofNat 64 (a.toNat * 2 ^ n) := by
  refine BitVec.eq_of_toNat_eq ?_
  rw [BitVec.toNat_shiftLeft, BitVec.toNat_ofNat, Nat.shiftLeft_eq]

theorem ushiftRight_setWidth_eq_ofNat {w : Nat} (a : BitVec w) (n : Nat) :
    (a >>> n).setWidth 64 = BitVec.ofNat 64 (a.toNat / 2 ^ n) := by
  rw [← BitVec.ofNat_toNat, BitVec.toNat_ushiftRight, Nat.shiftRight_eq_div_pow]

theorem sshiftRight_signExtend_eq_ofInt {w : Nat} (a : BitVec w) (n : Nat) :
    (a.sshiftRight n).signExtend 64 = BitVec.ofInt 64 (a.toInt / 2 ^ n) := by
  rw [BitVec.signExtend, BitVec.toInt_sshiftRight, Int.shiftRight_eq_div_pow, Nat.cast_pow, Nat.cast_ofNat]

theorem extractLsb'_zero_toNat (a : DWord) (k : Nat) : (a.extractLsb' 0 k).toNat = a.toNat % 2 ^ k := by
  rw [BitVec.extractLsb'_toNat, Nat.shiftRight_zero]

/-- Settles O26: each shift ends with a write of R[rd]; the count is the low bits of R[rs2] or the immediate. -/
theorem shiftResults : Obligations.ShiftResults := by
  rintro rd rs1 s _ rfl
  constructor
  · intro k n hn
    obtain rfl : n = count32 s k := by
      cases k with
      | reg r => exact hn.trans (extractLsb'_zero_toNat _ 5).symm
      | imm c => exact hn
    simp only [List.forall_mem_cons]
    exact ⟨completes_writeR rfl (shiftLeft_eq_ofNat _ _), completes_writeR rfl (ushiftRight_setWidth_eq_ofNat _ _),
      completes_writeR rfl (sshiftRight_signExtend_eq_ofInt _ _), List.forall_mem_nil _⟩
  · intro k n hn
    obtain rfl : n = count64 s k := by
      cases k with
      | reg r => exact hn.trans (extractLsb'_zero_toNat _ 6).symm
      | imm c => exact hn
    have srlx := ushiftRight_setWidth_eq_ofNat (getR s rs1) (count64 s k)
    have srax := sshiftRight_signExtend_eq_ofInt (getR s rs1) (count64 s k)
    rw [BitVec.setWidth_eq] at srlx
    rw [BitVec.signExtend_eq] at srax
    simp only [List.forall_mem_cons]
    exact ⟨completes_writeR rfl (shiftLeft_eq_ofNat _ _), completes_writeR rfl srlx, completes_writeR rfl srax, List.forall_mem_nil _⟩

/-! ### SETHI and NOP (rules R516, R517) -/

theorem imm22_above_zeros (imm22 : BitVec 22) : (imm22 ++ 0#10).setWidth 64 = BitVec.ofNat 64 (imm22.toNat * 2 ^ 10) := by
  rw [← BitVec.ofNat_toNat, BitVec.toNat_append, BitVec.toNat_zero, Nat.or_zero, Nat.shiftLeft_eq]

theorem setR_zero (s : State) (v : DWord) : setR s 0 v = s := if_pos rfl

/-- Settles O27: SETHI ends with a write of R[rd], which is none where `rd` is 0; NOP only goes on. -/
theorem sethiAndNop : Obligations.SethiAndNop :=
  ⟨fun _ imm22 _ => completes_writeR rfl (imm22_above_zeros imm22),
    fun _ s => ⟨_, rfl, congrArg advance (setR_zero s _)⟩,
    rfl, fun _ => ⟨_, rfl, rfl, sameBytes_of rfl rfl⟩⟩

/-! ### The relations a condition on FSR.fccn names (rule R605) -/

theorem fcond_notEqual (f : BitVec 2) : fcond 1 f = (f == 1 || f == 2 || f == 3) := by revert f; decide

/-! ### The tests of a register as a signed number (rules R641 to R646) -/

theorem beq_zero_eq_toInt (a : DWord) : (a == 0) = decide (a.toInt = 0) := by
  rw [Bool.eq_iff_iff, beq_iff_eq, decide_eq_true_iff, ← BitVec.toInt_inj]; rfl

theorem rtest_zero (a : DWord) : rtest 1 a = decide (a.toInt = 0) := beq_zero_eq_toInt a

theorem rtest_negative (a : DWord) : rtest 3 a = decide (a.toInt < 0) := BitVec.msb_eq_toInt

theorem rtest_notPositive (a : DWord) : rtest 2 a = decide (a.toInt ≤ 0) := by
  rw [show rtest 2 a = (rtest 1 a || rtest 3 a) from rfl, rtest_zero, rtest_negative, ← Bool.decide_or]
  exact decide_eq_decide.mpr (by omega)

theorem rtest_notZero (a : DWord) : rtest 5 a = decide (a.toInt ≠ 0) := by
  rw [show rtest 5 a = !rtest 1 a from rfl, rtest_zero, ← decide_not]

theorem rtest_positive (a : DWord) : rtest 6 a = decide (0 < a.toInt) := by
  rw [show rtest 6 a = !rtest 2 a from rfl, rtest_notPositive, ← decide_not]
  exact decide_eq_decide.mpr (by omega)

theorem rtest_notNegative (a : DWord) : rtest 7 a = decide (0 ≤ a.toInt) := by
  rw [show rtest 7 a = !rtest 3 a from rfl, rtest_negative, ← decide_not]
  exact decide_eq_decide.mpr (by omega)

/-! ### Conditional moves (rules R519, R552) -/

section
variable {i : Instr} {s : State} {rd : BitVec 5} {cond : BitVec 4} {cc : BitVec 2} {b c : Bool} {v : DWord}

theorem moveIf_outcomes (hi : exec i s = moveIf s rd b v) (hb : b = c) :
    (c = true → ∃ t, exec i s = .next t ∧ ResultR s t rd v) ∧ (c = false → ∃ t, exec i s = .next t ∧ t = advance s) := by
  subst hb
  constructor <;> rintro rfl
  · exact ⟨_, hi, resultR_setR s rd v⟩
  · exact ⟨_, hi, rfl⟩

theorem moveIfFcc_outcomes (hi : exec i s = moveIfFcc s rd cond cc v) (hb : fcond cond (fsrFcc s.fsr cc) = c) :
    (s.pstate.pef = true → s.fprs.fef = true → c = true → ∃ t, exec i s = .next t ∧ ResultR s t rd v)
    ∧ (s.pstate.pef = true → s.fprs.fef = true → c = false → ∃ t, exec i s = .next t ∧ t = advance s)
    ∧ (s.pstate.pef = false ∨ s.fprs.fef = false → exec i s = .next (takeTrap s .fpDisabled)) := by
  have enabled (hp : s.pstate.pef = true) (hf : s.fprs.fef = true) :=
    moveIf_outcomes (hi.trans (if_pos (fpuEnabled_of hp hf))) hb
  refine ⟨fun hp hf => (enabled hp hf).1, fun hp hf => (enabled hp hf).2, fun h => hi.trans (if_neg ?_)⟩
  rw [(fpuEnabled_eq_false_iff s).mpr h]
  exact Bool.false_ne_true

end

/-- Settles O28: every form is `moveIf` or `moveIfFcc` under a condition of `icond`, `rtest` or `fcond`, whose table reads as the
statement's names do, up to the order of the relations of FSR.fccn. -/
theorem conditionalMoves : Obligations.ConditionalMoves := by
  have reverse (x y z : Bool) : (x || y || z) = (z || y || x) := by rw [Bool.or_assoc, Bool.or_comm, Bool.or_comm y]
  refine ⟨⟨?icc, ?reg⟩, ?fcc⟩
  case icc =>
    intro rd cc op2 s c v hc hv
    obtain rfl : c = selectCC s cc := by rw [hc]; cases cc <;> rfl
    obtain rfl : v = src11 s op2 := by rw [hv]; cases op2 <;> rfl
    repeat refine List.forall_mem_cons.mpr ⟨moveIf_outcomes rfl rfl, ?_⟩
    exact List.forall_mem_nil _
  case reg =>
    rintro rd rs1 op2 s _ v rfl hv
    obtain rfl : v = src10 s op2 := by rw [hv]; cases op2 <;> rfl
    simp only [List.forall_mem_cons]
    exact ⟨moveIf_outcomes rfl (rtest_zero _), moveIf_outcomes rfl (rtest_notPositive _), moveIf_outcomes rfl (rtest_negative _),
      moveIf_outcomes rfl (rtest_notZero _), moveIf_outcomes rfl (rtest_positive _), moveIf_outcomes rfl (rtest_notNegative _),
      List.forall_mem_nil _⟩
  case fcc =>
    intro rd cc op2 s f e l g u v hf he hl hg hu hv
    obtain rfl : f = fsrFcc s.fsr cc := hf
    obtain rfl : v = src11 s op2 := by rw [hv]; cases op2 <;> rfl
    subst he hl hg hu
    -- Where `rfl` does not serve, `fcond` has the relations in another order, or names the one that is left out.
    repeat refine List.forall_mem_cons.mpr ⟨moveIfFcc_outcomes rfl rfl, ?_⟩
    refine List.forall_mem_cons.mpr ⟨moveIfFcc_outcomes rfl (Bool.or_comm _ _), ?_⟩
    repeat refine List.forall_mem_cons.mpr ⟨moveIfFcc_outcomes rfl rfl, ?_⟩
    refine List.forall_mem_cons.mpr ⟨moveIfFcc_outcomes rfl (Bool.or_comm _ _), ?_⟩
    repeat refine List.forall_mem_cons.mpr ⟨moveIfFcc_outcomes rfl rfl, ?_⟩
    refine List.forall_mem_cons.mpr ⟨moveIfFcc_outcomes rfl (fcond_notEqual _), ?_⟩
    repeat refine List.forall_mem_cons.mpr ⟨moveIfFcc_outcomes rfl rfl, ?_⟩
    refine List.forall_mem_cons.mpr ⟨moveIfFcc_outcomes rfl (Bool.or_comm _ _), ?_⟩
    refine List.forall_mem_cons.mpr ⟨moveIfFcc_outcomes rfl (Bool.or_comm _ _), ?_⟩
    refine List.forall_mem_cons.mpr ⟨moveIfFcc_outcomes rfl (reverse _ _ _), ?_⟩
    refine List.forall_mem_cons.mpr ⟨moveIfFcc_outcomes rfl (Bool.or_comm _ _), ?_⟩
    refine List.forall_mem_cons.mpr ⟨moveIfFcc_outcomes rfl (reverse _ _ _), ?_⟩
    repeat refine List.forall_mem_cons.mpr ⟨moveIfFcc_outcomes rfl rfl, ?_⟩
    exact List.forall_mem_nil _

/-! ### Words written out from the encoding tables -/

/-- Settles O1: the decoder computes on each word. -/
theorem decodeSampleWords : Obligations.DecodeSampleWords :=
  ⟨rfl, rfl, rfl, rfl, rfl, rfl, rfl, rfl, rfl, rfl, rfl, rfl, rfl, rfl, rfl, rfl, rfl⟩

end Sys2Proof.Machine

/-! PROOFS. Control transfer: the branches (O29, O30), CALL, JMPL and RETURN (O31), Tcc (O32), DONE and RETRY (O16), and the
floating-point moves (O57), which are under the same conditions as the branches. -/

namespace Sys2Proof.Machine

/-! ### Where a branch goes (rules R602, R603) -/

/-- The displacement counts words, as a signed number. -/
theorem branchTarget_eq_displaced {w : Nat} (s : State) (disp : BitVec w) : branchTarget s disp = displaced s disp := by
  rw [branchTarget, displaced, BitVec.ofInt_mul, BitVec.signExtend, BitVec.shiftLeft_eq_mul_twoPow, BitVec.mul_comm]
  rfl

theorem branched_branch (s : State) (taken uncond : Bool) (a : BitVec 1) (ea : DWord) :
    Branched s (branch s taken uncond a ea) taken uncond a ea := by
  have annul : a = 0 ∨ a = 1 := by revert a; decide
  cases taken with
  | false => rcases annul with rfl | rfl <;> exact ⟨rfl, sameBytes_of rfl rfl⟩
  | true => rcases annul with rfl | rfl <;> cases uncond <;> exact ⟨rfl, sameBytes_of rfl rfl⟩

/-! ### Conditions on FSR.fccn, which only an enabled FPU tests (rules R66, R605) -/

/-- The conditions of rule R605 in the order of their numbers, as the relations e, l, g, u that each names. -/
def fccTable (f : BitVec 2) : List Bool :=
  let e := f == 0
  let l := f == 1
  let g := f == 2
  let u := f == 3
  [false, l || g || u, l || g, u || l, l, u || g, g, u, true, e, u || e, g || e, u || g || e, l || e, u || l || e, e || l || g]

theorem fcond_eq_fccTable (cond : BitVec 4) (f : BitVec 2) : fcond cond f = (fccTable f)[cond.toNat]?.getD false := by
  revert cond f; decide

theorem not_fpuEnabled_of {s : State} (h : s.pstate.pef = false ∨ s.fprs.fef = false) : ¬ fpuEnabled s = true := by
  rw [(fpuEnabled_eq_false_iff s).mpr h]
  exact Bool.false_ne_true

/-! ### Branches -/

section
variable {i : Instr} {s : State} {cond : BitVec 4} {rcond : BitVec 3} {cc : BitVec 2} {c : CC} {a : BitVec 1} {taken uncond : Bool}
  {w : Nat} {disp : BitVec w}

theorem branch_completes (hi : exec i s = .next (branch s taken uncond a (branchTarget s disp))) :
    ∃ t, exec i s = .next t ∧ Branched s t taken uncond a (displaced s disp) :=
  ⟨_, hi, branchTarget_eq_displaced s disp ▸ branched_branch s taken uncond a _⟩

theorem branchIcc_completes (hi : exec i s = branchIcc s cond c a disp) (ht : icond cond c = taken)
    (hu : isUnconditional cond = uncond) : ∃ t, exec i s = .next t ∧ Branched s t taken uncond a (displaced s disp) :=
  branch_completes (ht ▸ hu ▸ hi)

theorem branchReg_completes {rs1 : BitVec 5} {disp : BitVec 16} (hi : exec i s = branchReg s rcond a rs1 disp)
    (ht : rtest rcond (getR s rs1) = taken) : ∃ t, exec i s = .next t ∧ Branched s t taken false a (displaced s disp) :=
  branch_completes (ht ▸ hi)

theorem branchFcc_completes (he : fpuEnabled s = true) (hi : exec i s = branchFcc s cond cc a disp)
    (ht : fcond cond (fsrFcc s.fsr cc) = taken) (hu : isUnconditional cond = uncond) :
    ∃ t, exec i s = .next t ∧ Branched s t taken uncond a (displaced s disp) :=
  branch_completes (ht ▸ hu ▸ hi.trans (if_pos he))

end

/-- Settles O29: each is `branchIcc` or `branchReg` under a condition whose table reads as the statement's names do. -/
theorem integerBranches : Obligations.IntegerBranches := by
  refine ⟨?icc, ?select, ?reg⟩
  case icc =>
    rintro a disp22 s _ rfl
    repeat refine List.forall_mem_cons.mpr ⟨branchIcc_completes rfl rfl rfl, ?_⟩
    exact List.forall_mem_nil _
  case select =>
    intro a p0 cc disp19 s c hc
    obtain rfl : c = selectCC s cc := by rw [hc]; cases cc <;> rfl
    repeat refine List.forall_mem_cons.mpr ⟨branchIcc_completes rfl rfl rfl, ?_⟩
    exact List.forall_mem_nil _
  case reg =>
    rintro a p0 rs1 disp16 s _ rfl
    simp only [List.forall_mem_cons]
    exact ⟨branchReg_completes rfl (rtest_zero _), branchReg_completes rfl (rtest_notPositive _),
      branchReg_completes rfl (rtest_negative _), branchReg_completes rfl (rtest_notZero _),
      branchReg_completes rfl (rtest_positive _), branchReg_completes rfl (rtest_notNegative _), List.forall_mem_nil _⟩

/-- Settles O30: each is `branchFcc`, whose one test is that of the FPU. -/
theorem floatingPointBranches : Obligations.FloatingPointBranches := by
  intro a p0 cc disp22 disp19 s f e l g u hf he hl hg hu
  obtain rfl : f = fsrFcc s.fsr cc := hf
  subst he hl hg hu
  refine ⟨fun hp hf => ⟨?fcc0, ?fccn⟩, ?disabled⟩
  case fcc0 =>
    rintro rfl
    repeat refine List.forall_mem_cons.mpr ⟨branchFcc_completes (fpuEnabled_of hp hf) rfl (fcond_eq_fccTable _ _) rfl, ?_⟩
    exact List.forall_mem_nil _
  case fccn =>
    repeat refine List.forall_mem_cons.mpr ⟨branchFcc_completes (fpuEnabled_of hp hf) rfl (fcond_eq_fccTable _ _) rfl, ?_⟩
    exact List.forall_mem_nil _
  case disabled =>
    intro h
    repeat refine List.forall_mem_cons.mpr ⟨if_neg (not_fpuEnabled_of h), ?_⟩
    exact List.forall_mem_nil _

/-! ### CALL, JMPL and RETURN (rules R647, R682, R683) -/

theorem wordAligned_iff_mod (a : DWord) : wordAligned a = true ↔ a.toNat % 4 = 0 := by
  rw [wordAligned_iff, ← BitVec.toNat_inj, BitVec.extractLsb'_toNat, Nat.shiftRight_zero]; rfl

/-- A delayed transfer that also writes R[rd] changes nothing else. -/
theorem delayedTransfer_setR (s : State) (rd : BitVec 5) (v ea : DWord) :
    WroteR s (delayedTransfer (setR s rd v) ea) rd v ∧ SameBytes s (delayedTransfer (setR s rd v) ea)
      ∧ delayedTransfer (setR s rd v) ea = { s with
          globals := (setR s rd v).globals, windows := (setR s rd v).windows, pc := s.npc, npc := ea, delaySlot := true } :=
  ⟨wroteR_setR s rd v, sameBytes_of (by simp) (by simp), congrArg (delayedTransfer · ea) (setR_eq s rd v)⟩

/-- Settles O31: the transfers differ in the register or window they change, and in the checks before it. -/
theorem callJmplReturn : Obligations.CallJmplReturn := by
  rintro rd rs1 op2 disp30 s _ rfl
  refine ⟨?call, fun haligned => ?aligned, fun hmisaligned => ?misaligned, fun hempty => if_pos hempty⟩
  case call => exact ⟨_, rfl, branchTarget_eq_displaced s disp30 ▸ delayedTransfer_setR s 15 _ _⟩
  case aligned =>
    have hword := (wordAligned_iff_mod _).mpr haligned
    exact ⟨⟨_, if_pos hword, delayedTransfer_setR s rd _ _⟩,
      fun hwindow => ⟨_, (if_neg hwindow).trans (if_pos hword), sameBytes_of rfl rfl, rfl⟩⟩
  case misaligned =>
    rintro _ _ rfl rfl
    have hword := mt (wordAligned_iff_mod _).mp hmisaligned
    exact ⟨if_neg hword, fun hwindow => (if_neg hwindow).trans (if_neg hword)⟩

/-! ### Tcc (rule R684) -/

theorem srcTrap_imm (s : State) (k : Byte) : srcTrap s (.imm k) = BitVec.ofNat 64 k.toNat := (BitVec.ofNat_toNat 64 k).symm

theorem softwareTrapNumber_eq_ofNat (s : State) (rs1 : BitVec 5) (op2 : TrapOperand) : softwareTrapNumber s rs1 op2
    = BitVec.ofNat 8 ((getR s rs1 + srcTrap s op2).toNat % (if isUser s = true then 128 else 256)) := by
  rw [softwareTrapNumber]
  generalize getR s rs1 + srcTrap s op2 = sum
  cases isUser s with
  | true =>
    have h : (0#1 ++ sum.extractLsb' 0 7).toNat = sum.toNat % 128 := by
      rw [BitVec.toNat_append, extractLsb'_zero_toNat]; simp
    refine BitVec.eq_of_toNat_eq (h.trans ?_)
    rw [if_pos rfl, BitVec.toNat_ofNat]
    omega
  | false =>
    refine BitVec.eq_of_toNat_eq ((extractLsb'_zero_toNat sum 8).trans ?_)
    rw [if_neg Bool.false_ne_true, BitVec.toNat_ofNat]
    omega

theorem trapType_softwareTrap {n : Nat} (h : n < 256) :
    trapType (.softwareTrap (BitVec.ofNat 8 n)) = BitVec.ofNat 9 (256 + n) := by
  refine BitVec.eq_of_toNat_eq ((BitVec.toNat_append 1#1 (BitVec.ofNat 8 n)).trans ?_)
  rw [BitVec.toNat_ofNat, BitVec.toNat_ofNat, BitVec.toNat_ofNat, Nat.mod_eq_of_lt h, Nat.mod_eq_of_lt (show 256 + n < 2 ^ 9 by omega)]
  exact (Nat.shiftLeft_add_eq_or_of_lt h 1).symm

theorem trapIf_outcomes {i : Instr} {s : State} {cond : BitVec 4} {c : CC} {rs1 : BitVec 5} {op2 : TrapOperand} {b : Bool}
    {n : Byte} (hn : softwareTrapNumber s rs1 op2 = n) (hi : exec i s = trapIf s cond c rs1 op2) (hb : icond cond c = b) :
    (b = true → exec i s = .next (takeTrap s (.softwareTrap n))) ∧ (b = false → ∃ t, exec i s = .next t ∧ t = advance s) := by
  subst hb hn
  refine ⟨fun h => hi.trans (if_pos h), fun h => ⟨_, hi.trans (if_neg ?_), rfl⟩⟩
  rw [h]
  exact Bool.false_ne_true

/-- Settles O32: each is `trapIf` under a condition whose table reads as the statement's names do. -/
theorem trapOnCondition : Obligations.TrapOnCondition := by
  intro cc rs1 op2 s c n hc hn
  obtain rfl : c = selectCC s cc := by rw [hc]; cases cc <;> rfl
  have hnumber : n = (getR s rs1 + srcTrap s op2).toNat % (if isUser s = true then 128 else 256) := by
    cases op2 with
    | reg r => exact hn
    | imm k => rw [srcTrap_imm]; exact hn
  have hlt : n < 256 := by rw [hnumber]; split <;> omega
  refine ⟨trapType_softwareTrap hlt, ?_⟩
  have htrap : softwareTrapNumber s rs1 op2 = BitVec.ofNat 8 n := hnumber ▸ softwareTrapNumber_eq_ofNat s rs1 op2
  have tcc (cond : BitVec 4) {i : Instr} {b : Bool} (hi : exec i s = trapIf s cond (selectCC s cc) rs1 op2)
    (hb : icond cond (selectCC s cc) = b) := trapIf_outcomes htrap hi hb
  repeat rw [List.forall_mem_cons]
  exact ⟨tcc 8 rfl rfl, tcc 0 rfl rfl, tcc 9 rfl rfl, tcc 1 rfl rfl, tcc 10 rfl rfl, tcc 2 rfl rfl, tcc 11 rfl rfl, tcc 3 rfl rfl,
    tcc 12 rfl rfl, tcc 4 rfl rfl, tcc 13 rfl rfl, tcc 5 rfl rfl, tcc 14 rfl rfl, tcc 6 rfl rfl, tcc 15 rfl rfl, tcc 7 rfl rfl,
    List.forall_mem_nil _⟩

/-! ### DONE and RETRY (rules R701, R702) -/

theorem restoredGl_eq_ofNat (s : State) (f : TrapFrame) : restoredGl s f
    = BitVec.ofNat 2 (min f.tstate.gl.toNat (if isHyper s = false ∧ f.htstate.hpriv = false then 2 else 3)) := by
  rw [restoredGl]
  generalize f.tstate.gl = gl
  cases isHyper s <;> cases f.htstate.hpriv <;> revert gl <;> decide

/-- What an instruction that returns from a trap does, in the order of its checks. -/
theorem returnFromTrap_outcomes {i : Instr} {s : State} {place : TrapFrame → DWord × DWord × Bool} {f : TrapFrame} {pc npc : DWord}
    {slot : Bool} (hf : f = frameAt s s.tl) (hi : exec i s = returnFromTrap s place) (hplace : place f = (pc, npc, slot)) :
    (isUser s = true → exec i s = .next (takeTrap s .privilegedOpcode))
    ∧ (isUser s = false → s.tl = 0 → exec i s = .next (takeTrap s .illegalInstruction))
    ∧ (isUser s = false → s.tl ≠ 0 → s.delaySlot = true → exec i s = .refused .doneRetryInDelaySlot)
    ∧ (isUser s = false → s.tl ≠ 0 → s.delaySlot = false →
        ∃ t, exec i s = .next t ∧ SameBytes s t
          ∧ t = { s with
              gl := BitVec.ofNat 2 (min f.tstate.gl.toNat (if isHyper s = false ∧ f.htstate.hpriv = false then 2 else 3))
              ccr := f.tstate.ccr, asi := f.tstate.asi, pstate := f.tstate.pstate
              win := { s.win with cwp := f.tstate.cwp }, hpstate := f.htstate, tl := s.tl - 1
              pc := pc, npc := npc, delaySlot := slot }) := by
  subst hf
  have mode (hu : isUser s = false) : ¬ isUser s = true := by rw [hu]; exact Bool.false_ne_true
  refine ⟨fun hu => hi.trans (if_pos hu), fun hu htl => hi.trans ((if_neg (mode hu)).trans (if_pos htl)),
    fun hu htl hd => hi.trans ((if_neg (mode hu)).trans ((if_neg htl).trans (if_pos hd))), fun hu htl hd => ?_⟩
  have hnotSlot : ¬ s.delaySlot = true := by rw [hd]; exact Bool.false_ne_true
  refine ⟨_, hi.trans ((if_neg (mode hu)).trans ((if_neg htl).trans (if_neg hnotSlot))), sameBytes_of rfl rfl, ?_⟩
  rw [hplace, trapReturn, restoredGl_eq_ofNat]

/-- Settles O16: DONE and RETRY differ only in the program counters, and the mark of a delay slot, that they read from the frame. -/
theorem doneAndRetryRestore : Obligations.DoneAndRetryRestore := by
  have done (s : State) (f : TrapFrame) (hf : f = frameAt s s.tl) := returnFromTrap_outcomes (i := .done)
    (place := fun f => (addressOfHigh62 f.tnpc, addressOfHigh62 f.tnpc + 4, false)) hf rfl rfl
  have retry (s : State) (f : TrapFrame) (hf : f = frameAt s s.tl) := returnFromTrap_outcomes (i := .retry)
    (place := fun f => (addressOfHigh62 f.tpc, addressOfHigh62 f.tnpc, f.delaySlot)) hf rfl rfl
  exact List.forall_mem_cons.mpr ⟨done, List.forall_mem_cons.mpr ⟨retry, List.forall_mem_nil _⟩⟩

/-! ### Floating-point moves (rules R1014 to R1045) -/

/-- The conditions of rule R604 in the order of their numbers. -/
def iccTable (c : CC) : List Bool :=
  [false, c.z, c.z || (c.n != c.v), c.n != c.v, c.c || c.z, c.c, c.n, c.v,
    true, !c.z, !(c.z || (c.n != c.v)), !(c.n != c.v), !(c.c || c.z), !c.c, !c.n, !c.v]

theorem icond_eq_iccTable (cond : BitVec 4) (c : CC) : icond cond c = (iccTable c)[cond.toNat]?.getD false := by
  obtain ⟨n, z, v, c⟩ := c
  revert cond n z v c; decide

section
variable {i : Instr} {s : State} {rd : BitVec 5} {b c : Bool} {f : Fsr}

/-- A move that ends in `moved` where `b` holds, and leaves `marked` where the FPU is disabled. -/
theorem fpMove_outcomes {moved marked : State} {P : State → Prop} (hi : exec i s =
      if fpuEnabled s then .next (advance (clearFpStatus (if b then moved else s))) else trapTo marked .fpDisabled)
    (hmoved : P (advance (clearFpStatus moved))) :
    (s.pstate.pef = true → s.fprs.fef = true → b = true → ∃ t, exec i s = .next t ∧ P t)
    ∧ (s.pstate.pef = true → s.fprs.fef = true → b = false → ∃ t, exec i s = .next t ∧ t = advance (clearFpStatus s))
    ∧ (s.pstate.pef = false ∨ s.fprs.fef = false → exec i s = .next (takeTrap marked .fpDisabled)) := by
  refine ⟨?moves, ?stays, fun h => hi.trans (if_neg (not_fpuEnabled_of h))⟩
  case moves =>
    rintro hp hf rfl
    exact ⟨_, hi.trans (if_pos (fpuEnabled_of hp hf)), hmoved⟩
  case stays =>
    rintro hp hf rfl
    exact ⟨_, hi.trans (if_pos (fpuEnabled_of hp hf)), rfl⟩

theorem moveFS_outcomes {v : Word} (hf : f = { s.fsr with ftt := 0, cexc := IeeeFlags.none }) (hi : exec i s = moveFS s b rd v)
    (hb : b = c) :
    (s.pstate.pef = true → s.fprs.fef = true → c = true → ∃ t, exec i s = .next t ∧ ResultFS s t rd v f)
    ∧ (s.pstate.pef = true → s.fprs.fef = true → c = false → ∃ t, exec i s = .next t ∧ t = advance { s with fsr := f })
    ∧ (s.pstate.pef = false ∨ s.fprs.fef = false → exec i s = .next (takeTrap { s with fprs := dirtyLower s.fprs } .fpDisabled)) := by
  subst hb hf
  exact fpMove_outcomes hi (resultFS_setFS s rd v { s.fsr with ftt := 0, cexc := IeeeFlags.none })

theorem clearFpStatus_setFD (s : State) (rd : BitVec 5) (v : DWord) : clearFpStatus (setFD s rd v)
    = setFD { s with fsr := { s.fsr with ftt := 0, cexc := IeeeFlags.none } } rd v := by
  unfold clearFpStatus setFD setFDn markFDn; split <;> rfl

theorem moveFD_outcomes {v : DWord} (hf : f = { s.fsr with ftt := 0, cexc := IeeeFlags.none }) (hi : exec i s = moveFD s b rd v)
    (hb : b = c) :
    (s.pstate.pef = true → s.fprs.fef = true → c = true → ∃ t, exec i s = .next t ∧ ResultFD s t rd v f)
    ∧ (s.pstate.pef = true → s.fprs.fef = true → c = false → ∃ t, exec i s = .next t ∧ t = advance { s with fsr := f })
    ∧ (s.pstate.pef = false ∨ s.fprs.fef = false →
      exec i s = .next (takeTrap { s with fprs := dirtyDouble s.fprs rd } .fpDisabled)) := by
  subst hb hf
  rw [moveFD, markFD_eq] at hi
  exact fpMove_outcomes hi (clearFpStatus_setFD s rd v ▸ resultFD_setFD s rd v _)

end

/-- Settles O57: each is `moveFS` or `moveFD`, always or under a condition read from the tables. -/
theorem floatingPointMoves : Obligations.FloatingPointMoves := by
  intro rd rs1 rs2 cond cc s icc xcc fcc k e l g u' b y u f hb hy hu hf hicc hxcc hk he hl hg hu' hfcc
  subst hb hy hu
  obtain rfl : icc = iccTable s.ccr.icc := hicc _ rfl
  obtain rfl : xcc = iccTable s.ccr.xcc := hxcc _ rfl
  obtain rfl : k = fsrFcc s.fsr cc := hk
  subst he hl hg hu'
  obtain rfl : fcc = fccTable (fsrFcc s.fsr cc) := hfcc
  constructor
  · repeat rw [List.forall_mem_cons]
    exact ⟨moveFS_outcomes hf rfl rfl, moveFS_outcomes hf rfl rfl, moveFS_outcomes hf rfl rfl,
      moveFS_outcomes hf rfl (icond_eq_iccTable _ _), moveFS_outcomes hf rfl (icond_eq_iccTable _ _),
      moveFS_outcomes hf rfl (fcond_eq_fccTable _ _), moveFS_outcomes hf rfl (rtest_zero _),
      moveFS_outcomes hf rfl (rtest_notPositive _), moveFS_outcomes hf rfl (rtest_negative _),
      moveFS_outcomes hf rfl (rtest_notZero _), moveFS_outcomes hf rfl (rtest_positive _),
      moveFS_outcomes hf rfl (rtest_notNegative _), List.forall_mem_nil _⟩
  · repeat rw [List.forall_mem_cons]
    exact ⟨moveFD_outcomes hf rfl rfl, moveFD_outcomes hf rfl rfl, moveFD_outcomes hf rfl rfl,
      moveFD_outcomes hf rfl (icond_eq_iccTable _ _), moveFD_outcomes hf rfl (icond_eq_iccTable _ _),
      moveFD_outcomes hf rfl (fcond_eq_fccTable _ _), moveFD_outcomes hf rfl (rtest_zero _),
      moveFD_outcomes hf rfl (rtest_notPositive _), moveFD_outcomes hf rfl (rtest_negative _),
      moveFD_outcomes hf rfl (rtest_notZero _), moveFD_outcomes hf rfl (rtest_positive _),
      moveFD_outcomes hf rfl (rtest_notNegative _), List.forall_mem_nil _⟩

end Sys2Proof.Machine

/-! PROOFS. The integer loads and stores (O33, O34), the twin ones (O35), the atomic load-stores (O36), and PREFETCH, the barriers
and FLUSH (O43). -/

namespace Sys2Proof.Machine

/-! ### Loads (rules R740 to R747) -/

/-- The low bytes of a value, sign-extended. -/
theorem signExtend_eq_extended (n : Nat) (hn : n ≤ 8) (v : DWord) :
    (v.extractLsb' 0 (8 * n)).signExtend 64 = extended n true v := by
  rw [extended, if_pos rfl, BitVec.setWidth_eq_extractLsb' (by omega)]; rfl

section
variable {i : Instr} {s : State} {rd rs1 : BitVec 5} {n : Nat} {g : Target}

theorem load_completes {op2 : RegOrImm13} {signed : Bool} {ext : DWord → DWord}
    (ht : translate s .load false (implicitAsi s) (maskAm s (getR s rs1 + src2 s op2)) = .ok g)
    (hi : exec i s = loadR s rd rs1 op2 n ext) (hext : ∀ v, ext v = extended n signed v) (hn : n ≤ 8)
    (ha : (getR s rs1 + src2 s op2).toNat % n = 0) :
    ∃ t v, exec i s = .next t ∧ Loaded s g.pa n g.little v ∧ ResultR s t rd (extended n signed v) := by
  simpa only [hi, hext] using loadR_next (rd := rd) (ext := ext) hn ((alignedTo_iff _ n).mpr ha) ht

theorem loadAlternate_completes {ea : AsiOperand} {signed : Bool} {ext : DWord → DWord}
    (hp : asiPermitted s (asiNumber s ea) = true) (hc : admitsLoad (asiClass (asiNumber s ea)) = true)
    (ht : translate s .load false (asiNumber s ea) (maskAm s (asiAddress s rs1 ea)) = .ok g)
    (hi : exec i s = loadAlternateR s rd rs1 ea n ext) (hext : ∀ v, ext v = extended n signed v) (hn : n ≤ 8)
    (ha : (asiAddress s rs1 ea).toNat % n = 0) :
    ∃ t v, exec i s = .next t ∧ Loaded s g.pa n g.little v ∧ ResultR s t rd (extended n signed v) := by
  simpa only [hi, hext] using loadAlternateR_next (rd := rd) (ext := ext) hn ((alignedTo_iff _ n).mpr ha) hp hc ht

/-- LDXA of an ASI that admits loads is a load like the others, not one of a register. -/
theorem exec_ldxa_memory {ea : AsiOperand} (hc : admitsLoad (asiClass (asiNumber s ea)) = true) :
    exec (.ldxa rd rs1 ea) s = loadAlternateR s rd rs1 ea 8 id := by
  rw [exec_ldxa_eq, loadAlternate8_memory hc]
  simp only [bind_assoc]; rfl

end

/-- Settles O33: each load is `loadR` or `loadAlternateR` with its size and its extension. -/
theorem loads : Obligations.Loads := by
  intro rd rs1 s a g
  have unsigned (n : Nat) (v : DWord) : id v = extended n false v := rfl
  constructor
  · rintro op2 rfl ht
    simp only [List.forall_mem_cons]
    exact ⟨load_completes ht (exec_ldsb ..) (signExtend_eq_extended 1 (by decide)) (by decide),
      load_completes ht (exec_ldsh ..) (signExtend_eq_extended 2 (by decide)) (by decide),
      load_completes ht (exec_ldsw ..) (signExtend_eq_extended 4 (by decide)) (by decide),
      load_completes ht (exec_ldub ..) (unsigned 1) (by decide), load_completes ht (exec_lduh ..) (unsigned 2) (by decide),
      load_completes ht (exec_lduw ..) (unsigned 4) (by decide), load_completes ht (exec_ldx ..) (unsigned 8) (by decide),
      List.forall_mem_nil _⟩
  · rintro ea _ rfl rfl hp hc ht
    simp only [List.forall_mem_cons]
    exact ⟨loadAlternate_completes hp hc ht (exec_ldsba ..) (signExtend_eq_extended 1 (by decide)) (by decide),
      loadAlternate_completes hp hc ht (exec_ldsha ..) (signExtend_eq_extended 2 (by decide)) (by decide),
      loadAlternate_completes hp hc ht (exec_ldswa ..) (signExtend_eq_extended 4 (by decide)) (by decide),
      loadAlternate_completes hp hc ht (exec_lduba ..) (unsigned 1) (by decide),
      loadAlternate_completes hp hc ht (exec_lduha ..) (unsigned 2) (by decide),
      loadAlternate_completes hp hc ht (exec_lduwa ..) (unsigned 4) (by decide),
      loadAlternate_completes hp hc ht (exec_ldxa_memory hc) (unsigned 8) (by decide), List.forall_mem_nil _⟩

/-! ### Stores (rules R755 to R759) -/

section
variable {i : Instr} {s : State} {rd rs1 : BitVec 5} {n : Nat} {g : Target}

theorem store_completes {op2 : RegOrImm13} (hw : Memory.wf s.paWidth s.memory = true)
    (ht : translate s .store false (implicitAsi s) (maskAm s (getR s rs1 + src2 s op2)) = .ok g)
    (hi : exec i s = storeR s rd rs1 op2 n) (hn : n ≤ 8) (ha : (getR s rs1 + src2 s op2).toNat % n = 0) :
    ∃ t, exec i s = .next t ∧ ResultStore s t g.pa n g.little (getR s rd) :=
  hi ▸ storeR_next hw hn ((alignedTo_iff _ n).mpr ha) ht

theorem storeAlternate_completes {ea : AsiOperand} (hw : Memory.wf s.paWidth s.memory = true)
    (hp : asiPermitted s (asiNumber s ea) = true) (hc : admitsStore (asiClass (asiNumber s ea)) = true)
    (ht : translate s .store false (asiNumber s ea) (maskAm s (asiAddress s rs1 ea)) = .ok g)
    (hi : exec i s = storeAlternateR s rd rs1 ea n) (hn : n ≤ 8) (ha : (asiAddress s rs1 ea).toNat % n = 0) :
    ∃ t, exec i s = .next t ∧ ResultStore s t g.pa n g.little (getR s rd) :=
  hi ▸ storeAlternateR_next hw hn ((alignedTo_iff _ n).mpr ha) hp hc ht

/-- STXA of an ASI that admits stores is a store like the others, not one to a register. -/
theorem exec_stxa_memory {ea : AsiOperand} (hc : admitsStore (asiClass (asiNumber s ea)) = true) :
    exec (.stxa rd rs1 ea) s = storeAlternateR s rd rs1 ea 8 := by
  rw [exec_stxa_eq, storeAlternate8_memory hc]
  simp only [bind_assoc]; rfl

end

/-- Settles O34: each store is `storeR` or `storeAlternateR` with its size. -/
theorem stores : Obligations.Stores := by
  intro rd rs1 s a g hw
  constructor
  · rintro op2 rfl ht
    simp only [List.forall_mem_cons]
    exact ⟨store_completes hw ht (exec_stb ..) (by decide), store_completes hw ht (exec_sth ..) (by decide),
      store_completes hw ht (exec_stw ..) (by decide), store_completes hw ht (exec_stx ..) (by decide), List.forall_mem_nil _⟩
  · rintro ea _ rfl rfl hp hc ht
    simp only [List.forall_mem_cons]
    exact ⟨storeAlternate_completes hw hp hc ht (exec_stba ..) (by decide),
      storeAlternate_completes hw hp hc ht (exec_stha ..) (by decide),
      storeAlternate_completes hw hp hc ht (exec_stwa ..) (by decide),
      storeAlternate_completes hw hp hc ht (exec_stxa_memory hc) (by decide), List.forall_mem_nil _⟩

/-! ### Register pairs (rules R750 to R752, R760, R761) -/

theorem setPair_eq (s : State) (rd : BitVec 5) (v : DWord × DWord) :
    setPair s rd v = { s with globals := (setPair s rd v).globals, windows := (setPair s rd v).windows } := by
  unfold setPair
  conv_lhs => rw [setR_eq]
  simp

/-- The end of a twin load writes the pair and nothing else. -/
theorem setPair_frame (s : State) (rd : BitVec 5) (v0 v1 : DWord) {t : State} (ht : t = advance (setPair s rd (v0, v1))) :
    WrotePair s t rd v0 v1 ∧ SameBytes s t ∧ t = advance { s with globals := t.globals, windows := t.windows } := by
  subst ht
  refine ⟨⟨setR s rd v0, wroteR_setR s rd v0, setR_eq s rd v0, wroteR_setR (setR s rd v0) (rd + 1) v1⟩,
    sameBytes_of (by simp [setPair]) (by simp [setPair]), ?_⟩
  conv_lhs => rw [setPair_eq]
  rfl

section
variable {i : Instr} {s : State} {rd : BitVec 5} {check : Effect Unit} {asi : Byte} {a : DWord} {g0 g1 : Target}

theorem loadPair_of (h0 : translate s .load false asi (maskAm s a) = .ok g0)
    (h1 : translate s .load false asi (maskAm s (a + 4)) = .ok g1) : loadPair s asi a =
      .ok (readMem s.paWidth s.memory g0.pa 4 g0.little, readMem s.paWidth s.memory g1.pa 4 g1.little) := by
  rw [loadPair, loadAt_of h0, loadAt_of h1]; rfl

theorem loadTwinAt_of (h : translate s .load true asi (maskAm s a) = .ok g0) :
    loadTwinAt s asi a = .ok (readMem s.paWidth s.memory g0.pa 8 g0.little) := by
  rw [loadTwinAt, h]; rfl

/-- An instruction that ends with a write of what `n` bytes at two addresses hold to a register pair. -/
theorem pair_completes {n : Nat} (hn : n ≤ 8) (hi : exec i s = .next (advance (setPair s rd
      (readMem s.paWidth s.memory g0.pa n g0.little, readMem s.paWidth s.memory g1.pa n g1.little)))) :
    ∃ t v0 v1, exec i s = .next t ∧ Loaded s g0.pa n g0.little v0 ∧ Loaded s g1.pa n g1.little v1
      ∧ WrotePair s t rd v0 v1 ∧ SameBytes s t ∧ t = advance { s with globals := t.globals, windows := t.windows } :=
  ⟨_, _, _, hi, loaded_readMem s g0.pa hn g0.little, loaded_readMem s g1.pa hn g1.little, setPair_frame s rd _ _ rfl⟩

theorem twinLoad_completes (hi : exec i s = complete (check >>= fun _ =>
      loadPair s asi a >>= fun v => .ok (advance (setPair s rd v))))
    (hcheck : check = .ok ()) (h0 : translate s .load false asi (maskAm s a) = .ok g0)
    (h1 : translate s .load false asi (maskAm s (a + 4)) = .ok g1) :
    ∃ t v0 v1, exec i s = .next t ∧ Loaded s g0.pa 4 g0.little v0 ∧ Loaded s g1.pa 4 g1.little v1
      ∧ WrotePair s t rd v0 v1 ∧ SameBytes s t ∧ t = advance { s with globals := t.globals, windows := t.windows } :=
  pair_completes (by decide) (by rw [hi, complete_passed hcheck, loadPair_of h0 h1]; rfl)

/-- One store replaces memory, by one in canonical form, and nothing else. -/
theorem storeAt_next {n : Nat} {v : DWord} (hw : Memory.wf s.paWidth s.memory = true) (hn : n ≤ 8)
    (h : translate s .store false asi (maskAm s a) = .ok g0) :
    ∃ m, storeAt s asi a n v = .ok { s with memory := m } ∧ Stored s { s with memory := m } g0.pa n g0.little v
      ∧ Memory.wf s.paWidth m = true :=
  ⟨_, storeAt_of h, stored_writeMem hw hn rfl, wf_writeMem hw _ _ _ _⟩

/-- The second store of a pair goes where it would have gone before the first: translation does not read memory. -/
theorem storePair_next {v0 v1 : DWord} (hw : Memory.wf s.paWidth s.memory = true)
    (h0 : translate s .store false asi (maskAm s a) = .ok g0) (h1 : translate s .store false asi (maskAm s (a + 4)) = .ok g1) :
    ∃ u t, storePair s asi a v0 v1 = .ok t ∧ Stored s u g0.pa 4 g0.little v0 ∧ Stored u t g1.pa 4 g1.little v1
      ∧ t = { s with memory := t.memory } := by
  obtain ⟨m0, hrun0, hstored0, hw0⟩ := storeAt_next (n := 4) (v := v0) hw (by decide) h0
  obtain ⟨m1, hrun1, hstored1, -⟩ := storeAt_next (s := { s with memory := m0 }) (n := 4) (v := v1) hw0 (by decide)
    (translate_memory m0 h1)
  exact ⟨_, _, by rw [storePair, hrun0, ok_bind, hrun1], hstored0, hstored1, rfl⟩

theorem twinStore_completes (hi : exec i s = complete (check >>= fun _ =>
      storePair s asi a (getR s rd) (getR s (rd + 1)) >>= fun t => .ok (advance t)))
    (hcheck : check = .ok ()) (hw : Memory.wf s.paWidth s.memory = true)
    (h0 : translate s .store false asi (maskAm s a) = .ok g0) (h1 : translate s .store false asi (maskAm s (a + 4)) = .ok g1) :
    ∃ t u, exec i s = .next t ∧ Stored s u g0.pa 4 g0.little (getR s rd) ∧ Stored u t g1.pa 4 g1.little (getR s (rd + 1))
      ∧ t = advance { s with memory := t.memory } := by
  obtain ⟨u, t, hrun, hs0, hs1, ht⟩ := storePair_next (v0 := getR s rd) (v1 := getR s (rd + 1)) hw h0 h1
  exact ⟨advance t, u, by rw [hi, complete_passed hcheck, hrun]; rfl, hs0, hs1, congrArg advance ht⟩

end

/-- Settles O35: an odd rd is refused first; an even one leaves the checks of the access and its two halves. -/
theorem twinLoadsAndStores : Obligations.TwinLoadsAndStores := by
  intro rd rs1 rs2 s a g0 g1
  refine ⟨fun hodd op2 ea asi => ?_, fun heven => ⟨fun i asi h8 hi h0 h1 => ?_, fun asi ha h16 x hx hp h0 h1 => ?_,
    fun i asi hw h8 hi h0 h1 => ?_⟩⟩
  · have illegal {k : Run} : (if oddRd rd then trapTo s .illegalInstruction else k) = .next (takeTrap s .illegalInstruction) :=
      if_pos hodd
    simp only [List.forall_mem_cons]
    exact ⟨illegal, illegal, illegal, illegal, illegal, List.forall_mem_nil _⟩
  · have haligned := requireAligned_of (s := s) ((alignedTo_iff a 8).mpr h8)
    rcases hi with ⟨op2, rfl, rfl, rfl⟩ | ⟨ea, rfl, rfl, rfl, hp, hc⟩
    · exact twinLoad_completes (ite_oddRd_of_even heven _ _) haligned h0 h1
    · exact twinLoad_completes (ite_oddRd_of_even heven _ _) (requireAsi_of (acc := .load) hp hc haligned) h0 h1
  · subst ha
    obtain rfl : x = twinAsi asi := hx
    have haligned := requireAligned_of (s := s) ((alignedTo_iff (getR s rs1 + getR s rs2) 16).mpr h16)
    refine pair_completes (by decide) ?_
    calc exec (.ldtxa rd rs1 rs2 asi) s
        = _ := ite_oddRd_of_even heven _ _
      _ = _ := complete_passed haligned _
      _ = _ := complete_passed (requirePermitted_of hp) _
      _ = _ := by
        simp only [walked_eq]
        rw [loadTwinAt_of h0, ok_bind, loadTwinAt_of h1]; rfl
  · have haligned := requireAligned_of (s := s) ((alignedTo_iff a 8).mpr h8)
    rcases hi with ⟨op2, rfl, rfl, rfl⟩ | ⟨ea, rfl, rfl, rfl, hp, hc⟩
    · exact twinStore_completes (ite_oddRd_of_even heven _ _) haligned hw h0 h1
    · exact twinStore_completes (ite_oddRd_of_even heven _ _) (requireAsi_of (acc := .store) hp hc haligned) hw h0 h1

/-! ### Atomic load-stores (rules R765 to R771) -/

section
variable {i : Instr} {s : State} {rd : BitVec 5} {asi : Byte} {a : DWord} {n : Nat} {g : Target}

/-- An atomic load-store that always stores, in an alternate space. -/
theorem atomicAlternate_completes {new : DWord} (hw : Memory.wf s.paWidth s.memory = true)
    (ht : translate s .atomic false asi (maskAm s a) = .ok g) (hp : asiPermitted s asi = true)
    (hc : admitsAtomic (asiClass asi) = true) (ha : a.toNat % n = 0)
    (hi : exec i s = atomicAlternateR s rd asi a n fun _ => some new) (hn : n ≤ 8) :
    ∃ t old, exec i s = .next t ∧ Loaded s g.pa n g.little old ∧ ResultAtomic s t rd old g.pa n g.little new := by
  obtain ⟨t, old, hrun, hold, -, hwrote, -⟩ := atomicAlternateR_next (rd := rd) (new := fun _ => some new) hw hn
    ((alignedTo_iff a n).mpr ha) hp hc ht
  exact ⟨t, old, hi.trans hrun, hold, hwrote new rfl⟩

/-- A compare-and-swap stores where the old value is the expected one, and writes R[rd] in any case. -/
theorem compareAndSwap_completes {expected new v : DWord} (hw : Memory.wf s.paWidth s.memory = true)
    (ht : translate s .atomic false asi (maskAm s a) = .ok g) (hp : asiPermitted s asi = true)
    (hc : admitsAtomic (asiClass asi) = true) (hi : exec i s = atomicAlternateR s rd asi a n (swapIfEqual expected new))
    (hexpected : expected.toNat = v.toNat % 2 ^ (8 * n)) (hn : n ≤ 8) (ha : a.toNat % n = 0) :
    ∃ t old, exec i s = .next t ∧ Loaded s g.pa n g.little old
      ∧ (old.toNat = v.toNat % 2 ^ (8 * n) → ResultAtomic s t rd old g.pa n g.little new)
      ∧ (old.toNat ≠ v.toNat % 2 ^ (8 * n) → ResultR s t rd old) := by
  obtain ⟨t, old, hrun, hold, -, hwrote, hkept⟩ := atomicAlternateR_next (rd := rd) (new := swapIfEqual expected new) hw hn
    ((alignedTo_iff a n).mpr ha) hp hc ht
  rw [← hexpected]
  exact ⟨t, old, hi.trans hrun, hold, fun he => hwrote new (if_pos (BitVec.toNat_inj.mp he)),
    fun he => hkept (if_neg (mt (congrArg BitVec.toNat) he))⟩

end

theorem toNat_word64 (v : DWord) : (word64 v).toNat = v.toNat % 2 ^ 32 := by
  rw [word64, BitVec.toNat_setWidth_of_le (by decide), extractLsb'_zero_toNat]

/-- Settles O36: LDSTUB and SWAP always store, CASA and CASXA where the comparison holds. -/
theorem atomicLoadStores : Obligations.AtomicLoadStores := by
  intro rd rs1 rs2 s a g asi hw ht
  constructor
  · rintro op2 ea n new i ha (⟨hform, rfl, rfl⟩ | ⟨hform, rfl, rfl, hp, hc⟩)
    · have haligned := (alignedTo_iff _ n).mpr ha
      rcases hform with ⟨rfl, rfl, rfl⟩ | ⟨rfl, rfl, rfl⟩
      · exact atomicR_next hw (by decide) haligned ht rfl
      · exact atomicR_next hw (by decide) haligned ht rfl
    · rcases hform with ⟨rfl, rfl, rfl⟩ | ⟨rfl, rfl, rfl⟩
      · exact atomicAlternate_completes hw ht hp hc ha rfl (by decide)
      · exact atomicAlternate_completes hw ht hp hc ha rfl (by decide)
  · rintro sel rfl hasi hp hc
    obtain rfl : asi = casAsi s sel := hasi.trans (by cases sel <;> rfl)
    simp only [List.forall_mem_cons]
    exact ⟨compareAndSwap_completes hw ht hp hc rfl (toNat_word64 _) (by decide),
      compareAndSwap_completes hw ht hp hc rfl (Nat.mod_eq_of_lt (getR s rs2).isLt).symm (by decide), List.forall_mem_nil _⟩

/-! ### Prefetch, barriers, FLUSH (rules R775 to R786, R1408) -/

theorem prefetchReserved_iff (fcn : BitVec 5) : prefetchReserved fcn = true ↔ 5 ≤ fcn.toNat ∧ fcn.toNat ≤ 15 := by
  simp [prefetchReserved]

theorem prefetch_outcomes {i : Instr} {s : State} {fcn : BitVec 5} (hi : exec i s = prefetchHint s fcn) :
    (5 ≤ fcn.toNat ∧ fcn.toNat ≤ 15 → exec i s = .next (takeTrap s .illegalInstruction))
    ∧ (¬(5 ≤ fcn.toNat ∧ fcn.toNat ≤ 15) → ∃ t, exec i s = .next t ∧ t = advance s ∧ SameBytes s t) := by
  rw [← prefetchReserved_iff]
  exact ⟨fun h => hi.trans (if_pos h), fun h => ⟨_, hi.trans (if_neg h), rfl, sameBytes_of rfl rfl⟩⟩

/-- A strand that STRAND_RUNNING no longer names does not run once its parking is complete (rule R1408). -/
theorem isRunning_parkComplete {s : State} (h : s.cmt.running.getLsbD s.chip.strand.toNat = false) :
    isRunning (parkComplete s) = false := by
  obtain ⟨-, hstatus⟩ := parkingCompleted_parkComplete s
  calc isRunning (parkComplete s)
      = (parkComplete s).cmt.runningStatus.getLsbD s.chip.strand.toNat := namesOwn_eq _ _
    _ = false := by rw [hstatus, h]; simp

/-- Settles O43: a barrier advances, FLUSH completes the parking first, a prefetch is a NOP unless its function is reserved. -/
theorem prefetchBarriersAndFlush : Obligations.PrefetchBarriersAndFlush := by
  intro s fcn rs1 op2 ea cmask mmask
  refine ⟨?barriers, ⟨parkComplete s, rfl, parkingCompleted_parkComplete s, sameBytes_of rfl rfl, parkComplete_of_running,
    isRunning_parkComplete⟩, ?prefetches⟩
  case barriers =>
    simp only [List.forall_mem_cons]
    exact ⟨⟨_, rfl, rfl, sameBytes_of rfl rfl⟩, ⟨_, rfl, rfl, sameBytes_of rfl rfl⟩, List.forall_mem_nil _⟩
  case prefetches =>
    simp only [List.forall_mem_cons]
    exact ⟨prefetch_outcomes rfl, prefetch_outcomes rfl, List.forall_mem_nil _⟩

end Sys2Proof.Machine

/-! PROOFS. The stores that change the TLBs (O39): the entry of a tag and a TTE word, when two entries match one address, and the registers
of the instruction and the data TLB. -/

namespace Sys2Proof.Machine

/-! ### Pages (rules R1371, R1373) -/

/-- Clearing the low `k` bits rounds down to a multiple of `2 ^ k`. -/
theorem and_not_lowMask (a : DWord) (k : Nat) :
    a &&& ~~~(BitVec.ofNat 64 (2 ^ k - 1)) = BitVec.ofNat 64 (a.toNat / 2 ^ k * 2 ^ k) := by
  refine BitVec.eq_of_getLsbD_eq fun i hi => ?_
  rw [BitVec.getLsbD_and, BitVec.getLsbD_not, BitVec.getLsbD_ofNat, BitVec.getLsbD_ofNat, Nat.testBit_two_pow_sub_one,
    Nat.testBit_mul_two_pow, Nat.testBit_div_two_pow]
  by_cases hk : k ≤ i
  · simp [hi, hk, show ¬ i < k by omega, BitVec.testBit_toNat]
  · simp [hi, hk, show i < k by omega]

theorem pageBase_eq (size : PageSize) (a : DWord) :
    pageBase size a = BitVec.ofNat 64 (a.toNat / size.bytes * size.bytes) := by
  cases size
  · exact and_not_lowMask a 13
  · exact and_not_lowMask a 16
  · exact and_not_lowMask a 22
  · exact and_not_lowMask a 28

/-- The physical page of a TTE word is bits 55:13 of it, less the offset within the page (rule R1373). -/
theorem pageBase_tte (size : PageSize) (v : DWord) :
    pageBase size ((v.extractLsb' 13 43 ++ 0#13).setWidth 64) = BitVec.ofNat 64 (v.toNat % 2 ^ 56 / size.bytes * size.bytes) := by
  have hfield : ((v.extractLsb' 13 43 ++ 0#13).setWidth 64).toNat = v.toNat / 2 ^ 13 % 2 ^ 43 * 2 ^ 13 := by
    rw [BitVec.toNat_setWidth, BitVec.toNat_append, BitVec.extractLsb'_toNat, BitVec.toNat_ofNat, Nat.zero_mod, Nat.or_zero,
      Nat.shiftLeft_eq, Nat.shiftRight_eq_div_pow]
    omega
  rw [pageBase_eq, hfield]
  congr 1
  cases size <;> simp only [PageSize.bytes] <;> omega

/-- The codes of field `sz` and the pages they stand for (rule R1373). -/
theorem pageSizeOf_codes :
    ∀ p ∈ ([(0, .p8K, 0x2000), (1, .p64K, 0x10000), (3, .p4M, 0x400000), (5, .p256M, 0x10000000)] :
      List (BitVec 4 × PageSize × Nat)), pageSizeOf p.1 = some p.2.1 ∧ p.2.2 = p.2.1.bytes := by
  decide

theorem pageSizeOf_reserved : ∀ sz : BitVec 4, sz ∉ ([0, 1, 3, 5] : List (BitVec 4)) → pageSizeOf sz = none := by
  decide

/-! ### The entry of a tag and a TTE word (rules R1372, R1373) -/

theorem tteEntry_none {v : DWord} (h : v.getLsbD 63 = false ∨ v.extractLsb' 0 4 ∉ ([0, 1, 3, 5] : List (BitVec 4)))
    (tag : TlbTag) (partition : DWord) : tteEntry tag partition v = none := by
  rcases h with hvalid | hsize
  · rw [tteEntry, flagAt, hvalid]; rfl
  · rw [tteEntry, pageSizeOf_reserved _ hsize, Option.map_none, ite_self]

theorem tteEntry_some {v : DWord} {size : PageSize} (hvalid : v.getLsbD 63 = true)
    (hsize : pageSizeOf (v.extractLsb' 0 4) = some size) (tag : TlbTag) (partition : DWord) :
    tteEntry tag partition v = some ⟨tag.real, partition, tag.context,
      BitVec.ofNat 64 (tag.address.toNat / size.bytes * size.bytes), size,
      BitVec.ofNat 64 (v.toNat % 2 ^ 56 / size.bytes * size.bytes), v.getLsbD 62, v.getLsbD 12, v.getLsbD 11, v.getLsbD 10,
      v.getLsbD 9, v.getLsbD 8, v.getLsbD 7, v.getLsbD 6⟩ := by
  rw [tteEntry, flagAt, if_pos hvalid, hsize, Option.map_some, pageBase_eq, pageBase_tte]; rfl

/-! ### Entries that match an address (rule R1374) -/

theorem tlbMatches_iff (q : DWord) (x : Option (BitVec 16)) (b : DWord) (e : TlbEntry) : tlbMatches q x b e = true ↔
    e.partition = q ∧ e.base.toNat ≤ b.toNat ∧ b.toNat < e.base.toNat + e.size.bytes
      ∧ (match x with | none => e.real = true | some c => e.real = false ∧ e.context = c) := by
  cases x <;> simp [tlbMatches, and_assoc]

/-- Two entries that conflict both match the higher of their first addresses. -/
theorem exists_matches_of_conflict {d e : TlbEntry} (h : entriesConflict d e = true) :
    ∃ q x y, tlbMatches q x y d = true ∧ tlbMatches q x y e = true := by
  simp only [entriesConflict, Bool.and_eq_true, Bool.or_eq_true, beq_iff_eq, decide_eq_true_eq] at h
  obtain ⟨⟨⟨⟨hreal, hpartition⟩, hcontext⟩, hde⟩, hed⟩ := h
  have hd := PageSize.bytes_pos d.size
  have he := PageSize.bytes_pos e.size
  obtain ⟨y, hyd, hyd', hye, hye'⟩ : ∃ y : DWord, d.base.toNat ≤ y.toNat ∧ y.toNat < d.base.toNat + d.size.bytes
      ∧ e.base.toNat ≤ y.toNat ∧ y.toNat < e.base.toNat + e.size.bytes := by
    rcases le_total d.base.toNat e.base.toNat with hle | hle
    · exact ⟨e.base, by omega⟩
    · exact ⟨d.base, by omega⟩
  cases hr : d.real with
  | true =>
    exact ⟨d.partition, none, y, (tlbMatches_iff ..).mpr ⟨rfl, hyd, hyd', hr⟩,
      (tlbMatches_iff ..).mpr ⟨hpartition.symm, hye, hye', hreal ▸ hr⟩⟩
  | false =>
    have hsame : d.context = e.context := hcontext.resolve_left (by simp [hr])
    exact ⟨d.partition, some d.context, y, (tlbMatches_iff ..).mpr ⟨rfl, hyd, hyd', hr, rfl⟩,
      (tlbMatches_iff ..).mpr ⟨hpartition.symm, hye, hye', hreal ▸ hr, hsame.symm⟩⟩

theorem any_conflict_iff {tlb : List TlbEntry} {e : TlbEntry} : tlb.any (entriesConflict e) = true ↔
    ∃ d ∈ tlb, ∃ q x y, tlbMatches q x y d = true ∧ tlbMatches q x y e = true := by
  rw [List.any_eq_true]
  refine exists_congr fun d => and_congr_right' ⟨fun h => ?_, ?_⟩
  · exact exists_matches_of_conflict ((entriesConflict_comm d e).trans h)
  · rintro ⟨q, x, y, hd, he⟩
    exact conflict_of_matches he hd

/-! ### A data-in store (rule R1382, decision D32) -/

/-- A TTE word without an entry installs nothing. -/
theorem DataIn.sublist_of_reserved {c : Option Nat} {old new : List TlbEntry} {tag : TlbTag} {v : DWord} (h : DataIn c old new tag v)
    (hv : v.getLsbD 63 = false ∨ v.extractLsb' 0 4 ∉ ([0, 1, 3, 5] : List (BitVec 4))) : new.Sublist old := by
  obtain ⟨partition, h⟩ := h
  rwa [tteEntry_none hv] at h

/-- An unbounded TLB takes the entry of the tag and the TTE word, unless an entry it holds matches an address that this one matches. -/
theorem DataIn.exists_partition {old new : List TlbEntry} {tag : TlbTag} {v : DWord} (h : DataIn none old new tag v) :
    ∃ partition, ∀ e, tteEntry tag partition v = some e →
      ((∀ d ∈ old, ∀ q x y, ¬(tlbMatches q x y d = true ∧ tlbMatches q x y e = true)) → new = e :: old)
      ∧ ((∃ d ∈ old, ∃ q x y, tlbMatches q x y d = true ∧ tlbMatches q x y e = true) → new.Sublist old) := by
  obtain ⟨partition, h⟩ := h
  refine ⟨partition, fun e he => ?_⟩
  simp only [he] at h
  refine ⟨fun hnone => ?_, fun hsome => ?_⟩
  · rwa [if_neg] at h
    rw [any_conflict_iff]
    rintro ⟨d, hd, q, x, y, hm⟩
    exact hnone d hd q x y hm
  · rwa [if_pos (any_conflict_iff.mpr hsome)] at h

/-! ### The registers of one TLB (rules R342, R1382) -/

/-- The four ASIs of a TLB's registers, and what the constraints of rule R1382 say of the stores to them: of the TLB `tlb`, which the
tag access register's `tag` is for, and of the other one. -/
structure TlbRegisters (m : Mmu) (tlb other : Mmu → List TlbEntry) (tag : TlbTag) (inAsi accessAsi demapAsi tagAsi : Byte) : Prop where
  in_writeOnly : mmuWriteOnly inAsi 0 = true
  demap_writeOnly : mmuWriteOnly demapAsi 0 = true
  access_readWrite : ∀ va, mmuReadWrite accessAsi va = isDataAccessVa va
  tag_readOnly : ∀ va, mmuReadOnly tagAsi va = decide (va.toNat ≤ 0xFFFF8)
  dataIn : ∀ {v n}, MmuStxaLawful m inAsi 0 v n → DataIn none (tlb m) (tlb n) tag v
  demap : ∀ {v n}, MmuStxaLawful m demapAsi 0 v n → (tlb n).Sublist (tlb m) ∧ (other n).Sublist (other m)
  lawful : ∀ {asi b v n}, MmuStxaLawful m asi b v n →
    InstallsLawfully (tlb m) (tlb n) ∧ InstallsLawfully (other m) (other n)

theorem tlbRegisters_instruction (m : Mmu) : TlbRegisters m (fun m => m.itlb) (fun m => m.dtlb)
    (Config.tagAccessDecode m.itagAccess) 0x54 0x55 0x57 0x56 where
  in_writeOnly := rfl
  demap_writeOnly := rfl
  access_readWrite _ := rfl
  tag_readOnly _ := rfl
  dataIn := fun ⟨_, _, hin, _, _⟩ => (hin rfl rfl).1
  demap := fun ⟨_, _, _, _, hdemap⟩ => hdemap (.inl rfl)
  lawful := fun ⟨hi, hd, _⟩ => ⟨hi.installsLawfully, hd.installsLawfully⟩

theorem tlbRegisters_data (m : Mmu) : TlbRegisters m (fun m => m.dtlb) (fun m => m.itlb)
    (Config.tagAccessDecode m.dtagAccess) 0x5C 0x5D 0x5F 0x5E where
  in_writeOnly := rfl
  demap_writeOnly := rfl
  access_readWrite _ := rfl
  tag_readOnly _ := rfl
  dataIn := fun ⟨_, _, _, hin, _⟩ => (hin rfl rfl).1
  demap := fun ⟨_, _, _, _, hdemap⟩ => (hdemap (.inr rfl)).symm
  lawful := fun ⟨hi, hd, _⟩ => ⟨hd.installsLawfully, hi.installsLawfully⟩

/-- Settles O39: an address names its register (`TlbRegisters`), the platform answers the access (`storesPlatform`, `readsPlatform`),
and a data-in store takes the entry of `tteEntry_some` where `DataIn.exists_partition` says so. -/
theorem tlbStores : Obligations.TlbStores := by
  refine ⟨?stores, fun q x b e => ?matching⟩
  case matching =>
    rw [tlbMatches_iff]
    cases e.size <;> rfl
  rintro rd rs1 ea s i _ v _ tlb other tag inAsi accessAsi demapAsi tagAsi rfl hi hhyper rfl hside
  have registers : TlbRegisters s.mmu tlb other tag inAsi accessAsi demapAsi tagAsi := by
    rcases hside with ⟨rfl, rfl, rfl, rfl, rfl, rfl, rfl⟩ | ⟨rfl, rfl, rfl, rfl, rfl, rfl, rfl⟩
    · exact tlbRegisters_instruction s.mmu
    · exact tlbRegisters_data s.mmu
  have access {asi : Byte} (hb : PlatformAddress asi (maskAm s (asiAddress s rs1 ea)))
      (ha : (asiAddress s rs1 ea).toNat % 8 = 0) (hasi : asiNumber s ea = asi) :
      RegisterAccess s rs1 ea asi (maskAm s (asiAddress s rs1 ea)) :=
    ⟨hasi, rfl, ha, hb.register, asiPermitted_of_hyper hhyper asi⟩
  have atZero {asi : Byte} (hwrite : mmuWriteOnly asi 0 = true) (ha : asiAddress s rs1 ea = 0) (hasi : asiNumber s ea = asi) :
      RegisterAccess s rs1 ea asi 0 :=
    registerAccess_of ha (by decide) hasi (platformAddress_of_writeOnly hwrite).register (asiPermitted_of_hyper hhyper asi)
  refine ⟨fun ha hasi => ?dataIn, fun ha hasi => ?demap, fun ha => ⟨fun hasi hb => ?dataAccess, fun hasi hb => ?tagRead⟩⟩
  case dataIn =>
    have h := atZero registers.in_writeOnly ha hasi
    rw [h.masked]
    refine h.storesPlatform hi (.inr registers.in_writeOnly) fun n hn => ?_
    have hin := registers.dataIn hn
    obtain ⟨partition, hentry⟩ := hin.exists_partition
    refine ⟨(registers.lawful hn).2, hin.sublist_of_reserved, partition, fun p hp hvalid hsize e he => hentry e ?_⟩
    obtain ⟨hcode, hbytes⟩ := pageSizeOf_codes p hp
    rw [he, hbytes]
    exact tteEntry_some hvalid (hsize ▸ hcode) tag partition
  case demap =>
    have h := atZero registers.demap_writeOnly ha hasi
    rw [h.masked]
    exact h.storesPlatform hi (.inr registers.demap_writeOnly) fun n hn => registers.demap hn
  case dataAccess =>
    have hrw := (registers.access_readWrite _).trans ((isDataAccessVa_iff _).mpr hb)
    have h := access (platformAddress_of_readWrite hrw) ha hasi
    exact ⟨h.readsPlatform rd (.inl hrw), h.storesPlatform hi (.inl hrw) fun n hn => registers.lawful hn⟩
  case tagRead =>
    have hro := (registers.tag_readOnly _).trans (decide_eq_true hb)
    exact (access (platformAddress_of_readOnly hro) ha hasi).readsPlatform rd (.inr hro)

end Sys2Proof.Machine

/-! PROOFS. The 64-bit images of the ancillary, privileged and hyperprivileged registers: the number each `…Image` says is that of
the bits a read gives, and a write of `v` leaves the image `v` in the bits its register implements (rule R45). -/

namespace Sys2Proof.Machine

/-! ### Numbers of fields -/

theorem bit_toNat (b : Bool) : (bit b).toNat = b.toNat := BitVec.toNat_ofBool b

/-- Bit `i` of a value is its field of width 1 at `i`. -/
theorem bit_flagAt {w : Nat} (v : BitVec w) (i : Nat) : bit (flagAt v i) = v.extractLsb' i 1 := by
  refine BitVec.eq_of_getLsbD_eq fun j hj => ?_
  obtain rfl : j = 0 := by omega
  simp [bit, flagAt]

theorem flagAt_zero_toNat (v : DWord) : (flagAt v 0).toNat = v.toNat % 2 := by
  rw [← bit_toNat, bit_flagAt, extractLsb'_zero_toNat]; rfl

/-- What a read of a register narrower than R[rd] puts there. -/
theorem setWidth_eq_ofNat {w n : Nat} {x : BitVec w} (h : n = x.toNat) : x.setWidth 64 = BitVec.ofNat 64 n := by
  rw [h, BitVec.ofNat_toNat]

theorem setWidth_eq_ofNat_toNat {w : Nat} (x : BitVec w) : x.setWidth 64 = BitVec.ofNat 64 x.toNat := setWidth_eq_ofNat rfl

theorem eq_ofNat {n : Nat} {x : DWord} (h : n = x.toNat) : x = BitVec.ofNat 64 n := by
  rw [h, BitVec.ofNat_toNat, BitVec.setWidth_eq]

/-- A number above `k` zero bits, as TBA, HTBA and the program counters of a trap-stack entry stand in their images. -/
theorem append_zeros_toNat {w : Nat} (x : BitVec w) (k : Nat) : (x ++ 0#k).toNat = x.toNat * 2 ^ k := by
  rw [toNat_append_eq, BitVec.toNat_ofNat, Nat.zero_mod, Nat.add_zero]

/-- The field above the `k` low bits, up to the last bit. -/
theorem extractLsb'_high_toNat (v : DWord) {k n : Nat} (h : k + n = 64) : (v.extractLsb' k n).toNat = v.toNat / 2 ^ k := by
  rw [BitVec.extractLsb'_toNat, Nat.shiftRight_eq_div_pow, Nat.mod_eq_of_lt]
  exact Nat.div_lt_of_lt_mul (by rw [← pow_add, h]; exact v.isLt)

/-- A mask on the low bits of a value is a mask on the value. -/
theorem extractLsb'_and_toNat {n : Nat} (v : DWord) (m : BitVec n) (h : n ≤ 64) :
    (v.extractLsb' 0 n &&& m).toNat = (v &&& m.setWidth 64).toNat := by
  rw [BitVec.toNat_and, BitVec.toNat_and, BitVec.toNat_setWidth_of_le h, extractLsb'_zero_toNat]
  refine Nat.eq_of_testBit_eq fun i => ?_
  rw [Nat.testBit_and, Nat.testBit_and, Nat.testBit_mod_two_pow]
  by_cases hi : i < n
  · simp [hi]
  · simp [BitVec.testBit_toNat, BitVec.getLsbD_of_ge m i (by omega)]

/-! ### Reading -/

theorem ccrImage_eq (c : Ccr) : ccrImage c = (ccrBits c).toNat := by
  simp only [ccrImage, binary, List.foldl, ccrBits, ccBits, toNat_append_eq, bit_toNat]
  ring

theorem fprsImage_eq (f : Fprs) : binary [f.fef, f.du, f.dl] = (fprsBits f).toNat := by
  simp only [binary, List.foldl, fprsBits, toNat_append_eq, bit_toNat]
  ring

theorem pcrImage_eq (p : Pcr) : pcrImage p = (pcrBits p).toNat := by
  simp only [pcrImage, binary, List.foldl, pcrBits, toNat_append_eq, bit_toNat, BitVec.toNat_ofNat]
  ring

theorem gsrImage_eq (g : Gsr) : gsrImage g = (gsrBits g).toNat := by
  simp only [gsrImage, gsrBits, toNat_append_eq, bit_toNat, BitVec.toNat_ofNat]
  ring

theorem counterImage_eq (c : Counter) : counterImage c = (counterBits c).toNat := by
  rw [counterImage, counterBits, toNat_append_eq, bit_toNat]

theorem compareImage_eq (c : Compare) : compareImage c = (compareBits c).toNat := by
  rw [compareImage, compareBits, toNat_append_eq, bit_toNat]

theorem pstateImage_eq (p : Pstate) : pstateImage p = (pstateBits p).toNat := by
  simp only [pstateImage, binary, List.foldl, pstateBits, toNat_append_eq, bit_toNat, BitVec.toNat_ofNat, Bool.toNat_false]
  ring

theorem hpstateImage_eq (h : Hpstate) : hpstateImage h = (hpstateBits h).toNat := by
  simp only [hpstateImage, binary, List.foldl, hpstateBits, toNat_append_eq, bit_toNat, BitVec.toNat_ofNat, Bool.toNat_false]
  ring

theorem tstateImage_eq (t : Tstate) : tstateImage t = (tstateBits t).toNat := by
  simp only [tstateImage, tstateBits, ccrImage_eq, pstateImage_eq, toNat_append_eq, BitVec.toNat_ofNat]
  ring

theorem wstateImage_eq (w : WindowRegs) : w.wother.toNat * 8 + w.wnormal.toNat = (wstateBits w).toNat :=
  (toNat_append_eq w.wother w.wnormal).symm

theorem hverImage_eq : Config.manuf.toNat * 2 ^ 48 + Config.impl.val * 2 ^ 32 + Config.mask.toNat * 2 ^ 24 + 3 * 2 ^ 16
    + 6 * 2 ^ 8 + 7 = hver.toNat := by
  have himpl : Config.impl.val % 2 ^ 16 = Config.impl.val := Nat.mod_eq_of_lt (Config.impl.isLt.trans (by norm_num))
  unfold hver
  simp only [toNat_append_eq, BitVec.toNat_ofNat, himpl]
  ring

/-! ### Masks, field by field -/

theorem append_eq_masked {m n : Nat} {x a k : BitVec m} {y b l : BitVec n} (hx : x = a &&& k) (hy : y = b &&& l) :
    x ++ y = (a ++ b) &&& (k ++ l) := by
  rw [hx, hy, BitVec.and_append]

/-! ### Writing: a written register reads as the value under the mask of the implemented bits -/

theorem ccrBits_ccrOfBits (v : Byte) : ccrBits (ccrOfBits v) = v := by
  have hcc (c : BitVec 4) : ccBits (ccOfBits c) = c := by revert c; decide
  simp only [ccrBits, ccrOfBits, hcc, BitVec.extractLsb'_append_extractLsb'_eq_extractLsb', BitVec.extractLsb'_eq_self]

theorem fprsBits_fprsOfBits (v : BitVec 3) : fprsBits (fprsOfBits v) = v := by revert v; decide

theorem counterBits_counterOfBits (v : DWord) : counterBits (counterOfBits v) = v := by
  simp only [counterBits, counterOfBits, bit_flagAt, BitVec.extractLsb'_append_extractLsb'_eq_extractLsb', BitVec.extractLsb'_eq_self]

theorem compareBits_compareOfBits (v : DWord) : compareBits (compareOfBits v) = v := by
  simp only [compareBits, compareOfBits, bit_flagAt, BitVec.extractLsb'_append_extractLsb'_eq_extractLsb', BitVec.extractLsb'_eq_self]

theorem pcrBits_pcrOfBits (v : DWord) : pcrBits (pcrOfBits v) = v &&& 0x1FBF7 := by
  have hfields : v = v.extractLsb' 17 47 ++ v.extractLsb' 11 6 ++ v.extractLsb' 10 1 ++ v.extractLsb' 4 6 ++ v.extractLsb' 3 1
      ++ v.extractLsb' 2 1 ++ v.extractLsb' 1 1 ++ v.extractLsb' 0 1 := by
    simp only [BitVec.extractLsb'_append_extractLsb'_eq_extractLsb', BitVec.extractLsb'_eq_self]
  have hmask : (0x1FBF7 : DWord) = 0#47 ++ BitVec.allOnes 6 ++ 0#1 ++ BitVec.allOnes 6 ++ 0#1 ++ BitVec.allOnes 1 ++ BitVec.allOnes 1
      ++ BitVec.allOnes 1 := by decide
  conv_rhs => rw [hfields, hmask]
  simp only [pcrBits, pcrOfBits, bit_flagAt]
  iterate 7 refine append_eq_masked ?_ ?_
  all_goals simp only [BitVec.and_allOnes, BitVec.and_zero]

theorem gsrBits_gsrOfBits (v : DWord) : gsrBits (gsrOfBits v) = v &&& 0xFFFFFFFF0E0000FF := by
  have hfields : v = v.extractLsb' 32 32 ++ v.extractLsb' 28 4 ++ v.extractLsb' 27 1 ++ v.extractLsb' 25 2 ++ v.extractLsb' 8 17
      ++ v.extractLsb' 3 5 ++ v.extractLsb' 0 3 := by
    simp only [BitVec.extractLsb'_append_extractLsb'_eq_extractLsb', BitVec.extractLsb'_eq_self]
  have hmask : (0xFFFFFFFF0E0000FF : DWord) = BitVec.allOnes 32 ++ 0#4 ++ BitVec.allOnes 1 ++ BitVec.allOnes 2 ++ 0#17
      ++ BitVec.allOnes 5 ++ BitVec.allOnes 3 := by decide
  conv_rhs => rw [hfields, hmask]
  simp only [gsrBits, gsrOfBits, bit_flagAt]
  iterate 6 refine append_eq_masked ?_ ?_
  all_goals simp only [BitVec.and_allOnes, BitVec.and_zero]

theorem pstateBits_pstateOfBits (v : BitVec 13) : pstateBits (pstateOfBits v) = v &&& 0x131E := by
  have hfields : v = v.extractLsb' 12 1 ++ v.extractLsb' 10 2 ++ v.extractLsb' 9 1 ++ v.extractLsb' 8 1 ++ v.extractLsb' 5 3
      ++ v.extractLsb' 4 1 ++ v.extractLsb' 3 1 ++ v.extractLsb' 2 1 ++ v.extractLsb' 1 1 ++ v.extractLsb' 0 1 := by
    simp only [BitVec.extractLsb'_append_extractLsb'_eq_extractLsb', BitVec.extractLsb'_eq_self]
  have hmask : (0x131E : BitVec 13) = BitVec.allOnes 1 ++ 0#2 ++ BitVec.allOnes 1 ++ BitVec.allOnes 1 ++ 0#3 ++ BitVec.allOnes 1
      ++ BitVec.allOnes 1 ++ BitVec.allOnes 1 ++ BitVec.allOnes 1 ++ 0#1 := by decide
  conv_rhs => rw [hfields, hmask]
  simp only [pstateBits, pstateOfBits, bit_flagAt]
  iterate 9 refine append_eq_masked ?_ ?_
  all_goals simp only [BitVec.and_allOnes, BitVec.and_zero]

theorem hpstateBits_hpstateOfBits (v : BitVec 11) : hpstateBits (hpstateOfBits v) = v &&& 0x425 := by
  have hfields : v = v.extractLsb' 10 1 ++ v.extractLsb' 6 4 ++ v.extractLsb' 5 1 ++ v.extractLsb' 3 2 ++ v.extractLsb' 2 1
      ++ v.extractLsb' 1 1 ++ v.extractLsb' 0 1 := by
    simp only [BitVec.extractLsb'_append_extractLsb'_eq_extractLsb', BitVec.extractLsb'_eq_self]
  have hmask : (0x425 : BitVec 11) = BitVec.allOnes 1 ++ 0#4 ++ BitVec.allOnes 1 ++ 0#2 ++ BitVec.allOnes 1 ++ 0#1
      ++ BitVec.allOnes 1 := by decide
  conv_rhs => rw [hfields, hmask]
  simp only [hpstateBits, hpstateOfBits, bit_flagAt]
  iterate 6 refine append_eq_masked ?_ ?_
  all_goals simp only [BitVec.and_allOnes, BitVec.and_zero]

theorem tstateBits_tstateOfBits (v : DWord) : tstateBits (tstateOfBits v) = v &&& 0x7FFFF131E07 := by
  have hfields : v = v.extractLsb' 43 21 ++ v.extractLsb' 40 3 ++ v.extractLsb' 32 8 ++ v.extractLsb' 24 8 ++ v.extractLsb' 21 3
      ++ v.extractLsb' 8 13 ++ v.extractLsb' 3 5 ++ v.extractLsb' 0 3 := by
    simp only [BitVec.extractLsb'_append_extractLsb'_eq_extractLsb', BitVec.extractLsb'_eq_self]
  have hmask : (0x7FFFF131E07 : DWord) = 0#21 ++ BitVec.allOnes 3 ++ BitVec.allOnes 8 ++ BitVec.allOnes 8 ++ 0#3
      ++ (0x131E : BitVec 13) ++ 0#5 ++ BitVec.allOnes 3 := by decide
  conv_rhs => rw [hfields, hmask]
  simp only [tstateBits, tstateOfBits, ccrBits_ccrOfBits]
  iterate 7 refine append_eq_masked ?_ ?_
  all_goals simp only [pstateBits_pstateOfBits, BitVec.and_allOnes, BitVec.and_zero]

theorem ccrImage_ccrOfBits (v : DWord) : ccrImage (ccrOfBits (v.extractLsb' 0 8)) = v.toNat % 2 ^ 8 := by
  rw [ccrImage_eq, ccrBits_ccrOfBits, extractLsb'_zero_toNat]

theorem fprsImage_fprsOfBits (v : DWord) : binary [(fprsOfBits (v.extractLsb' 0 3)).fef, (fprsOfBits (v.extractLsb' 0 3)).du,
    (fprsOfBits (v.extractLsb' 0 3)).dl] = v.toNat % 8 := by
  rw [fprsImage_eq, fprsBits_fprsOfBits, extractLsb'_zero_toNat]; rfl

theorem pcrImage_pcrOfBits (v : DWord) : pcrImage (pcrOfBits v) = (v &&& 0x1FBF7).toNat := by
  rw [pcrImage_eq, pcrBits_pcrOfBits]

theorem gsrImage_gsrOfBits (v : DWord) : gsrImage (gsrOfBits v) = (v &&& 0xFFFFFFFF0E0000FF).toNat := by
  rw [gsrImage_eq, gsrBits_gsrOfBits]

theorem counterImage_counterOfBits (v : DWord) : counterImage (counterOfBits v) = v.toNat := by
  rw [counterImage_eq, counterBits_counterOfBits]

theorem compareImage_compareOfBits (v : DWord) : compareImage (compareOfBits v) = v.toNat := by
  rw [compareImage_eq, compareBits_compareOfBits]

theorem pstateImage_pstateOfBits (v : DWord) : pstateImage (pstateOfBits (v.extractLsb' 0 13)) = (v &&& 0x131E).toNat := by
  rw [pstateImage_eq, pstateBits_pstateOfBits]
  exact extractLsb'_and_toNat v 0x131E (by decide)

theorem hpstateImage_hpstateOfBits (v : DWord) : hpstateImage (hpstateOfBits (v.extractLsb' 0 11)) = (v &&& 0x425).toNat := by
  rw [hpstateImage_eq, hpstateBits_hpstateOfBits]
  exact extractLsb'_and_toNat v 0x425 (by decide)

theorem tstateImage_tstateOfBits (v : DWord) : tstateImage (tstateOfBits v) = (v &&& 0x7FFFF131E07).toNat := by
  rw [tstateImage_eq, tstateBits_tstateOfBits]

end Sys2Proof.Machine

/-! PROOFS. The register windows (O51), and the instructions that read and write the ancillary (O47, O48), the privileged (O49) and
the hyperprivileged (O50) registers. -/

namespace Sys2Proof.Machine

/-! ### Modes -/

theorem not_isUser_of {s : State} (h : isUser s = false) : ¬ isUser s = true := by rw [h]; exact Bool.false_ne_true

theorem not_isHyper_of {s : State} (h : isHyper s = false) : ¬ isHyper s = true := by rw [h]; exact Bool.false_ne_true

/-! ### Register windows (rules R881 to R885) -/

theorem sub_eq_zero_iff_eq (a b : BitVec 3) : a - b = 0 ↔ a = b := by revert a b; decide

/-- CLEANWIN counts up to NWINDOWS - 1 (rule R884). -/
theorem restoredWindow_cleanwin (w : WindowRegs) :
    (restoredWindow w).cleanwin = if w.cleanwin.toNat < 7 then w.cleanwin + 1 else w.cleanwin := by
  by_cases h : w.otherwin = 0 <;> simp only [restoredWindow, h, if_true, if_false]

theorem restoredWindow_cleanwin_toNat (w : WindowRegs) : (restoredWindow w).cleanwin.toNat = min (w.cleanwin.toNat + 1) 7 := by
  rw [restoredWindow_cleanwin]
  generalize w.cleanwin = c
  revert c; decide

theorem restoredWindow_eq (w : WindowRegs) : restoredWindow w = if w.otherwin = 0
    then { w with cleanwin := (restoredWindow w).cleanwin, canrestore := w.canrestore + 1, cansave := w.cansave - 1 }
    else { w with cleanwin := (restoredWindow w).cleanwin, canrestore := w.canrestore + 1, otherwin := w.otherwin - 1 } := by
  rw [restoredWindow_cleanwin]; rfl

/-- Settles O51: each instruction is its checks in order, then a move of the window registers. -/
theorem registerWindows : Obligations.RegisterWindows := by
  rintro rd rs1 op2 s _ _ _ _ rfl rfl rfl rfl
  refine ⟨fun hspill => if_pos hspill, fun hspill hclean => ?unclean, fun hspill hclean => ?save, fun hfill => if_pos hfill,
    fun hfill => ⟨_, if_neg hfill, resultR_setR (lastWindow s) rd _⟩, fun hu => ⟨if_pos hu, if_pos hu⟩,
    fun hu => ⟨?saved, ?restored⟩, fun hflushed => ⟨_, if_pos hflushed, rfl⟩, fun hflushed => if_neg hflushed⟩
  case unclean => exact (if_neg hspill).trans (if_pos ((sub_eq_zero_iff_eq _ _).mpr hclean))
  case save =>
    have hnotClean := mt (sub_eq_zero_iff_eq _ _).mp hclean
    exact ⟨_, (if_neg hspill).trans (if_neg hnotClean), resultR_setR (nextWindow s) rd _⟩
  case saved => exact ⟨_, if_neg (not_isUser_of hu), rfl⟩
  case restored =>
    exact ⟨_, if_neg (not_isUser_of hu), restoredWindow_cleanwin_toNat s.win,
      congrArg (fun w => advance { s with win := w }) (restoredWindow_eq s.win)⟩

/-! ### Reading ancillary state registers (rules R896 to R908) -/

section
variable {i : Instr} {s : State} {rd : BitVec 5} {v w : DWord} {restricted : Bool}

theorem readPrivileged_outcomes (hi : exec i s = readPrivileged s rd v) (hv : v = w) :
    (isUser s = true → exec i s = .next (takeTrap s .privilegedOpcode))
    ∧ (isUser s = false → ∃ t, exec i s = .next t ∧ ResultR s t rd w) :=
  ⟨fun hu => hi.trans (if_pos hu), fun hu => completes_writeR (hi.trans (if_neg (not_isUser_of hu))) hv⟩

/-- A register that nonprivileged software reads unless a bit forbids it. -/
theorem readUnlessRestricted_outcomes
    (hi : exec i s = if isUser s && restricted then trapTo s .privilegedAction else readInto s rd v) (hv : v = w) :
    (isUser s = true → restricted = true → exec i s = .next (takeTrap s .privilegedAction))
    ∧ (isUser s = false ∨ restricted = false → ∃ t, exec i s = .next t ∧ ResultR s t rd w) := by
  refine ⟨fun hu hr => hi.trans (if_pos (by rw [hu, hr]; rfl)), fun h => completes_writeR (hi.trans (if_neg ?_)) hv⟩
  rw [Bool.and_eq_false_iff.mpr h]
  exact Bool.false_ne_true

end

/-- Settles O47: each reads into R[rd] the bits whose number is the register's image, after the check of its mode. -/
theorem readStateRegisters : Obligations.ReadStateRegisters := by
  intro rd s
  refine ⟨?always, ?privileged, ?restricted,
    fun hp hf => completes_writeR (if_pos (fpuEnabled_of hp hf)) (eq_ofNat (gsrImage_eq s.gsr)), fun h => if_neg (not_fpuEnabled_of h)⟩
  case always =>
    simp only [List.forall_mem_cons]
    exact ⟨completes_writeR rfl (setWidth_eq_ofNat rfl), completes_writeR rfl (setWidth_eq_ofNat (ccrImage_eq s.ccr)),
      completes_writeR rfl (setWidth_eq_ofNat rfl), completes_writeR rfl (eq_ofNat rfl),
      completes_writeR rfl (setWidth_eq_ofNat (fprsImage_eq s.fprs)), List.forall_mem_nil _⟩
  case privileged =>
    simp only [List.forall_mem_cons]
    exact ⟨readPrivileged_outcomes rfl (eq_ofNat (pcrImage_eq s.pcr)), readPrivileged_outcomes rfl (setWidth_eq_ofNat rfl),
      readPrivileged_outcomes rfl (eq_ofNat (compareImage_eq s.tickCmpr)),
      readPrivileged_outcomes rfl (eq_ofNat (compareImage_eq s.stickCmpr)), List.forall_mem_nil _⟩
  case restricted =>
    simp only [List.forall_mem_cons]
    exact ⟨readUnlessRestricted_outcomes rfl (eq_ofNat (counterImage_eq s.tick)),
      readUnlessRestricted_outcomes rfl (eq_ofNat (counterImage_eq s.stick)),
      readUnlessRestricted_outcomes rfl (eq_ofNat rfl), List.forall_mem_nil _⟩

/-! ### Writing ancillary state registers (rules R912 to R927) -/

theorem writePrivileged_completes {i : Instr} {s t : State} (hu : isUser s = false) (hi : exec i s = writePrivileged s t) :
    exec i s = .next (advance t) :=
  hi.trans (if_neg (not_isUser_of hu))

/-- The 17 bits SOFTINT keeps of a value. -/
theorem extractLsb'_zero_eq_setWidth (v : DWord) (n : Nat) : v.extractLsb' 0 n = v.setWidth n := by
  refine BitVec.eq_of_toNat_eq ?_
  rw [extractLsb'_zero_toNat, BitVec.toNat_setWidth]

/-- Settles O48: each writes its register with the bits it implements of the exclusive or, after the check of its mode. -/
theorem writeStateRegisters : Obligations.WriteStateRegisters := by
  intro rs1 op2 s v hv
  obtain rfl : v = written s rs1 op2 := hv
  refine ⟨⟨_, rfl, rfl, extractLsb'_zero_toNat _ 32⟩, ⟨_, rfl, rfl, ccrImage_ccrOfBits _⟩,
    ⟨_, rfl, rfl, extractLsb'_zero_toNat _ 8⟩, ⟨_, rfl, rfl, fprsImage_fprsOfBits _⟩, fun hu => ?privileged, fun hu => ?user,
    fun h => ?pic, fun hu hr => ?picTrap, fun hp hf => ⟨_, if_pos (fpuEnabled_of hp hf), rfl, gsrImage_gsrOfBits _⟩,
    fun h => if_neg (not_fpuEnabled_of h), fun hh => ⟨_, if_pos hh, rfl, counterImage_counterOfBits _⟩,
    fun hh => if_neg (not_isHyper_of hh), fun n => ?sir⟩
  case privileged =>
    exact ⟨⟨_, writePrivileged_completes hu rfl, rfl, pcrImage_pcrOfBits _⟩,
      ⟨_, writePrivileged_completes hu rfl, rfl, congrArg (s.softint ||| ·) (extractLsb'_zero_eq_setWidth _ 17)⟩,
      ⟨_, writePrivileged_completes hu rfl, rfl, congrArg (s.softint &&& ~~~·) (extractLsb'_zero_eq_setWidth _ 17)⟩,
      ⟨_, writePrivileged_completes hu rfl, rfl, extractLsb'_zero_eq_setWidth _ 17⟩,
      ⟨_, writePrivileged_completes hu rfl, rfl, compareImage_compareOfBits _⟩,
      ⟨_, writePrivileged_completes hu rfl, rfl, compareImage_compareOfBits _⟩⟩
  case user =>
    simp only [List.forall_mem_cons]
    exact ⟨if_pos hu, if_pos hu, if_pos hu, if_pos hu, if_pos hu, if_pos hu, List.forall_mem_nil _⟩
  case pic =>
    refine ⟨_, if_neg ?_, rfl⟩
    rw [Bool.and_eq_false_iff.mpr h]
    exact Bool.false_ne_true
  case picTrap => exact if_pos (by rw [hu, hr]; rfl)
  case sir => exact (apply_ite (trapTo s) (isHyper s = true) _ _).symm

/-! ### The entry of the current trap level -/

theorem frameAt_updateFrame_self (s : State) (f : TrapFrame → TrapFrame) :
    frameAt (updateFrame s f) s.tl = f (frameAt s s.tl) := by
  rw [updateFrame, frameAt_setFrame, if_pos rfl]

theorem frameAt_updateFrame_of_ne {s : State} {m : BitVec 3} (h : m ≠ s.tl) (f : TrapFrame → TrapFrame) :
    frameAt (updateFrame s f) m = frameAt s m := by
  rw [updateFrame, frameAt_setFrame, if_neg h]

/-- An instruction that rewrites the current entry leaves the others, and all else, as they are. -/
theorem updatesFrame {i : Instr} {s u : State} {f : TrapFrame → TrapFrame} {P : TrapFrame → Prop}
    (hi : exec i s = .next (advance u)) (hu : u = updateFrame s f) (hP : P (f (frameAt s s.tl))) :
    ∃ t g, exec i s = .next t ∧ t = advance { s with trapStack := t.trapStack } ∧ (∀ m, m ≠ s.tl → frameAt t m = frameAt s m)
      ∧ frameAt t s.tl = g ∧ P g := by
  subst hu
  exact ⟨_, _, hi, rfl, fun _ h => frameAt_updateFrame_of_ne h f, frameAt_updateFrame_self s f, hP⟩

/-! ### Privileged registers (rules R930 to R938) -/

theorem prReserved_iff (n : BitVec 5) : prReserved n = true ↔ n = 15 ∨ 17 ≤ n.toNat := by
  rw [prReserved, Bool.or_eq_true, beq_iff_eq, decide_eq_true_iff]

theorem not_prReserved_of {n : BitVec 5} (h : ¬(n = 15 ∨ 17 ≤ n.toNat)) : ¬ prReserved n = true := mt (prReserved_iff n).mp h

theorem not_prReserved_of_le {n : BitVec 5} (h : n.toNat ≤ 4) : ¬ prReserved n = true :=
  not_prReserved_of (by rintro (rfl | h'); exacts [absurd h (by decide), by omega])

/-- Limits of TL and GL (rules R936, R937). -/
theorem writtenTl_toNat (s : State) (v : DWord) :
    (writtenTl s v).toNat = min (v.toNat % 8) (if isHyper s = true then 6 else 2) := by
  have hv : v.toNat % 8 = (v.extractLsb' 0 3).toNat := (extractLsb'_zero_toNat v 3).symm
  rw [writtenTl, hv]
  generalize v.extractLsb' 0 3 = n
  cases isHyper s <;> revert n <;> decide

theorem writtenGl_toNat (s : State) (v : DWord) :
    (writtenGl s v).toNat = min (v.toNat % 8) (if isHyper s = true then 3 else 2) := by
  have hv : v.toNat % 8 = (v.extractLsb' 0 3).toNat := (extractLsb'_zero_toNat v 3).symm
  have hlow : v.extractLsb' 0 2 = (v.extractLsb' 0 3).extractLsb' 0 2 := by
    refine BitVec.eq_of_toNat_eq ?_
    rw [extractLsb'_zero_toNat, BitVec.extractLsb'_toNat, ← hv, Nat.shiftRight_zero]
    omega
  rw [writtenGl, hv, hlow]
  generalize v.extractLsb' 0 3 = n
  cases isHyper s <;> revert n <;> decide

section
variable {s : State} {rd rs1 : BitVec 5} {op2 : RegOrImm13}

theorem rdpr_completes {w : DWord} (hn : ¬ prReserved rs1 = true) (hu : isUser s = false) (hl : 4 ≤ rs1.toNat ∨ s.tl ≠ 0)
    (hv : readPr s rs1 = w) : ∃ t, exec (.rdpr rd rs1) s = .next t ∧ ResultR s t rd w := by
  refine completes_writeR ?_ hv
  exact (if_neg hn).trans ((if_neg (not_isUser_of hu)).trans (if_neg (by rintro ⟨h, h0⟩; exact hl.elim (by omega) (· h0))))

theorem wrpr_completes (hn : ¬ prReserved rd = true) (hu : isUser s = false) (hl : 4 ≤ rd.toNat ∨ s.tl ≠ 0)
    (ht : rd ≠ 4 ∨ isHyper s = true) : exec (.wrpr rd rs1 op2) s = .next (advance (writePr s rd (written s rs1 op2))) := by
  have htick : ¬(rd = 4 ∧ (!isHyper s) = true) := by
    rintro ⟨h4, hh⟩
    exact ht.elim (· h4) (not_isHyper_of ((Bool.not_eq_true' _).mp hh))
  have hframe : ¬(rd.toNat ≤ 3 ∧ s.tl = 0) := by
    rintro ⟨h3, h0⟩
    exact hl.elim (by omega) (· h0)
  exact (if_neg hn).trans ((if_neg (not_isUser_of hu)).trans ((if_neg htick).trans (if_neg hframe)))

end

section
variable (s : State) (v : DWord)

theorem writePr_tpc : writePr s 0 v = updateFrame s fun f => { f with tpc := high62 v, delaySlot := false } := rfl

theorem writePr_tnpc : writePr s 1 v = updateFrame s fun f => { f with tnpc := high62 v, delaySlot := false } := rfl

theorem writePr_tstate : writePr s 2 v = updateFrame s fun f => { f with tstate := tstateOfBits v } := rfl

theorem writePr_tt : writePr s 3 v = updateFrame s fun f => { f with tt := v.extractLsb' 0 9 } := rfl

end

theorem high62_toNat (v : DWord) : (high62 v).toNat = v.toNat / 4 := extractLsb'_high_toNat v (k := 2) rfl

theorem wother_toNat (v : DWord) : (v.extractLsb' 3 3).toNat = v.toNat / 8 % 8 := by
  rw [BitVec.extractLsb'_toNat, Nat.shiftRight_eq_div_pow]

/-- Settles O49: the checks in their order, then for each register the bits a read gives, or what a write leaves of the value. -/
theorem privilegedRegisters : Obligations.PrivilegedRegisters := by
  intro rd rs1 op2 s v f hv hf
  obtain rfl : v = written s rs1 op2 := hv
  subst hf
  refine ⟨fun hn => if_pos ((prReserved_iff _).mpr hn), fun hn => if_pos ((prReserved_iff _).mpr hn),
    fun hn hu => (if_neg (not_prReserved_of hn)).trans (if_pos hu), fun hn hu => (if_neg (not_prReserved_of hn)).trans (if_pos hu),
    fun hu => ⟨fun hn h0 => ?readFrame, fun hn h0 => ?writeFrame, fun hn hh => ?writeTick⟩, fun hu => ?reads, fun hu hl ht => ?writes⟩
  case readFrame =>
    exact (if_neg (not_prReserved_of_le (by omega))).trans ((if_neg (not_isUser_of hu)).trans (if_pos ⟨hn, h0⟩))
  case writeFrame =>
    refine (if_neg (not_prReserved_of_le (by omega))).trans ((if_neg (not_isUser_of hu)).trans ?_)
    exact (ite_or ..).symm.trans (if_pos (.inr ⟨hn, h0⟩))
  case writeTick =>
    have h4 : rd.toNat ≤ 4 := by rw [hn]; decide
    refine (if_neg (not_prReserved_of_le h4)).trans ((if_neg (not_isUser_of hu)).trans ?_)
    exact if_pos ⟨hn, (Bool.not_eq_true' _).mpr hh⟩
  case reads =>
    have read {k : BitVec 5} {n : Nat} (hk : ¬ prReserved k = true) (hn : readPr s k = BitVec.ofNat 64 n) (h : rs1 = k)
        (hl : 4 ≤ rs1.toNat ∨ s.tl ≠ 0) : ∃ t, exec (.rdpr rd rs1) s = .next t ∧ ResultR s t rd (BitVec.ofNat 64 n) := by
      subst h
      exact rdpr_completes hk hu hl hn
    simp only [List.forall_mem_cons]
    exact ⟨read (by decide) (eq_ofNat (append_zeros_toNat _ 2).symm), read (by decide) (eq_ofNat (append_zeros_toNat _ 2).symm),
      read (by decide) (eq_ofNat (tstateImage_eq _)), read (by decide) (setWidth_eq_ofNat_toNat (frameAt s s.tl).tt),
      read (by decide) (eq_ofNat (counterImage_eq _)), read (by decide) (eq_ofNat (append_zeros_toNat _ 15).symm),
      read (by decide) (setWidth_eq_ofNat (pstateImage_eq _)), read (by decide) (setWidth_eq_ofNat_toNat s.tl),
      read (by decide) (setWidth_eq_ofNat_toNat s.pil), read (by decide) (setWidth_eq_ofNat_toNat s.win.cwp),
      read (by decide) (setWidth_eq_ofNat_toNat s.win.cansave), read (by decide) (setWidth_eq_ofNat_toNat s.win.canrestore),
      read (by decide) (setWidth_eq_ofNat_toNat s.win.cleanwin), read (by decide) (setWidth_eq_ofNat_toNat s.win.otherwin),
      read (by decide) (setWidth_eq_ofNat (wstateImage_eq s.win)), read (by decide) (setWidth_eq_ofNat_toNat s.gl),
      List.forall_mem_nil _⟩
  case writes =>
    have write (hn : ¬ prReserved rd = true) := wrpr_completes (rs1 := rs1) (op2 := op2) hn hu hl ht
    refine ⟨?tpc, ?tnpc, ?tstate, ?tt, ?tick, ?tba, ?pstate, ?tl, ?pil, ?cwp, ?cansave, ?canrestore, ?cleanwin, ?otherwin,
        ?wstate, ?gl⟩
      <;> rintro rfl <;> replace write := write (by decide)
    case tpc => exact updatesFrame write (writePr_tpc s _) ⟨rfl, high62_toNat _⟩
    case tnpc => exact updatesFrame write (writePr_tnpc s _) ⟨rfl, high62_toNat _⟩
    case tstate => exact updatesFrame write (writePr_tstate s _) ⟨rfl, tstateImage_tstateOfBits _⟩
    case tt => exact updatesFrame write (writePr_tt s _) ⟨rfl, extractLsb'_zero_toNat _ 9⟩
    case tick => exact ⟨_, write, rfl, counterImage_counterOfBits _⟩
    case tba => exact ⟨_, write, rfl, extractLsb'_high_toNat _ rfl⟩
    case pstate => exact ⟨_, write, rfl, pstateImage_pstateOfBits _⟩
    case tl => exact ⟨_, write, rfl, writtenTl_toNat s _⟩
    case pil => exact ⟨_, write, rfl, extractLsb'_zero_toNat _ 4⟩
    case cwp => exact ⟨_, write, rfl, extractLsb'_zero_toNat _ 3⟩
    case cansave => exact ⟨_, write, rfl, extractLsb'_zero_toNat _ 3⟩
    case canrestore => exact ⟨_, write, rfl, extractLsb'_zero_toNat _ 3⟩
    case cleanwin => exact ⟨_, write, rfl, extractLsb'_zero_toNat _ 3⟩
    case otherwin => exact ⟨_, write, rfl, extractLsb'_zero_toNat _ 3⟩
    case wstate => exact ⟨_, write, rfl, wother_toNat _, extractLsb'_zero_toNat _ 3⟩
    case gl => exact ⟨_, write, rfl, writtenGl_toNat s _⟩

/-! ### Hyperprivileged registers (rules R940 to R943) -/

theorem hprReserved_iff (n : BitVec 5) : hprReserved n = true ↔ n ∉ ([0, 1, 3, 5, 6, 31] : List (BitVec 5)) := by
  revert n; decide

theorem hprNotWritten_iff (n : BitVec 5) : (hprReserved n || n == 6) = true ↔ n ∉ ([0, 1, 3, 5, 31] : List (BitVec 5)) := by
  revert n; decide

theorem readHpr_hver (s : State) : readHpr s 6 = hver := by simp [readHpr]

theorem writeHpr_undefinedCases (s : State) (n : BitVec 5) (v : DWord) : (writeHpr s n v).undefinedCases = s.undefinedCases := by
  unfold writeHpr; split_ifs <;> rfl

/-- Only a write of HPSTATE can raise the flag of undefined case U4. -/
theorem noteWrhpr_of_ne (s : State) {n : BitVec 5} (h : n ≠ 0) (v : DWord) : noteWrhpr s n v = s.undefinedCases := by
  rw [noteWrhpr, beq_false_of_ne h, Bool.and_false, Bool.false_and, Bool.or_false]

theorem noteWrhpr_hpstate_iff (s : State) (v : DWord) : (noteWrhpr s 0 v).wrhprInDelaySlot = true ↔
    s.undefinedCases.wrhprInDelaySlot = true ∨ (s.delaySlot = true ∧ (v.getLsbD 2 = false ∨ v.getLsbD 5 = false)) := by
  have hbits : hpstateOfBits (v.extractLsb' 0 11) = ⟨v.getLsbD 10, v.getLsbD 5, v.getLsbD 2, v.getLsbD 0⟩ := by
    simp [hpstateOfBits, flagAt]
  rw [noteWrhpr, hbits]
  simp

section
variable {s : State} {rd rs1 : BitVec 5} {op2 : RegOrImm13}

theorem rdhpr_completes {w : DWord} (hn : rs1 ∈ ([0, 1, 3, 5, 6, 31] : List (BitVec 5))) (hh : isHyper s = true)
    (hl : rs1 ≠ 1 ∨ s.tl ≠ 0) (hv : readHpr s rs1 = w) : ∃ t, exec (.rdhpr rd rs1) s = .next t ∧ ResultR s t rd w := by
  have hnames : ¬(hprReserved rs1 || !isHyper s) = true := by
    rw [Bool.or_eq_true, hprReserved_iff, hh]
    exact fun h => h.elim (· hn) Bool.noConfusion
  exact completes_writeR ((if_neg hnames).trans (if_neg (not_and_or.mpr hl))) hv

theorem wrhpr_completes (hn : rd ∈ ([0, 1, 3, 5, 31] : List (BitVec 5))) (hh : isHyper s = true) (hl : rd ≠ 1 ∨ s.tl ≠ 0) :
    exec (.wrhpr rd rs1 op2) s = .next (advance
      { writeHpr s rd (written s rs1 op2) with undefinedCases := noteWrhpr s rd (written s rs1 op2) }) := by
  have hnames : ¬(hprReserved rd || rd == 6 || !isHyper s) = true := by
    rw [Bool.or_eq_true, hprNotWritten_iff, hh]
    exact fun h => h.elim (· hn) Bool.noConfusion
  exact (if_neg hnames).trans (if_neg (not_and_or.mpr hl))

theorem wrhpr_completes_of_ne (h0 : rd ≠ 0) (hn : rd ∈ ([0, 1, 3, 5, 31] : List (BitVec 5))) (hh : isHyper s = true)
    (hl : rd ≠ 1 ∨ s.tl ≠ 0) : exec (.wrhpr rd rs1 op2) s = .next (advance (writeHpr s rd (written s rs1 op2))) := by
  rw [wrhpr_completes hn hh hl, noteWrhpr_of_ne s h0, ← writeHpr_undefinedCases s rd (written s rs1 op2)]

end

theorem writeHpr_htstate (s : State) (v : DWord) :
    writeHpr s 1 v = updateFrame s fun f => { f with htstate := hpstateOfBits (v.extractLsb' 0 11) } := rfl

/-- Settles O50: the checks, then for each register the bits a read gives, or what a write leaves of the value. -/
theorem hyperprivilegedRegisters : Obligations.HyperprivilegedRegisters := by
  intro rd rs1 op2 s v f hv hf
  obtain rfl : v = written s rs1 op2 := hv
  subst hf
  refine ⟨fun h => ?readRefused, fun h => ?writeRefused, fun hh => ?reads, fun hh => ?writes⟩
  case readRefused =>
    refine (ite_or ..).symm.trans (if_pos ?_)
    rwa [Bool.or_eq_true, hprReserved_iff, Bool.not_eq_true', or_assoc]
  case writeRefused =>
    refine (ite_or ..).symm.trans (if_pos ?_)
    rwa [Bool.or_eq_true, hprNotWritten_iff, Bool.not_eq_true', or_assoc]
  case reads =>
    have read {k : BitVec 5} {n : Nat} (hk : k ∈ ([0, 1, 3, 5, 6, 31] : List (BitVec 5))) (hn : readHpr s k = BitVec.ofNat 64 n)
        (h : rs1 = k) (hl : rs1 ≠ 1 ∨ s.tl ≠ 0) : ∃ t, exec (.rdhpr rd rs1) s = .next t ∧ ResultR s t rd (BitVec.ofNat 64 n) := by
      subst h
      exact rdhpr_completes hk hh hl hn
    -- The sum of HVER's fields is named here: Lean's kernel would compare it with itself by counting.
    rw [hverImage_eq]
    generalize hn : hver.toNat = image
    simp only [List.forall_mem_cons]
    exact ⟨read (by decide) (setWidth_eq_ofNat (hpstateImage_eq _)), read (by decide) (setWidth_eq_ofNat (hpstateImage_eq _)),
      read (by decide) (setWidth_eq_ofNat (bit_toNat _).symm), read (by decide) (eq_ofNat (append_zeros_toNat _ 14).symm),
      read (by decide) ((readHpr_hver s).trans (eq_ofNat hn.symm)), read (by decide) (eq_ofNat (compareImage_eq _)),
      List.forall_mem_nil _⟩
  case writes =>
    refine ⟨?hpstate, ?htstate, ?hintp, ?htba, ?hstickCmpr⟩ <;> rintro rfl
    case hpstate =>
      exact ⟨_, wrhpr_completes (by decide) hh (.inl (by decide)), rfl, hpstateImage_hpstateOfBits _, rfl, noteWrhpr_hpstate_iff s _⟩
    case htstate =>
      intro hl
      have write := wrhpr_completes_of_ne (rd := 1) (rs1 := rs1) (op2 := op2) (by decide) (by decide) hh (.inr hl)
      obtain ⟨t, _, hi, ht, hothers, hcurrent, rfl⟩ := updatesFrame (P := (_ = ·)) write (writeHpr_htstate s _) rfl
      exact ⟨t, _, hi, ht, hothers, hcurrent, hpstateImage_hpstateOfBits _⟩
    case hintp => exact ⟨_, wrhpr_completes_of_ne (by decide) (by decide) hh (.inl (by decide)), rfl, flagAt_zero_toNat _⟩
    case htba => exact ⟨_, wrhpr_completes_of_ne (by decide) (by decide) hh (.inl (by decide)), rfl, extractLsb'_high_toNat _ rfl⟩
    case hstickCmpr =>
      exact ⟨_, wrhpr_completes_of_ne (by decide) (by decide) hh (.inl (by decide)), rfl, compareImage_compareOfBits _⟩

end Sys2Proof.Machine

/-! PROOFS. The exact results of the floating-point operations (O55): a finite pattern is a fraction with a sign, an operation on
such patterns delivers the operation on the values, and NaNs, infinities and zeros are told apart before that. -/

namespace Sys2Proof.Machine

/-! ### A finite pattern as a fraction with a sign (rules R245, R246) -/

theorem scaled_eq_shift (m p q : Nat) : scaled m p q = FpFraction.shift ⟨m, 1⟩ ((q : ℤ) - p) := by
  unfold scaled FpFraction.shift
  rcases lt_trichotomy q p with h | rfl | h
  · rw [if_pos h.le, if_pos (by omega)]
    congr 3; omega
  · simp
  · rw [if_neg (by omega), if_neg (by omega), one_mul]
    congr 2; omega

theorem scaled_den_pos (m p q : Nat) : 0 < (scaled m p q).den := by
  rw [scaled_eq_shift]
  exact FpFraction.shift_den_pos Nat.one_pos _

theorem scaled_value (m p q : Nat) : (scaled m p q).value = m * 2 ^ ((p : ℤ) - q) := by
  rw [scaled_eq_shift, FpFraction.shift_value, div_eq_mul_inv, ← zpow_neg, neg_sub, FpFraction.value, Nat.cast_one, div_one]

theorem fpValue_den_pos (f : FpFormat) (x : Nat) : 0 < (fpValue f x).den := by
  unfold fpValue
  dsimp only
  split <;> exact scaled_den_pos _ _ _

theorem fpValue_value (f : FpFormat) (x : Nat) : (fpValue f x).value = magnitudeValue f (fpMagnitude f x) := by
  have hzero : fpMagnitude f x / 2 ^ f.frac = 0 ↔ fpMagnitude f x < 2 ^ f.frac := by simp [Nat.div_eq_zero_iff]
  unfold fpValue magnitudeValue
  dsimp only
  split_ifs with he hm hm
  · rw [scaled_value, Nat.cast_add, Nat.cast_one, sub_add_eq_sub_sub]
  · exact absurd (hzero.mp he) hm
  · exact absurd (hzero.mpr hm) he
  · rw [scaled_value, Nat.cast_add f.bias, sub_add_eq_sub_sub, add_comm (2 ^ f.frac)]

theorem FpFraction.value_nonneg (x : FpFraction) : 0 ≤ x.value := by
  unfold FpFraction.value; positivity

/-- A magnitude with a sign, as `fpWithSign` is of patterns. -/
def withSign (sign : Bool) (v : ℚ) : ℚ := if sign = true then -v else v

@[simp] theorem withSign_true (v : ℚ) : withSign true v = -v := rfl

@[simp] theorem withSign_false (v : ℚ) : withSign false v = v := rfl

theorem withSign_withSign (s t : Bool) (v : ℚ) : withSign t (withSign s v) = withSign (s != t) v := by
  cases s <;> cases t <;> simp

theorem withSign_mul (s t : Bool) (u v : ℚ) : withSign s u * withSign t v = withSign (s != t) (u * v) := by
  cases s <;> cases t <;> simp

theorem withSign_div (s t : Bool) (u v : ℚ) : withSign s u / withSign t v = withSign (s != t) (u / v) := by
  cases s <;> cases t <;> simp [neg_div, div_neg]

theorem withSign_add_same (s : Bool) (u v : ℚ) : withSign s u + withSign s v = withSign s (u + v) := by
  cases s <;> simp [add_comm]

theorem withSign_add_opposite {s t : Bool} (h : s ≠ t) (u v : ℚ) : withSign s u + withSign t v = withSign s (u - v) := by
  obtain rfl := Bool.eq_not_of_ne h.symm
  cases s <;> simp [sub_eq_add_neg, add_comm]

theorem withSign_eq_zero_iff (s : Bool) (v : ℚ) : withSign s v = 0 ↔ v = 0 := by
  cases s <;> simp

theorem abs_withSign (s : Bool) {v : ℚ} (h : 0 ≤ v) : |withSign s v| = v := by
  cases s <;> simp [abs_of_nonneg h]

theorem withSign_neg_iff (s : Bool) {v : ℚ} (h : 0 < v) : withSign s v < 0 ↔ s = true := by
  cases s <;> simp [h, h.le]

theorem patternValue_eq_withSign (f : FpFormat) {x : Nat} (h : x < 2 * f.signBit) :
    patternValue f x = withSign (fpSign f x) (fpValue f x).value := by
  rw [patternValue_eq_signedValue f h, signedPattern, fpValue_value]
  cases fpSign f x
  · exact signedValue_natCast f _
  · exact (signedValue_neg f _).trans (congrArg _ (signedValue_natCast f _))

theorem fpValue_value_eq_zero_iff (f : FpFormat) (x : Nat) : (fpValue f x).value = 0 ↔ fpMagnitude f x = 0 := by
  rw [fpValue_value, ← magnitudeValue_zero f, (magnitudeValue_strictMono f).injective.eq_iff]

theorem patternValue_eq_zero_iff (f : FpFormat) {x : Nat} (h : x < 2 * f.signBit) : patternValue f x = 0 ↔ fpIsZero f x = true := by
  rw [patternValue_eq_withSign f h, withSign_eq_zero_iff, fpValue_value_eq_zero_iff, fpIsZero, beq_iff_eq]

/-! ### Delivering a signed value (rule R964) -/

theorem deliver_of_num_eq_zero {f : FpFormat} {rnd : Rounding} {sign : Bool} {x : FpFraction} (h : x.num = 0) :
    deliver f rnd sign x = ⟨if sign = true then f.signBit else 0, IeeeFlags.none⟩ :=
  roundingIsCorrect.2 f rnd sign x h

/-- Delivering a fraction with a sign delivers the value with that sign. -/
theorem delivers_withSign (f : FpFormat) (rnd : Rounding) (sign : Bool) {x : FpFraction} (hd : 0 < x.den) :
    Delivers f rnd sign (withSign sign x.value) (deliver f rnd sign x) :=
  ⟨x, hd, (abs_withSign sign x.value_nonneg).symm, rfl⟩

/-- The sign of a value that is not zero is the value's own. -/
theorem delivers_withSign_of_pos (f : FpFormat) (rnd : Rounding) (sign : Bool) {x : FpFraction} (hd : 0 < x.den) (h : 0 < x.value) :
    Delivers f rnd (decide (withSign sign x.value < 0)) (withSign sign x.value) (deliver f rnd sign x) := by
  have hsign : decide (withSign sign x.value < 0) = sign := by simp [withSign_neg_iff sign h]
  rw [hsign]
  exact delivers_withSign f rnd sign hd

/-! ### Products, quotients and sums of fractions -/

theorem FpFraction.value_mul (x y : FpFraction) : FpFraction.value ⟨x.num * y.num, x.den * y.den⟩ = x.value * y.value := by
  simp only [value, Nat.cast_mul, div_mul_div_comm]

theorem FpFraction.value_div (x y : FpFraction) : FpFraction.value ⟨x.num * y.den, x.den * y.num⟩ = x.value / y.value := by
  simp only [value, Nat.cast_mul, div_div_div_eq]

section
variable {x y : FpFraction} (hx : 0 < x.den) (hy : 0 < y.den)
include hx hy

theorem FpFraction.value_add : FpFraction.value ⟨x.num * y.den + y.num * x.den, x.den * y.den⟩ = x.value + y.value := by
  simp only [value]
  push_cast
  field_simp

/-- The crossed products compare as the values do. -/
theorem FpFraction.cross_lt_iff : x.num * y.den < y.num * x.den ↔ x.value < y.value := by
  rw [value, value, div_lt_div_iff₀ (by exact_mod_cast hx) (by exact_mod_cast hy)]
  norm_cast

theorem FpFraction.value_sub (h : y.num * x.den ≤ x.num * y.den) :
    FpFraction.value ⟨x.num * y.den - y.num * x.den, x.den * y.den⟩ = x.value - y.value := by
  simp only [value]
  push_cast [Nat.cast_sub h]
  field_simp

/-- The sum of two signed values that is not zero. -/
theorem addFinite_delivers (f : FpFormat) (rnd : Rounding) (s t : Bool) (h : withSign s x.value + withSign t y.value ≠ 0) :
    Delivers f rnd (decide (withSign s x.value + withSign t y.value < 0)) (withSign s x.value + withSign t y.value)
      (addFinite f rnd s x t y) := by
  have hden := Nat.mul_pos hx hy
  unfold addFinite
  dsimp only
  split_ifs with hst heq hlt
  · subst hst
    rw [withSign_add_same, ← FpFraction.value_add hx hy] at h ⊢
    exact delivers_withSign_of_pos f rnd s hden
      (lt_of_le_of_ne (FpFraction.value_nonneg _) (Ne.symm (mt (withSign_eq_zero_iff s _).mpr h)))
  · refine absurd ?_ h
    rw [withSign_add_opposite hst, withSign_eq_zero_iff, ← FpFraction.value_sub hx hy heq.ge, heq, Nat.sub_self]
    simp [FpFraction.value]
  · rw [add_comm, withSign_add_opposite (Ne.symm hst), mul_comm x.den, ← FpFraction.value_sub hy hx hlt.le]
    refine delivers_withSign_of_pos f rnd t (Nat.mul_pos hy hx) ?_
    rw [FpFraction.value_sub hy hx hlt.le, sub_pos]
    exact (FpFraction.cross_lt_iff hx hy).mp hlt
  · have hgt : y.num * x.den < x.num * y.den := by omega
    rw [withSign_add_opposite hst, ← FpFraction.value_sub hx hy hgt.le]
    refine delivers_withSign_of_pos f rnd s hden ?_
    rw [FpFraction.value_sub hx hy hgt.le, sub_pos]
    exact (FpFraction.cross_lt_iff hy hx).mp hgt

/-- A sum that is zero has the common sign, and of opposite signs is negative only in mode 3. -/
theorem addFinite_of_sum_zero (f : FpFormat) (rnd : Rounding) (s t : Bool) (h : withSign s x.value + withSign t y.value = 0) :
    addFinite f rnd s x t y =
      ⟨if (if s = t then s else decide (rnd.mode = 3)) = true then f.signBit else 0, IeeeFlags.none⟩ := by
  have hden := Nat.mul_pos hx hy
  by_cases hst : s = t
  · subst hst
    rw [withSign_add_same, withSign_eq_zero_iff, ← FpFraction.value_add hx hy, FpFraction.value, div_eq_zero_iff] at h
    rw [addFinite, if_pos rfl, if_pos rfl]
    exact deliver_of_num_eq_zero (by exact_mod_cast h.resolve_right (by exact_mod_cast hden.ne'))
  · rw [withSign_add_opposite hst, withSign_eq_zero_iff, sub_eq_zero] at h
    have heq : x.num * y.den = y.num * x.den :=
      Nat.le_antisymm (not_lt.mp (mt (FpFraction.cross_lt_iff hy hx).mp h.not_gt))
        (not_lt.mp (mt (FpFraction.cross_lt_iff hx hy).mp h.not_lt))
    rw [addFinite, if_neg hst, if_pos heq, if_neg hst]
    exact deliver_of_num_eq_zero rfl

end

/-! ### NaNs, infinities and numbers (rules R245, R246) -/

section
variable {f : FpFormat} {x : Nat}

theorem fpIsNan_iff : fpIsNan f x = true ↔ f.infinity < x % f.signBit := decide_eq_true_iff

theorem fpIsNan_eq_false (h : x % f.signBit ≤ f.infinity) : fpIsNan f x = false := decide_eq_false h.not_gt

theorem fpIsInf_iff : fpIsInf f x = true ↔ x % f.signBit = f.infinity := beq_iff_eq

theorem fpIsZero_iff : fpIsZero f x = true ↔ x % f.signBit = 0 := beq_iff_eq

theorem IsFinite.not_fpIsInf (h : IsFinite f x) : ¬fpIsInf f x = true := mt fpIsInf_iff.mp h.2.ne

theorem IsFinite.le_infinity (h : IsFinite f x) : x % f.signBit ≤ f.infinity := h.2.le

/-- A pattern that is not finite is an infinity or a NaN. -/
theorem fpIsNan_or_fpIsInf_of_not_finite (h : x < 2 * f.signBit) (hx : ¬IsFinite f x) :
    (fpIsNan f x || fpIsInf f x) = true := by
  rw [Bool.or_eq_true, fpIsNan_iff, fpIsInf_iff]
  have : f.infinity ≤ x % f.signBit := not_lt.mp fun hlt => hx ⟨h, hlt⟩
  omega

end

section
variable {f : FpFormat} {rnd : Rounding} {a b : Nat}

theorem neither_fpIsNan (ha : a % f.signBit ≤ f.infinity) (hb : b % f.signBit ≤ f.infinity) :
    ¬(fpIsNan f a || fpIsNan f b) = true := by
  rw [fpIsNan_eq_false ha, fpIsNan_eq_false hb]; decide

section
variable (ha : a % f.signBit ≤ f.infinity) (hb : b % f.signBit ≤ f.infinity)
include ha hb

theorem fpAdd_of_numbers (neg : Bool) : fpAdd f rnd neg a b =
    if fpIsInf f a then
      (if fpIsInf f b && fpSign f a != (fpSign f b != neg) then .invalid f.defaultNan else .exact a)
    else if fpIsInf f b then .exact (fpWithSign f (fpSign f b != neg) f.infinity)
    else addFinite f rnd (fpSign f a) (fpValue f a) (fpSign f b != neg) (fpValue f b) :=
  if_neg (neither_fpIsNan ha hb)

theorem fpMul_of_numbers : fpMul f rnd a b = multiplyNumbers f f rnd a b := if_neg (neither_fpIsNan ha hb)

theorem fpDiv_of_numbers : fpDiv f rnd a b =
    if fpIsInf f a then
      (if fpIsInf f b then .invalid f.defaultNan else .exact (fpWithSign f (fpSign f a != fpSign f b) f.infinity))
    else if fpIsInf f b then .exact (fpWithSign f (fpSign f a != fpSign f b) 0)
    else if fpIsZero f b then
      (if fpIsZero f a then .invalid f.defaultNan
       else ⟨fpWithSign f (fpSign f a != fpSign f b) f.infinity, { IeeeFlags.none with dz := true }⟩)
    else deliver f rnd (fpSign f a != fpSign f b)
      ⟨(fpValue f a).num * (fpValue f b).den, (fpValue f a).den * (fpValue f b).num⟩ :=
  if_neg (neither_fpIsNan ha hb)

end

theorem fpMulWiden_of_numbers (ha : a % 2 ^ 31 ≤ 0x7F800000) (hb : b % 2 ^ 31 ≤ 0x7F800000) :
    fpMulWiden rnd a b = multiplyNumbers .single .double rnd a b := if_neg (neither_fpIsNan (f := .single) ha hb)

/-! ### Finite operands (rules R972 to R984) -/

section
variable (ha : IsFinite f a) (hb : IsFinite f b)
include ha hb

theorem fpAdd_of_finite (neg : Bool) : fpAdd f rnd neg a b =
    addFinite f rnd (fpSign f a) (fpValue f a) (fpSign f b != neg) (fpValue f b) := by
  rw [fpAdd_of_numbers ha.le_infinity hb.le_infinity, if_neg ha.not_fpIsInf, if_neg hb.not_fpIsInf]

/-- The sum of the values, the second one negated for FSUB. -/
theorem sum_eq_withSign (neg : Bool) : patternValue f a + (if neg = true then -patternValue f b else patternValue f b) =
    withSign (fpSign f a) (fpValue f a).value + withSign (fpSign f b != neg) (fpValue f b).value := by
  rw [patternValue_eq_withSign f ha.1, patternValue_eq_withSign f hb.1, ← withSign_withSign]; rfl

theorem fpAdd_finite {neg : Bool} {c : ℚ}
    (hc : c = patternValue f a + (if neg = true then -patternValue f b else patternValue f b)) :
    (c ≠ 0 → Delivers f rnd (decide (c < 0)) c (fpAdd f rnd neg a b))
    ∧ (c = 0 → fpAdd f rnd neg a b = ⟨if (if fpSign f a = (fpSign f b != neg) then fpSign f a else decide (rnd.mode = 3)) = true
        then f.signBit else 0, IeeeFlags.none⟩) := by
  rw [sum_eq_withSign ha hb] at hc
  subst hc
  rw [fpAdd_of_finite ha hb]
  exact ⟨addFinite_delivers (fpValue_den_pos f a) (fpValue_den_pos f b) f rnd _ _,
    addFinite_of_sum_zero (fpValue_den_pos f a) (fpValue_den_pos f b) f rnd _ _⟩

theorem multiplyNumbers_finite (dst : FpFormat) : Delivers dst rnd (fpSign f a != fpSign f b) (patternValue f a * patternValue f b)
    (multiplyNumbers f dst rnd a b) := by
  have hinf : ¬(fpIsInf f a || fpIsInf f b) = true := by
    rw [Bool.or_eq_true]; exact not_or.mpr ⟨ha.not_fpIsInf, hb.not_fpIsInf⟩
  rw [multiplyNumbers, if_neg hinf, patternValue_eq_withSign f ha.1, patternValue_eq_withSign f hb.1, withSign_mul,
    ← FpFraction.value_mul]
  exact delivers_withSign dst rnd _ (Nat.mul_pos (fpValue_den_pos f a) (fpValue_den_pos f b))

theorem fpMul_finite : Delivers f rnd (fpSign f a != fpSign f b) (patternValue f a * patternValue f b) (fpMul f rnd a b) := by
  rw [fpMul_of_numbers ha.le_infinity hb.le_infinity]
  exact multiplyNumbers_finite ha hb f

theorem fpDiv_of_finite : fpDiv f rnd a b =
    if fpIsZero f b then
      (if fpIsZero f a then .invalid f.defaultNan
       else ⟨fpWithSign f (fpSign f a != fpSign f b) f.infinity, { IeeeFlags.none with dz := true }⟩)
    else deliver f rnd (fpSign f a != fpSign f b)
      ⟨(fpValue f a).num * (fpValue f b).den, (fpValue f a).den * (fpValue f b).num⟩ := by
  rw [fpDiv_of_numbers ha.le_infinity hb.le_infinity, if_neg ha.not_fpIsInf, if_neg hb.not_fpIsInf]

theorem fpDiv_finite (h : patternValue f b ≠ 0) :
    Delivers f rnd (fpSign f a != fpSign f b) (patternValue f a / patternValue f b) (fpDiv f rnd a b) := by
  have hzero : ¬fpIsZero f b = true := mt (patternValue_eq_zero_iff f hb.1).mpr h
  have hnum : 0 < (fpValue f b).num := by
    refine Nat.pos_of_ne_zero fun hnum => hzero ?_
    rw [fpIsZero, beq_iff_eq, ← fpValue_value_eq_zero_iff, FpFraction.value, hnum, Nat.cast_zero, zero_div]
  rw [fpDiv_of_finite ha hb, if_neg hzero, patternValue_eq_withSign f ha.1, patternValue_eq_withSign f hb.1, withSign_div,
    ← FpFraction.value_div]
  exact delivers_withSign f rnd _ (Nat.mul_pos (fpValue_den_pos f a) hnum)

theorem fpDiv_by_zero (h : patternValue f b = 0) (h' : patternValue f a ≠ 0) : fpDiv f rnd a b =
    ⟨(if fpSign f a = fpSign f b then 0 else f.signBit) + f.infinity, ⟨false, false, false, true, false⟩⟩ := by
  rw [fpDiv_of_finite ha hb, if_pos ((patternValue_eq_zero_iff f hb.1).mp h),
    if_neg (mt (patternValue_eq_zero_iff f ha.1).mpr h'), fpWithSign_eq]
  cases fpSign f a <;> cases fpSign f b <;> rfl

theorem fpDiv_zero_by_zero (h : patternValue f b = 0) (h' : patternValue f a = 0) :
    fpDiv f rnd a b = ⟨f.defaultNan, ⟨true, false, false, false, false⟩⟩ := by
  rw [fpDiv_of_finite ha hb, if_pos ((patternValue_eq_zero_iff f hb.1).mp h), if_pos ((patternValue_eq_zero_iff f ha.1).mp h')]
  rfl

end

/-! ### Infinite operands (rules R972 to R984) -/

theorem infinity_left (ha : a % f.signBit = f.infinity) (hb : IsFinite f b) (neg : Bool) :
    fpAdd f rnd neg a b = ⟨a, IeeeFlags.none⟩
    ∧ fpDiv f rnd a b = ⟨(if (fpSign f a != fpSign f b) = true then f.signBit else 0) + f.infinity, IeeeFlags.none⟩ := by
  have hinf : fpIsInf f b = false := Bool.eq_false_iff.mpr hb.not_fpIsInf
  rw [fpAdd_of_numbers ha.le hb.le_infinity, fpDiv_of_numbers ha.le hb.le_infinity, fpIsInf_iff.mpr ha, hinf]
  exact ⟨rfl, congrArg FpResult.exact (fpWithSign_eq f _ _)⟩

theorem infinity_right (ha : IsFinite f a) (hb : b % f.signBit = f.infinity) (neg : Bool) :
    fpAdd f rnd neg a b = ⟨(if (fpSign f b != neg) = true then f.signBit else 0) + f.infinity, IeeeFlags.none⟩
    ∧ fpDiv f rnd a b = ⟨if (fpSign f a != fpSign f b) = true then f.signBit else 0, IeeeFlags.none⟩ := by
  have hinf : fpIsInf f a = false := Bool.eq_false_iff.mpr ha.not_fpIsInf
  rw [fpAdd_of_numbers ha.le_infinity hb.le, fpDiv_of_numbers ha.le_infinity hb.le, fpIsInf_iff.mpr hb, hinf]
  exact ⟨congrArg FpResult.exact (fpWithSign_eq f _ _), congrArg FpResult.exact (fpWithSign_eq f _ 0)⟩

theorem infinity_both (ha : a % f.signBit = f.infinity) (hb : b % f.signBit = f.infinity) (neg : Bool) :
    (fpSign f a = (fpSign f b != neg) → fpAdd f rnd neg a b = ⟨a, IeeeFlags.none⟩)
    ∧ (fpSign f a ≠ (fpSign f b != neg) → fpAdd f rnd neg a b = ⟨f.defaultNan, ⟨true, false, false, false, false⟩⟩)
    ∧ fpDiv f rnd a b = ⟨f.defaultNan, ⟨true, false, false, false, false⟩⟩ := by
  rw [fpAdd_of_numbers ha.le hb.le, fpDiv_of_numbers ha.le hb.le, fpIsInf_iff.mpr ha, fpIsInf_iff.mpr hb, if_pos rfl,
    Bool.true_and]
  exact ⟨fun h => if_neg (by simpa using h), fun h => if_pos (by simpa using h), rfl⟩

/-- One operand is an infinity, the other a number other than zero. -/
theorem multiplyNumbers_infinity (dst : FpFormat) (hpos : 0 < f.infinity)
    (h : (a % f.signBit = f.infinity ∧ 0 < b % f.signBit ∧ b % f.signBit ≤ f.infinity)
      ∨ (b % f.signBit = f.infinity ∧ 0 < a % f.signBit ∧ a % f.signBit ≤ f.infinity)) :
    multiplyNumbers f dst rnd a b =
      ⟨(if (fpSign f a != fpSign f b) = true then dst.signBit else 0) + dst.infinity, IeeeFlags.none⟩ := by
  have hinf : (fpIsInf f a || fpIsInf f b) = true := by
    rw [Bool.or_eq_true, fpIsInf_iff, fpIsInf_iff]; omega
  have hzero : ¬(fpIsZero f a || fpIsZero f b) = true := by
    rw [Bool.or_eq_true, fpIsZero_iff, fpIsZero_iff]; omega
  rw [multiplyNumbers, if_pos hinf, if_neg hzero, fpWithSign_eq]
  rfl

theorem multiplyNumbers_infinity_zero (dst : FpFormat)
    (h : (a % f.signBit = f.infinity ∧ b % f.signBit = 0) ∨ (b % f.signBit = f.infinity ∧ a % f.signBit = 0)) :
    multiplyNumbers f dst rnd a b = ⟨dst.defaultNan, ⟨true, false, false, false, false⟩⟩ := by
  have hinf : (fpIsInf f a || fpIsInf f b) = true := by
    rw [Bool.or_eq_true, fpIsInf_iff, fpIsInf_iff]; omega
  have hzero : (fpIsZero f a || fpIsZero f b) = true := by
    rw [Bool.or_eq_true, fpIsZero_iff, fpIsZero_iff]; omega
  rw [multiplyNumbers, if_pos hinf, if_pos hzero]
  rfl

end

/-! ### NaN operands (rules R968, R969) -/

/-- The fraction is its most significant bit and the rest. -/
theorem mod_two_pow_frac {f : FpFormat} (hfrac : 0 < f.frac) (x : Nat) :
    x % 2 ^ f.frac = 2 ^ (f.frac - 1) * (x.testBit (f.frac - 1)).toNat + x % 2 ^ (f.frac - 1) := by
  obtain ⟨k, hk⟩ := Nat.exists_eq_succ_of_ne_zero hfrac.ne'
  rw [hk, Nat.succ_sub_one, Nat.pow_succ, Nat.mod_mul, Nat.testBit_eq_decide_div_mod_eq]
  rcases Nat.mod_two_eq_zero_or_one (x / 2 ^ k) with h | h <;> simp [h, add_comm]

theorem fpIsSnan_iff {f : FpFormat} (hfrac : 0 < f.frac) (x : Nat) :
    fpIsSnan f x = true ↔ f.infinity < x % f.signBit ∧ x % 2 ^ f.frac < 2 ^ (f.frac - 1) := by
  have hlow : x % 2 ^ (f.frac - 1) < 2 ^ (f.frac - 1) := Nat.mod_lt _ (Nat.two_pow_pos _)
  rw [fpIsSnan, Bool.and_eq_true, fpIsNan_iff, Bool.not_eq_true', mod_two_pow_frac hfrac]
  cases x.testBit (f.frac - 1)
  · simp [hlow]
  · simp

/-- Quieting sets the most significant fraction bit. -/
theorem fpQuiet_eq {f : FpFormat} (hfrac : 0 < f.frac) (x : Nat) :
    fpQuiet f x = x / 2 ^ f.frac * 2 ^ f.frac + 2 ^ (f.frac - 1) + x % 2 ^ (f.frac - 1) := by
  have hx := Nat.div_add_mod' x (2 ^ f.frac)
  rw [mod_two_pow_frac hfrac x] at hx
  rw [fpQuiet, FpFormat.quietBit]
  split
  · next h =>
    rw [h, Bool.toNat_true, mul_one] at hx
    omega
  · next h =>
    rw [Bool.eq_false_iff.mpr h, Bool.toNat_false, mul_zero] at hx
    omega

theorem fpQuiet_of_fpIsSnan {f : FpFormat} {x : Nat} (h : fpIsSnan f x = true) : fpQuiet f x = x + 2 ^ (f.frac - 1) := by
  rw [fpIsSnan, Bool.and_eq_true, Bool.not_eq_true'] at h
  exact if_neg (Bool.eq_false_iff.mp h.2)

theorem fpIsNan_of_fpIsSnan {f : FpFormat} {x : Nat} (h : fpIsSnan f x = true) : fpIsNan f x = true :=
  ((Bool.and_eq_true _ _).mp h).1

/-- The order in which an operand that is a NaN is chosen: what an operation makes of the choice is `g`. -/
theorem chooseNan_order {f : FpFormat} {a b : Nat} {r : FpResult} {g : Nat × Bool → FpResult}
    (h : (fpIsNan f a || fpIsNan f b) = true → r = g (chooseNan f a b)) :
    (fpIsSnan f b = true → r = g (b, true))
    ∧ (fpIsSnan f b = false → fpIsSnan f a = true → r = g (a, true))
    ∧ (fpIsSnan f b = false → fpIsSnan f a = false →
      (fpIsNan f b = true → r = g (b, false)) ∧ (fpIsNan f b = false → fpIsNan f a = true → r = g (a, false))) := by
  have left (ha : fpIsNan f a = true) : r = g (chooseNan f a b) := h (by rw [ha, Bool.true_or])
  have right (hb : fpIsNan f b = true) : r = g (chooseNan f a b) := h (by rw [hb, Bool.or_true])
  refine ⟨fun hb => ?_, fun hb ha => ?_, fun hb ha => ⟨fun hqb => ?_, fun hqb hqa => ?_⟩⟩
  · rw [right (fpIsNan_of_fpIsSnan hb), chooseNan, if_pos hb]
  · rw [left (fpIsNan_of_fpIsSnan ha), chooseNan, hb, if_neg Bool.false_ne_true, if_pos ha]
  · rw [right hqb, chooseNan, hb, ha, if_neg Bool.false_ne_true, if_neg Bool.false_ne_true, if_pos hqb]
  · rw [left hqa, chooseNan, hb, ha, hqb, if_neg Bool.false_ne_true, if_neg Bool.false_ne_true, if_neg Bool.false_ne_true]

/-- An operation whose NaN result is `nanResult` follows that order in its own format. -/
theorem nanResult_order {f : FpFormat} {a b : Nat} {r : FpResult}
    (h : (fpIsNan f a || fpIsNan f b) = true → r = nanResult f a b) :
    (fpIsSnan f b = true → r = ⟨b + 2 ^ (f.frac - 1), ⟨true, false, false, false, false⟩⟩)
    ∧ (fpIsSnan f b = false → fpIsSnan f a = true → r = ⟨a + 2 ^ (f.frac - 1), ⟨true, false, false, false, false⟩⟩)
    ∧ (fpIsSnan f b = false → fpIsSnan f a = false →
      (fpIsNan f b = true → r = ⟨b, IeeeFlags.none⟩) ∧ (fpIsNan f b = false → fpIsNan f a = true → r = ⟨a, IeeeFlags.none⟩)) := by
  obtain ⟨hsb, hsa, hq⟩ := chooseNan_order (g := fun p => if p.2 then .invalid (fpQuiet f p.1) else .exact p.1) h
  exact ⟨fun hb => (hsb hb).trans (congrArg FpResult.invalid (fpQuiet_of_fpIsSnan hb)),
    fun hb ha => (hsa hb ha).trans (congrArg FpResult.invalid (fpQuiet_of_fpIsSnan ha)), hq⟩

theorem fpWithSign_fpSign (src dst : FpFormat) {x : Nat} (h : x < 2 * src.signBit) (mag : Nat) :
    fpWithSign dst (fpSign src x) mag = x / src.signBit * dst.signBit + mag := by
  unfold fpSign
  rw [fpWithSign_eq]
  by_cases hs : src.signBit ≤ x
  · rw [if_pos (decide_eq_true hs), Nat.div_eq_of_lt_le (k := 1) (by omega) (by omega), one_mul]
  · rw [if_neg (by simpa using hs), Nat.div_eq_of_lt (not_le.mp hs), zero_mul]

theorem transformNan_widen {x : Nat} (h : x < 2 ^ 32) :
    transformNan .single .double x = x / 2 ^ 31 * 2 ^ 63 + 0xFFF * 2 ^ 51 + x % 2 ^ 22 * 2 ^ 29 := by
  unfold transformNan
  dsimp only
  rw [fpWithSign_fpSign .single .double h, fpQuiet_eq (by decide), if_pos (by decide)]
  simp only [FpFormat.single, FpFormat.double, FpFormat.signBit, FpFormat.infinity, FpFormat.maxExp]
  omega

theorem transformNan_narrow {x : Nat} (h : x < 2 ^ 64) :
    transformNan .double .single x = x / 2 ^ 63 * 2 ^ 31 + 0x1FF * 2 ^ 22 + x % 2 ^ 51 / 2 ^ 29 := by
  unfold transformNan
  dsimp only
  rw [fpWithSign_fpSign .double .single h, fpQuiet_eq (by decide), if_neg (by decide)]
  simp only [FpFormat.single, FpFormat.double, FpFormat.signBit, FpFormat.infinity, FpFormat.maxExp]
  omega

/-! ### Conversions (rules R996 to R1010) -/

section
variable {src dst : FpFormat} {rnd : Rounding} {x : Nat}

theorem fpConvert_finite (h : IsFinite src x) : Delivers dst rnd (fpSign src x) (patternValue src x) (fpConvert src dst rnd x) := by
  rw [fpConvert, fpIsNan_eq_false h.le_infinity, if_neg Bool.false_ne_true, if_neg h.not_fpIsInf, patternValue_eq_withSign src h.1]
  exact delivers_withSign dst rnd _ (fpValue_den_pos src x)

theorem fpConvert_infinity (hx : x < 2 * src.signBit) (h : x % src.signBit = src.infinity) :
    fpConvert src dst rnd x = ⟨x / src.signBit * dst.signBit + dst.infinity, IeeeFlags.none⟩ := by
  rw [fpConvert, fpIsNan_eq_false h.le, if_neg Bool.false_ne_true, if_pos (fpIsInf_iff.mpr h), fpWithSign_fpSign src dst hx]
  rfl

theorem fpConvert_nan (h : fpIsNan src x = true) :
    fpConvert src dst rnd x = ⟨transformNan src dst x, ⟨fpIsSnan src x, false, false, false, false⟩⟩ := if_pos h

theorem fpOfInt_delivers (i : ℤ) : Delivers dst rnd (decide (i < 0)) i (fpOfInt dst rnd i) := by
  refine ⟨⟨i.natAbs, 1⟩, Nat.one_pos, ?_, rfl⟩
  rw [Nat.cast_one, div_one, Nat.cast_natAbs, Int.cast_abs]

end

/-! ### Truncation to an integer (rules R970, R1002, R1005) -/

/-- The integer `fpToInt` truncates a finite pattern to. -/
def truncated (f : FpFormat) (x : Nat) : ℤ :=
  if fpSign f x then -(((fpValue f x).num / (fpValue f x).den : Nat) : ℤ)
  else (((fpValue f x).num / (fpValue f x).den : Nat) : ℤ)

theorem fpToInt_eq (f : FpFormat) (w x : Nat) : fpToInt f w x =
    if fpIsNan f x || fpIsInf f x || decide (truncated f x < -(2 ^ (w - 1) : ℤ)) || decide ((2 ^ (w - 1) : ℤ) ≤ truncated f x) then
      .invalid (if fpSign f x then 2 ^ (w - 1) else 2 ^ (w - 1) - 1)
    else ⟨intPattern w (truncated f x), { IeeeFlags.none with nx := (fpValue f x).num % (fpValue f x).den != 0 }⟩ := rfl

section
variable {f : FpFormat} {x : Nat}

theorem FpFraction.floor_value (x : FpFraction) : ⌊x.value⌋ = (x.num / x.den : Nat) := by
  rw [value, Rat.floor_natCast_div_natCast]; rfl

/-- Truncation is rounding toward zero. -/
theorem truncated_eq (h : x < 2 * f.signBit) :
    truncated f x = if 0 ≤ patternValue f x then ⌊patternValue f x⌋ else ⌈patternValue f x⌉ := by
  have hnonneg := (fpValue f x).value_nonneg
  rw [patternValue_eq_withSign f h, truncated, ← FpFraction.floor_value]
  cases fpSign f x with
  | false => rw [withSign_false, if_pos hnonneg, if_neg Bool.false_ne_true]
  | true =>
    rw [withSign_true, if_pos rfl]
    split
    · next hneg =>
      have hzero : (fpValue f x).value = 0 := by linarith
      simp [hzero]
    · rw [Int.ceil_neg]

/-- Truncation changes the value exactly where the division leaves a remainder. -/
theorem truncated_ne_iff (h : x < 2 * f.signBit) :
    (truncated f x : ℚ) ≠ patternValue f x ↔ (fpValue f x).num % (fpValue f x).den ≠ 0 := by
  have hden : ((fpValue f x).den : ℚ) ≠ 0 := by exact_mod_cast (fpValue_den_pos f x).ne'
  have hq : (truncated f x : ℚ) = withSign (fpSign f x) (((fpValue f x).num / (fpValue f x).den : Nat) : ℚ) := by
    unfold truncated; cases fpSign f x <;> simp only [withSign_true, withSign_false, if_true, Bool.false_eq_true, if_false,
      Int.cast_neg, Int.cast_natCast]
  rw [hq, patternValue_eq_withSign f h, (fpValue f x).value_eq (fpValue_den_pos f x)]
  cases fpSign f x <;> simp [hden]

theorem fpToInt_of_fits {w : Nat} (h : IsFinite f x) (hlo : -(2 ^ (w - 1)) ≤ truncated f x) (hhi : truncated f x < 2 ^ (w - 1)) :
    fpToInt f w x = ⟨(truncated f x % 2 ^ w).toNat,
      ⟨false, false, false, false, decide ((truncated f x : ℚ) ≠ patternValue f x)⟩⟩ := by
  have hfits : ¬(fpIsNan f x || fpIsInf f x || decide (truncated f x < -(2 ^ (w - 1) : ℤ))
      || decide ((2 ^ (w - 1) : ℤ) ≤ truncated f x)) = true := by
    simp [fpIsNan_eq_false h.le_infinity, h.not_fpIsInf, hlo, hhi]
  have hnx : ((fpValue f x).num % (fpValue f x).den != 0) = decide ((truncated f x : ℚ) ≠ patternValue f x) := by
    rw [Bool.eq_iff_iff, bne_iff_ne, decide_eq_true_iff, truncated_ne_iff h.1]
  rw [fpToInt_eq, if_neg hfits, intPattern, BitVec.toNat_ofInt, hnx]
  push_cast
  rfl

theorem fpToInt_saturates {w : Nat} (hx : x < 2 * f.signBit)
    (h : IsFinite f x → ¬(-(2 ^ (w - 1)) ≤ truncated f x ∧ truncated f x < 2 ^ (w - 1))) :
    fpToInt f w x = ⟨if f.signBit ≤ x then 2 ^ (w - 1) else 2 ^ (w - 1) - 1, ⟨true, false, false, false, false⟩⟩ := by
  have hinvalid : (fpIsNan f x || fpIsInf f x || decide (truncated f x < -(2 ^ (w - 1) : ℤ))
      || decide ((2 ^ (w - 1) : ℤ) ≤ truncated f x)) = true := by
    by_cases hfin : IsFinite f x
    · have := h hfin
      simp only [Bool.or_eq_true, decide_eq_true_iff]
      omega
    · rw [fpIsNan_or_fpIsInf_of_not_finite hx hfin, Bool.true_or, Bool.true_or]
  rw [fpToInt_eq, if_pos hinvalid]
  simp only [fpSign, decide_eq_true_iff]
  rfl

end

/-! ### The statement -/

/-- Settles O55: which operands are NaNs or infinities decides first, and finite ones are fractions with signs, so that each
operation's exact result is the fraction it hands to `deliver`. -/
theorem exactResultsOfOperations : Obligations.ExactResultsOfOperations := by
  intro rnd a b
  refine ⟨fun f hf ha hb => ?format, fun ha hb => ?wideProduct, ?widen, ?narrow, fpConvert_finite, fpConvert_finite,
    fun f _ i => fpOfInt_delivers i⟩
  case format =>
    have hformat : 0 < f.frac ∧ 1 < f.exp := by
      simp only [List.mem_cons, List.not_mem_nil, or_false] at hf
      rcases hf with rfl | rfl <;> decide
    obtain ⟨hfrac, hexp⟩ := hformat
    have hinf : 0 < f.infinity := Nat.zero_lt_of_lt (infinity_bounds hfrac hexp).2.1
    refine ⟨fun ha hb => ?finite, fpIsNan_iff, fpIsSnan_iff hfrac a, ?nan, ?infinite, ?toInt⟩
    case finite =>
      exact ⟨fun neg c hc => fpAdd_finite ha hb hc, fpMul_finite ha hb, fpDiv_finite ha hb, fpDiv_by_zero ha hb,
        fpDiv_zero_by_zero ha hb⟩
    case nan =>
      simp only [List.forall_mem_cons]
      exact ⟨nanResult_order fun h => if_pos h, nanResult_order fun h => if_pos h, nanResult_order fun h => if_pos h,
        nanResult_order fun h => if_pos h, List.forall_mem_nil _⟩
    case infinite =>
      rintro neg sa sb sp rfl rfl rfl
      refine ⟨fun ha hb => infinity_left ha hb neg, fun ha hb => infinity_right ha hb neg, fun ha hb => infinity_both ha hb neg,
        fun h => ?_, fun h => ?_⟩
      · rw [fpMul_of_numbers (by omega) (by omega)]
        exact multiplyNumbers_infinity f hinf h
      · rw [fpMul_of_numbers (by omega) (by omega)]
        exact multiplyNumbers_infinity_zero f h
    case toInt =>
      rintro w - t
      rw [← truncated_eq ha]
      refine ⟨?_, fun h => fpToInt_saturates ha ?_⟩
      · rintro hfin rfl
        exact fpToInt_of_fits hfin
      · intro hfin
        obtain ⟨rfl, hout⟩ := h hfin
        exact hout
  case wideProduct =>
    rw [fpMulWiden_of_numbers ha.le_infinity hb.le_infinity]
    exact multiplyNumbers_finite ha hb .double
  case widen =>
    rintro ha hb sp rfl
    refine ⟨fun h => ?_, fun h => ?_, fun wide hwide => ?_⟩
    · rw [fpMulWiden_of_numbers (by omega) (by omega)]
      exact multiplyNumbers_infinity (f := .single) .double (by decide) h
    · rw [fpMulWiden_of_numbers (by omega) (by omega)]
      exact multiplyNumbers_infinity_zero (f := .single) .double h
    · rw [hwide a, hwide b, ← transformNan_widen ha, ← transformNan_widen hb]
      obtain ⟨hsb, hsa, hq⟩ := chooseNan_order (f := .single) (a := a) (b := b) (r := fpMulWiden rnd a b)
        (g := fun p => ⟨transformNan .single .double p.1, ⟨p.2, false, false, false, false⟩⟩) fun h => if_pos h
      refine ⟨hsb, hsa, hq, fpConvert_nan, fun h => ?_⟩
      exact fpConvert_infinity (src := .single) ha h
  case narrow =>
    intro ha
    exact ⟨fun h => transformNan_narrow ha ▸ fpConvert_nan h, fpConvert_infinity (src := .double) ha⟩

end Sys2Proof.Machine

/-! PROOFS. Decoding the encoding of a well-formed instruction (O2). -/

namespace Sys2Proof.Laws.RoundTrip

/-- The lemmas of Laws/PerInstr.lean, one for each constructor, gathered. -/
theorem statement_holds (i : Instr) : Statement i :=
  match i with
  | .add _ _ _ => add _ _ _ | .addcc _ _ _ => addcc _ _ _ | .and _ _ _ => and _ _ _ | .andcc _ _ _ => andcc _ _ _
  | .or _ _ _ => or _ _ _ | .orcc _ _ _ => orcc _ _ _ | .xor _ _ _ => xor _ _ _ | .xorcc _ _ _ => xorcc _ _ _
  | .sub _ _ _ => sub _ _ _ | .subcc _ _ _ => subcc _ _ _ | .andn _ _ _ => andn _ _ _ | .andncc _ _ _ => andncc _ _ _
  | .orn _ _ _ => orn _ _ _ | .orncc _ _ _ => orncc _ _ _ | .xnor _ _ _ => xnor _ _ _ | .xnorcc _ _ _ => xnorcc _ _ _
  | .addc _ _ _ => addc _ _ _ | .addccc _ _ _ => addccc _ _ _ | .subc _ _ _ => subc _ _ _ | .subccc _ _ _ => subccc _ _ _
  | .mulx _ _ _ => mulx _ _ _ | .sdivx _ _ _ => sdivx _ _ _ | .udivx _ _ _ => udivx _ _ _ | .umul _ _ _ => umul _ _ _
  | .smul _ _ _ => smul _ _ _ | .umulcc _ _ _ => umulcc _ _ _ | .smulcc _ _ _ => smulcc _ _ _ | .udiv _ _ _ => udiv _ _ _
  | .sdiv _ _ _ => sdiv _ _ _ | .udivcc _ _ _ => udivcc _ _ _ | .sdivcc _ _ _ => sdivcc _ _ _ | .mulscc _ _ _ => mulscc _ _ _
  | .taddcc _ _ _ => taddcc _ _ _ | .taddcctv _ _ _ => taddcctv _ _ _ | .tsubcc _ _ _ => tsubcc _ _ _
  | .tsubcctv _ _ _ => tsubcctv _ _ _ | .sll _ _ _ => sll _ _ _ | .sllx _ _ _ => sllx _ _ _ | .srl _ _ _ => srl _ _ _
  | .srlx _ _ _ => srlx _ _ _ | .sra _ _ _ => sra _ _ _ | .srax _ _ _ => srax _ _ _ | .sethi _ _ => sethi _ _ | .nop => nop
  | .popc _ _ => popc _ _ | .mova _ _ _ => mova _ _ _ | .movn _ _ _ => movn _ _ _ | .movne _ _ _ => movne _ _ _
  | .move _ _ _ => move _ _ _ | .movg _ _ _ => movg _ _ _ | .movle _ _ _ => movle _ _ _ | .movge _ _ _ => movge _ _ _
  | .movl _ _ _ => movl _ _ _ | .movgu _ _ _ => movgu _ _ _ | .movleu _ _ _ => movleu _ _ _ | .movcc _ _ _ => movcc _ _ _
  | .movcs _ _ _ => movcs _ _ _ | .movpos _ _ _ => movpos _ _ _ | .movneg _ _ _ => movneg _ _ _ | .movvc _ _ _ => movvc _ _ _
  | .movvs _ _ _ => movvs _ _ _ | .movfa _ _ _ => movfa _ _ _ | .movfn _ _ _ => movfn _ _ _ | .movfu _ _ _ => movfu _ _ _
  | .movfg _ _ _ => movfg _ _ _ | .movfug _ _ _ => movfug _ _ _ | .movfl _ _ _ => movfl _ _ _ | .movful _ _ _ => movful _ _ _
  | .movflg _ _ _ => movflg _ _ _ | .movfne _ _ _ => movfne _ _ _ | .movfe _ _ _ => movfe _ _ _ | .movfue _ _ _ => movfue _ _ _
  | .movfge _ _ _ => movfge _ _ _ | .movfuge _ _ _ => movfuge _ _ _ | .movfle _ _ _ => movfle _ _ _
  | .movfule _ _ _ => movfule _ _ _ | .movfo _ _ _ => movfo _ _ _ | .movrz _ _ _ => movrz _ _ _
  | .movrlez _ _ _ => movrlez _ _ _ | .movrlz _ _ _ => movrlz _ _ _ | .movrnz _ _ _ => movrnz _ _ _
  | .movrgz _ _ _ => movrgz _ _ _ | .movrgez _ _ _ => movrgez _ _ _ | .ba _ _ => ba _ _ | .bn _ _ => bn _ _
  | .bne _ _ => bne _ _ | .be _ _ => be _ _ | .bg _ _ => bg _ _ | .ble _ _ => ble _ _ | .bge _ _ => bge _ _ | .bl _ _ => bl _ _
  | .bgu _ _ => bgu _ _ | .bleu _ _ => bleu _ _ | .bcc _ _ => bcc _ _ | .bcs _ _ => bcs _ _ | .bpos _ _ => bpos _ _
  | .bneg _ _ => bneg _ _ | .bvc _ _ => bvc _ _ | .bvs _ _ => bvs _ _ | .bpa _ _ _ _ => bpa _ _ _ _
  | .bpn _ _ _ _ => bpn _ _ _ _ | .bpne _ _ _ _ => bpne _ _ _ _ | .bpe _ _ _ _ => bpe _ _ _ _ | .bpg _ _ _ _ => bpg _ _ _ _
  | .bple _ _ _ _ => bple _ _ _ _ | .bpge _ _ _ _ => bpge _ _ _ _ | .bpl _ _ _ _ => bpl _ _ _ _ | .bpgu _ _ _ _ => bpgu _ _ _ _
  | .bpleu _ _ _ _ => bpleu _ _ _ _ | .bpcc _ _ _ _ => bpcc _ _ _ _ | .bpcs _ _ _ _ => bpcs _ _ _ _
  | .bppos _ _ _ _ => bppos _ _ _ _ | .bpneg _ _ _ _ => bpneg _ _ _ _ | .bpvc _ _ _ _ => bpvc _ _ _ _
  | .bpvs _ _ _ _ => bpvs _ _ _ _ | .brz _ _ _ _ => brz _ _ _ _ | .brlez _ _ _ _ => brlez _ _ _ _
  | .brlz _ _ _ _ => brlz _ _ _ _ | .brnz _ _ _ _ => brnz _ _ _ _ | .brgz _ _ _ _ => brgz _ _ _ _
  | .brgez _ _ _ _ => brgez _ _ _ _ | .call _ => call _ | .fba _ _ => fba _ _ | .fbn _ _ => fbn _ _ | .fbu _ _ => fbu _ _
  | .fbg _ _ => fbg _ _ | .fbug _ _ => fbug _ _ | .fbl _ _ => fbl _ _ | .fbul _ _ => fbul _ _ | .fblg _ _ => fblg _ _
  | .fbne _ _ => fbne _ _ | .fbe _ _ => fbe _ _ | .fbue _ _ => fbue _ _ | .fbge _ _ => fbge _ _ | .fbuge _ _ => fbuge _ _
  | .fble _ _ => fble _ _ | .fbule _ _ => fbule _ _ | .fbo _ _ => fbo _ _ | .fbpa _ _ _ _ => fbpa _ _ _ _
  | .fbpn _ _ _ _ => fbpn _ _ _ _ | .fbpu _ _ _ _ => fbpu _ _ _ _ | .fbpg _ _ _ _ => fbpg _ _ _ _
  | .fbpug _ _ _ _ => fbpug _ _ _ _ | .fbpl _ _ _ _ => fbpl _ _ _ _ | .fbpul _ _ _ _ => fbpul _ _ _ _
  | .fbplg _ _ _ _ => fbplg _ _ _ _ | .fbpne _ _ _ _ => fbpne _ _ _ _ | .fbpe _ _ _ _ => fbpe _ _ _ _
  | .fbpue _ _ _ _ => fbpue _ _ _ _ | .fbpge _ _ _ _ => fbpge _ _ _ _ | .fbpuge _ _ _ _ => fbpuge _ _ _ _
  | .fbple _ _ _ _ => fbple _ _ _ _ | .fbpule _ _ _ _ => fbpule _ _ _ _ | .fbpo _ _ _ _ => fbpo _ _ _ _
  | .illtrap _ => illtrap _ | .jmpl _ _ _ => jmpl _ _ _ | .return_ _ _ => return_ _ _ | .ta _ _ _ => ta _ _ _
  | .tn _ _ _ => tn _ _ _ | .tne _ _ _ => tne _ _ _ | .te _ _ _ => te _ _ _ | .tg _ _ _ => tg _ _ _ | .tle _ _ _ => tle _ _ _
  | .tge _ _ _ => tge _ _ _ | .tl _ _ _ => tl _ _ _ | .tgu _ _ _ => tgu _ _ _ | .tleu _ _ _ => tleu _ _ _
  | .tcc _ _ _ => tcc _ _ _ | .tcs _ _ _ => tcs _ _ _ | .tpos _ _ _ => tpos _ _ _ | .tneg _ _ _ => tneg _ _ _
  | .tvc _ _ _ => tvc _ _ _ | .tvs _ _ _ => tvs _ _ _ | .done => done | .retry => retry | .ldsb _ _ _ => ldsb _ _ _
  | .ldsh _ _ _ => ldsh _ _ _ | .ldsw _ _ _ => ldsw _ _ _ | .ldub _ _ _ => ldub _ _ _ | .lduh _ _ _ => lduh _ _ _
  | .lduw _ _ _ => lduw _ _ _ | .ldx _ _ _ => ldx _ _ _ | .ldsba _ _ _ => ldsba _ _ _ | .ldsha _ _ _ => ldsha _ _ _
  | .ldswa _ _ _ => ldswa _ _ _ | .lduba _ _ _ => lduba _ _ _ | .lduha _ _ _ => lduha _ _ _ | .lduwa _ _ _ => lduwa _ _ _
  | .ldxa _ _ _ => ldxa _ _ _ | .ldtw _ _ _ => ldtw _ _ _ | .ldtwa _ _ _ => ldtwa _ _ _ | .ldtxa _ _ _ _ => ldtxa _ _ _ _
  | .stb _ _ _ => stb _ _ _ | .sth _ _ _ => sth _ _ _ | .stw _ _ _ => stw _ _ _ | .stx _ _ _ => stx _ _ _
  | .stba _ _ _ => stba _ _ _ | .stha _ _ _ => stha _ _ _ | .stwa _ _ _ => stwa _ _ _ | .stxa _ _ _ => stxa _ _ _
  | .sttw _ _ _ => sttw _ _ _ | .sttwa _ _ _ => sttwa _ _ _ | .ldstub _ _ _ => ldstub _ _ _ | .ldstuba _ _ _ => ldstuba _ _ _
  | .swap _ _ _ => swap _ _ _ | .swapa _ _ _ => swapa _ _ _ | .casa _ _ _ _ => casa _ _ _ _ | .casxa _ _ _ _ => casxa _ _ _ _
  | .prefetch _ _ _ => prefetch _ _ _ | .prefetcha _ _ _ => prefetcha _ _ _ | .membar _ _ => membar _ _ | .stbar => stbar
  | .flush _ _ => flush _ _ | .ldf _ _ _ => ldf _ _ _ | .lddf _ _ _ => lddf _ _ _ | .ldxfsr _ _ => ldxfsr _ _
  | .ldqf _ _ _ => ldqf _ _ _ | .ldfsr _ _ => ldfsr _ _ | .ldfa _ _ _ => ldfa _ _ _ | .lddfa _ _ _ => lddfa _ _ _
  | .ldqfa _ _ _ => ldqfa _ _ _ | .ldblockf _ _ _ _ => ldblockf _ _ _ _ | .ldshortf _ _ _ _ => ldshortf _ _ _ _
  | .stf _ _ _ => stf _ _ _ | .stdf _ _ _ => stdf _ _ _ | .stxfsr _ _ => stxfsr _ _ | .stqf _ _ _ => stqf _ _ _
  | .stfsr _ _ => stfsr _ _ | .stfa _ _ _ => stfa _ _ _ | .stdfa _ _ _ => stdfa _ _ _ | .stblockf _ _ _ _ => stblockf _ _ _ _
  | .stshortf _ _ _ _ => stshortf _ _ _ _ | .stpartialf _ _ _ _ => stpartialf _ _ _ _ | .stqfa _ _ _ => stqfa _ _ _
  | .save _ _ _ => save _ _ _ | .restore _ _ _ => restore _ _ _ | .saved => saved | .restored => restored
  | .allclean => allclean | .otherw => otherw | .normalw => normalw | .invalw => invalw | .flushw => flushw | .rdy _ => rdy _
  | .rdccr _ => rdccr _ | .rdasi _ => rdasi _ | .rdtick _ => rdtick _ | .rdpc _ => rdpc _ | .rdfprs _ => rdfprs _
  | .rdpcr _ => rdpcr _ | .rdpic _ => rdpic _ | .rdgsr _ => rdgsr _ | .rdsoftint _ => rdsoftint _
  | .rdtick_cmpr _ => rdtick_cmpr _ | .rdstick _ => rdstick _ | .rdstick_cmpr _ => rdstick_cmpr _ | .wry _ _ => wry _ _
  | .wrccr _ _ => wrccr _ _ | .wrasi _ _ => wrasi _ _ | .wrfprs _ _ => wrfprs _ _ | .wrpcr _ _ => wrpcr _ _
  | .wrpic _ _ => wrpic _ _ | .wrgsr _ _ => wrgsr _ _ | .wrsoftint_set _ _ => wrsoftint_set _ _
  | .wrsoftint_clr _ _ => wrsoftint_clr _ _ | .wrsoftint _ _ => wrsoftint _ _ | .wrtick_cmpr _ _ => wrtick_cmpr _ _
  | .wrstick _ _ => wrstick _ _ | .wrstick_cmpr _ _ => wrstick_cmpr _ _ | .sir _ => sir _ | .rdpr _ _ => rdpr _ _
  | .wrpr _ _ _ => wrpr _ _ _ | .rdhpr _ _ => rdhpr _ _ | .wrhpr _ _ _ => wrhpr _ _ _ | .shutdown => shutdown
  | .impdep1 _ _ _ _ => impdep1 _ _ _ _ | .impdep2a _ _ _ => impdep2a _ _ _ | .impdep2b _ _ _ _ => impdep2b _ _ _ _
  | .fadds _ _ _ => fadds _ _ _ | .faddd _ _ _ => faddd _ _ _ | .faddq _ _ _ => faddq _ _ _ | .fsubs _ _ _ => fsubs _ _ _
  | .fsubd _ _ _ => fsubd _ _ _ | .fsubq _ _ _ => fsubq _ _ _ | .fmuls _ _ _ => fmuls _ _ _ | .fmuld _ _ _ => fmuld _ _ _
  | .fmulq _ _ _ => fmulq _ _ _ | .fdivs _ _ _ => fdivs _ _ _ | .fdivd _ _ _ => fdivd _ _ _ | .fdivq _ _ _ => fdivq _ _ _
  | .fsmuld _ _ _ => fsmuld _ _ _ | .fdmulq _ _ _ => fdmulq _ _ _ | .fsqrts _ _ => fsqrts _ _ | .fsqrtd _ _ => fsqrtd _ _
  | .fsqrtq _ _ => fsqrtq _ _ | .fcmps _ _ _ => fcmps _ _ _ | .fcmpd _ _ _ => fcmpd _ _ _ | .fcmpq _ _ _ => fcmpq _ _ _
  | .fcmpes _ _ _ => fcmpes _ _ _ | .fcmped _ _ _ => fcmped _ _ _ | .fcmpeq _ _ _ => fcmpeq _ _ _ | .fitos _ _ => fitos _ _
  | .fitod _ _ => fitod _ _ | .fitoq _ _ => fitoq _ _ | .fxtos _ _ => fxtos _ _ | .fxtod _ _ => fxtod _ _
  | .fxtoq _ _ => fxtoq _ _ | .fstox _ _ => fstox _ _ | .fdtox _ _ => fdtox _ _ | .fqtox _ _ => fqtox _ _
  | .fstoi _ _ => fstoi _ _ | .fdtoi _ _ => fdtoi _ _ | .fqtoi _ _ => fqtoi _ _ | .fstod _ _ => fstod _ _
  | .fstoq _ _ => fstoq _ _ | .fdtos _ _ => fdtos _ _ | .fdtoq _ _ => fdtoq _ _ | .fqtos _ _ => fqtos _ _
  | .fqtod _ _ => fqtod _ _ | .fmovs _ _ => fmovs _ _ | .fmovd _ _ => fmovd _ _ | .fmovq _ _ => fmovq _ _
  | .fnegs _ _ => fnegs _ _ | .fnegd _ _ => fnegd _ _ | .fnegq _ _ => fnegq _ _ | .fabss _ _ => fabss _ _
  | .fabsd _ _ => fabsd _ _ | .fabsq _ _ => fabsq _ _ | .fmovsicc _ _ _ => fmovsicc _ _ _ | .fmovdicc _ _ _ => fmovdicc _ _ _
  | .fmovqicc _ _ _ => fmovqicc _ _ _ | .fmovsxcc _ _ _ => fmovsxcc _ _ _ | .fmovdxcc _ _ _ => fmovdxcc _ _ _
  | .fmovqxcc _ _ _ => fmovqxcc _ _ _ | .fmovsfcc _ _ _ _ => fmovsfcc _ _ _ _ | .fmovdfcc _ _ _ _ => fmovdfcc _ _ _ _
  | .fmovqfcc _ _ _ _ => fmovqfcc _ _ _ _ | .fmovrsz _ _ _ => fmovrsz _ _ _ | .fmovrslez _ _ _ => fmovrslez _ _ _
  | .fmovrslz _ _ _ => fmovrslz _ _ _ | .fmovrsnz _ _ _ => fmovrsnz _ _ _ | .fmovrsgz _ _ _ => fmovrsgz _ _ _
  | .fmovrsgez _ _ _ => fmovrsgez _ _ _ | .fmovrdz _ _ _ => fmovrdz _ _ _ | .fmovrdlez _ _ _ => fmovrdlez _ _ _
  | .fmovrdlz _ _ _ => fmovrdlz _ _ _ | .fmovrdnz _ _ _ => fmovrdnz _ _ _ | .fmovrdgz _ _ _ => fmovrdgz _ _ _
  | .fmovrdgez _ _ _ => fmovrdgez _ _ _ | .fmovrqz _ _ _ => fmovrqz _ _ _ | .fmovrqlez _ _ _ => fmovrqlez _ _ _
  | .fmovrqlz _ _ _ => fmovrqlz _ _ _ | .fmovrqnz _ _ _ => fmovrqnz _ _ _ | .fmovrqgz _ _ _ => fmovrqgz _ _ _
  | .fmovrqgez _ _ _ => fmovrqgez _ _ _ | .alignaddress _ _ _ => alignaddress _ _ _
  | .alignaddress_little _ _ _ => alignaddress_little _ _ _ | .faligndata _ _ _ => faligndata _ _ _
  | .bmask _ _ _ => bmask _ _ _ | .bshuffle _ _ _ => bshuffle _ _ _ | .edge8cc _ _ _ => edge8cc _ _ _
  | .edge8lcc _ _ _ => edge8lcc _ _ _ | .edge16cc _ _ _ => edge16cc _ _ _ | .edge16lcc _ _ _ => edge16lcc _ _ _
  | .edge32cc _ _ _ => edge32cc _ _ _ | .edge32lcc _ _ _ => edge32lcc _ _ _ | .edge8n _ _ _ => edge8n _ _ _
  | .edge8ln _ _ _ => edge8ln _ _ _ | .edge16n _ _ _ => edge16n _ _ _ | .edge16ln _ _ _ => edge16ln _ _ _
  | .edge32n _ _ _ => edge32n _ _ _ | .edge32ln _ _ _ => edge32ln _ _ _ | .array8 _ _ _ => array8 _ _ _
  | .array16 _ _ _ => array16 _ _ _ | .array32 _ _ _ => array32 _ _ _ | .fcmple16 _ _ _ => fcmple16 _ _ _
  | .fcmpne16 _ _ _ => fcmpne16 _ _ _ | .fcmple32 _ _ _ => fcmple32 _ _ _ | .fcmpne32 _ _ _ => fcmpne32 _ _ _
  | .fcmpgt16 _ _ _ => fcmpgt16 _ _ _ | .fcmpeq16 _ _ _ => fcmpeq16 _ _ _ | .fcmpgt32 _ _ _ => fcmpgt32 _ _ _
  | .fcmpeq32 _ _ _ => fcmpeq32 _ _ _ | .fpadd16 _ _ _ => fpadd16 _ _ _ | .fpadd16s _ _ _ => fpadd16s _ _ _
  | .fpadd32 _ _ _ => fpadd32 _ _ _ | .fpadd32s _ _ _ => fpadd32s _ _ _ | .fpsub16 _ _ _ => fpsub16 _ _ _
  | .fpsub16s _ _ _ => fpsub16s _ _ _ | .fpsub32 _ _ _ => fpsub32 _ _ _ | .fpsub32s _ _ _ => fpsub32s _ _ _
  | .fzero _ => fzero _ | .fzeros _ => fzeros _ | .fone _ => fone _ | .fones _ => fones _ | .fsrc1 _ _ => fsrc1 _ _
  | .fsrc1s _ _ => fsrc1s _ _ | .fsrc2 _ _ => fsrc2 _ _ | .fsrc2s _ _ => fsrc2s _ _ | .fnot1 _ _ => fnot1 _ _
  | .fnot1s _ _ => fnot1s _ _ | .fnot2 _ _ => fnot2 _ _ | .fnot2s _ _ => fnot2s _ _ | .for_ _ _ _ => for_ _ _ _
  | .fors _ _ _ => fors _ _ _ | .fnor _ _ _ => fnor _ _ _ | .fnors _ _ _ => fnors _ _ _ | .fand _ _ _ => fand _ _ _
  | .fands _ _ _ => fands _ _ _ | .fnand _ _ _ => fnand _ _ _ | .fnands _ _ _ => fnands _ _ _ | .fxor _ _ _ => fxor _ _ _
  | .fxors _ _ _ => fxors _ _ _ | .fxnor _ _ _ => fxnor _ _ _ | .fxnors _ _ _ => fxnors _ _ _ | .fornot1 _ _ _ => fornot1 _ _ _
  | .fornot1s _ _ _ => fornot1s _ _ _ | .fornot2 _ _ _ => fornot2 _ _ _ | .fornot2s _ _ _ => fornot2s _ _ _
  | .fandnot1 _ _ _ => fandnot1 _ _ _ | .fandnot1s _ _ _ => fandnot1s _ _ _ | .fandnot2 _ _ _ => fandnot2 _ _ _
  | .fandnot2s _ _ _ => fandnot2s _ _ _ | .siam _ => siam _ | .fexpand _ _ => fexpand _ _ | .fmul8x16 _ _ _ => fmul8x16 _ _ _
  | .fmul8x16au _ _ _ => fmul8x16au _ _ _ | .fmul8x16al _ _ _ => fmul8x16al _ _ _ | .fmul8sux16 _ _ _ => fmul8sux16 _ _ _
  | .fmul8ulx16 _ _ _ => fmul8ulx16 _ _ _ | .fmuld8sux16 _ _ _ => fmuld8sux16 _ _ _ | .fmuld8ulx16 _ _ _ => fmuld8ulx16 _ _ _
  | .fpack16 _ _ => fpack16 _ _ | .fpack32 _ _ _ => fpack32 _ _ _ | .fpackfix _ _ => fpackfix _ _
  | .fpmerge _ _ _ => fpmerge _ _ _ | .pdist _ _ _ => pdist _ _ _

end Sys2Proof.Laws.RoundTrip

namespace Sys2Proof.Machine

/-- Settles O2: the word of each constructor is read field by field, and the opcode fields select that constructor again. -/
theorem decodeEncodeRoundTrip : Obligations.DecodeEncodeRoundTrip := Laws.RoundTrip.statement_holds

end Sys2Proof.Machine

/-! PROOFS. Trap entry (O13 to O15), and RETRY from the first state of a handler (O17). -/

namespace Sys2Proof.Machine

/-! ### Normal traps (rules R1225, R1226, R1230) -/

/-- A trap outside RED_state, in terms of where it is delivered. -/
theorem trapped_normal {s : State} {e : Trap} (h : enterTrap s e = normalTrap s e) :
    Trapped s (takeTrap s e) (trapType e) (s.tl + 1) (raiseGl s.gl (if deliveredPrivileged s e then 2 else 3))
      ⟨false, deliveredPrivileged s e && s.pstate.tle, s.pstate.tle, true, false, deliveredPrivileged s e, false⟩
      (if deliveredPrivileged s e then s.hpstate else ⟨false, false, true, s.hpstate.tlz⟩) (cwpAfterTrap s.win e)
      (normalVector s e) := by
  refine ⟨?saved, fun n hn => ?frames, ?bytes, ?rest⟩
  case saved => rw [frameAt_takeTrap_normal h, if_pos rfl]; exact saved_savedFrame s _
  case frames => rw [frameAt_takeTrap_normal h, if_neg hn]
  case bytes =>
    obtain ⟨hmem, hwidth, -⟩ := takeTrap_other s e
    exact sameBytes_of hmem hwidth
  case rest =>
    rw [← trapCwp_trapType]
    unfold takeTrap
    rw [h]; rfl

/-- TL + 1 as the vector to privileged mode tells it: bit 14 says whether TL was above 0. -/
theorem privVector_eq (s : State) (tt : BitVec 9) (tl : BitVec 3) :
    privVector s tt tl = s.tba ++ (if tl = 0 then 0#1 else 1#1) ++ tt ++ 0#5 := by
  have hbit : bit (tl != 0) = if tl = 0 then 0#1 else 1#1 := by revert tl; decide
  rw [privVector, hbit]

theorem deliveredPrivileged_of {s : State} {e : Trap} (hh : isHyper s = false) (hd : destinedForPrivileged e = true)
    (ht : s.tl.toNat < 2) : deliveredPrivileged s e = true := by
  rw [deliveredPrivileged, hh, hd, decide_eq_true ht]; rfl

theorem not_deliveredPrivileged_of {s : State} {e : Trap}
    (h : isHyper s = true ∨ destinedForPrivileged e = false ∨ 2 ≤ s.tl.toNat) : deliveredPrivileged s e = false := by
  rw [deliveredPrivileged]
  rcases h with h | h | h
  · simp [h]
  · simp [h]
  · simp [Nat.not_lt.mpr h]

/-- A trap that is not delivered in privileged mode is a guest watchdog where its destination and mode alone would have it there. -/
theorem normalVector_hyper {s : State} {e : Trap} (h : isHyper s = true ∨ destinedForPrivileged e = false ∨ 2 ≤ s.tl.toNat) :
    normalVector s e = if isHyper s = false ∧ destinedForPrivileged e = true then s.htba ++ 0x40#14
      else s.htba ++ trapType e ++ 0#5 := by
  have hguest : isGuestWatchdog s e = true ↔ isHyper s = false ∧ destinedForPrivileged e = true := by
    rw [isGuestWatchdog]
    rcases h with h | h | h <;> simp [h]
  rw [normalVector, not_deliveredPrivileged_of h, if_neg Bool.false_ne_true]
  exact if_congr hguest rfl rfl

/-- A reset request is destined for no mode but its own. -/
theorem not_reset_of_destinedForPrivileged {e : Trap} (h : destinedForPrivileged e = true) : isResetTrap e = false := by
  cases e with
  | externallyInitiatedReset | softwareInitiatedReset => cases h
  | _ => rfl

theorem trapped_privileged {s : State} {e : Trap} (hh : isHyper s = false) (hr : s.hpstate.red = false) (ht : s.tl.toNat < 2)
    (hd : destinedForPrivileged e = true) :
    Trapped s (takeTrap s e) (trapType e) (s.tl + 1) (BitVec.ofNat 2 (min (s.gl.toNat + 1) 2))
      ⟨false, s.pstate.tle, s.pstate.tle, true, false, true, false⟩ s.hpstate (cwpAfterTrap s.win e)
      (s.tba ++ (if s.tl = 0 then 0#1 else 1#1) ++ trapType e ++ 0#5) := by
  have hdel := deliveredPrivileged_of hh hd ht
  have h := trapped_normal (enterTrap_normal hr (by omega) (not_reset_of_destinedForPrivileged hd))
  rw [normalVector] at h
  simpa only [hdel, if_true, Bool.true_and, raiseGl_two, privVector_eq] using h

theorem trapped_hyper {s : State} {e : Trap} (hr : s.hpstate.red = false) (ht : s.tl.toNat < 5) (he : isResetTrap e = false)
    (h : isHyper s = true ∨ destinedForPrivileged e = false ∨ 2 ≤ s.tl.toNat) :
    Trapped s (takeTrap s e) (trapType e) (s.tl + 1) (BitVec.ofNat 2 (min (s.gl.toNat + 1) 3))
      ⟨false, false, s.pstate.tle, true, false, false, false⟩ ⟨false, false, true, s.hpstate.tlz⟩ (cwpAfterTrap s.win e)
      (if isHyper s = false ∧ destinedForPrivileged e = true then s.htba ++ 0x40#14 else s.htba ++ trapType e ++ 0#5) := by
  have htrap := trapped_normal (enterTrap_normal hr ht he)
  rw [normalVector_hyper h] at htrap
  simpa only [not_deliveredPrivileged_of h, Bool.false_eq_true, if_false, Bool.false_and, raiseGl_three] using htrap

/-- Settles O13: the two kinds of normal trap, and the tables of types, priorities and destinations row by row. -/
theorem normalTraps : Obligations.NormalTraps := by
  refine ⟨fun s e hh hr ht hd => trapped_privileged hh hr ht hd, fun s e hr ht he h => trapped_hyper hr ht he h, ?rows, ?windows,
    fun n => ?levels, fun n => ⟨rfl, rfl, rfl⟩, fun n => ?software⟩
  case rows =>
    simp only [List.forall_mem_cons]
    simp [trapType, trapPriority, destinedForPrivileged]
  case windows =>
    intro n other
    simp only [List.forall_mem_cons]
    refine ⟨⟨?_, rfl, rfl⟩, ⟨?_, rfl, rfl⟩, List.forall_mem_nil _⟩ <;> revert n other <;> decide
  case levels => exact ⟨by revert n; decide, rfl, rfl⟩
  case software =>
    refine ⟨by revert n; decide, rfl, ?_⟩
    rw [destinedForPrivileged, decide_eq_true_eq]

/-! ### Traps into RED_state (rules R1232, R1234 to R1237) -/

/-- RSTVADDR ends in eight zeros, which the offset of a RED_state trap vector fills (rule R1227). -/
theorem rstvAddr_low_eight (w : PaWidth) : (Config.rstvAddr w).toNat % 2 ^ 8 = 0 := by revert w; decide

theorem redVector_eq (w : PaWidth) (off : Byte) : redVector w off = Config.rstvAddr w + off.setWidth 64 := by
  have hlow := rstvAddr_low_eight w
  have hbase := (Config.rstvAddr w).isLt
  have hoff := off.isLt
  apply BitVec.eq_of_toNat_eq
  rw [redVector, BitVec.toNat_append, ← Nat.shiftLeft_add_eq_or_of_lt hoff, Nat.shiftLeft_eq, BitVec.extractLsb'_toNat,
    Nat.shiftRight_eq_div_pow, BitVec.toNat_add, BitVec.toNat_setWidth]
  omega

/-- A trap into RED_state, through the vector at `off`. -/
theorem trapped_red {s : State} {e : Trap} {tt : BitVec 9} {off : Byte} {tlz : Bool}
    (h : enterTrap s e = redStateTrap s tt off tlz) (htt : tt = trapType e) :
    Trapped s (takeTrap s e) tt (raiseTl s.tl) (raiseGl s.gl 3) (Pstate.afterReset s.pstate.tle) ⟨false, true, true, tlz⟩
      (cwpAfterTrap s.win e) (redVector s.paWidth off) := by
  refine ⟨?saved, fun n hn => ?frames, ?bytes, ?rest⟩
  case saved => rw [frameAt_takeTrap_red h, if_pos rfl]; exact saved_savedFrame s _
  case frames => rw [frameAt_takeTrap_red h, if_neg hn]
  case bytes =>
    obtain ⟨hmem, hwidth, -⟩ := takeTrap_other s e
    exact sameBytes_of hmem hwidth
  case rest =>
    rw [← trapCwp_trapType, ← htt]
    unfold takeTrap
    rw [h]; rfl

/-- Settles O14: which vector a RED_state trap goes through is `enterTrap_red`. -/
theorem redStateTraps : Obligations.RedStateTraps := by
  intro s e ht h
  have htrap := trapped_red (enterTrap_red ht h) rfl
  simp only [raiseTl_eq, raiseGl_three, redVector_eq, apply_ite (BitVec.setWidth 64)] at htrap
  exact htrap

/-! ### The vector address (rules R1225, R1226) -/

theorem vector_fields (hi : BitVec 50) (tt : BitVec 9) :
    (hi ++ tt ++ 0#5 : DWord).extractLsb' 14 50 = hi ∧ (hi ++ tt ++ 0#5 : DWord).extractLsb' 5 9 = tt
      ∧ (hi ++ tt ++ 0#5 : DWord).extractLsb' 0 5 = 0 := by
  refine ⟨?_, ?_, ?_⟩
  · rw [Laws.field_left _ _ _ _ (by decide), Laws.field_left _ _ _ _ (by decide)]; exact Laws.field_all hi
  · rw [Laws.field_left _ _ _ _ (by decide), Laws.field_right _ _ _ _ (by decide)]; exact Laws.field_all tt
  · rw [Laws.field_right _ _ _ _ (by decide)]; rfl

theorem privVector_fields (tba : BitVec 49) (above : BitVec 1) (tt : BitVec 9) :
    (tba ++ above ++ tt ++ 0#5 : DWord).extractLsb' 15 49 = tba
      ∧ (tba ++ above ++ tt ++ 0#5 : DWord).getLsbD 14 = above.getLsbD 0 := by
  constructor
  · rw [Laws.field_left _ _ _ _ (by decide), Laws.field_left _ _ _ _ (by decide), Laws.field_left _ _ _ _ (by decide)]
    exact Laws.field_all tba
  · simp only [BitVec.getLsbD_append]; rfl

theorem Trapped.vector {s t : State} {tt : BitVec 9} {tl : BitVec 3} {gl : BitVec 2} {p : Pstate} {h : Hpstate} {cwp : BitVec 3}
    {target : DWord} (ht : Trapped s t tt tl gl p h cwp target) : t.pc = target ∧ (frameAt t t.tl).tt = tt := by
  obtain ⟨⟨-, -, -, -, -, -, -, htt, -, -⟩, -, -, heq⟩ := ht
  have htl : t.tl = tl := congrArg State.tl heq
  exact ⟨congrArg State.pc heq, htl ▸ htt⟩

/-- Settles O15: the vectors of `trapped_privileged` and `trapped_hyper`, read field by field. -/
theorem trapVectorBits : Obligations.TrapVectorBits := by
  rintro s _ e hr ht he rfl
  refine ⟨fun hh hd hlt => ?privileged, fun h => ?hyper⟩
  case privileged =>
    obtain ⟨hpc, htt⟩ := (trapped_privileged hh hr hlt hd).vector
    have habove : (if s.tl = 0 then 0#1 else 1#1).getLsbD 0 = true ↔ 0 < s.tl.toNat := by
      generalize s.tl = tl
      revert tl; decide
    obtain ⟨htba, hbit⟩ := privVector_fields s.tba (if s.tl = 0 then 0#1 else 1#1) (trapType e)
    obtain ⟨-, htype, hlow⟩ := vector_fields (s.tba ++ (if s.tl = 0 then 0#1 else 1#1)) (trapType e)
    rw [hpc, htt]
    exact ⟨htba, hbit ▸ habove, htype, hlow⟩
  case hyper =>
    obtain ⟨hpc, htt⟩ := (trapped_hyper hr ht he (h.imp_right .inl)).vector
    have hguest : ¬ (isHyper s = false ∧ destinedForPrivileged e = true) := by rcases h with h | h <;> simp [h]
    rw [if_neg hguest] at hpc
    rw [hpc, htt]
    exact vector_fields s.htba (trapType e)

/-! ### RETRY from the handler of a trap (rule R702) -/

/-- Where its trap level is below MAXTL a trap saves the state one level up and hands over to a handler that may return. -/
theorem takeTrap_enters_handler {s : State} (e : Trap) (ht : s.tl.toNat < 6) :
    ∃ tt gl p h cwp target, Trapped s (takeTrap s e) tt (s.tl + 1) gl p h cwp target ∧ (h.hpriv || p.priv) = true := by
  by_cases hred : s.tl.toNat = 6 ∨ isResetTrap e = true ∨ s.tl.toNat = 5 ∨ s.hpstate.red = true
  · have hraise : raiseTl s.tl = s.tl + 1 := if_pos ht
    exact ⟨_, _, _, _, _, _, hraise ▸ trapped_red (enterTrap_red (by omega) hred) rfl, rfl⟩
  · push Not at hred
    obtain ⟨-, hreset, hfive, hnotred⟩ := hred
    have h := trapped_normal (enterTrap_normal (Bool.eq_false_of_not_eq_true hnotred) (by omega) (Bool.eq_false_of_not_eq_true hreset))
    refine ⟨_, _, _, _, _, _, h, ?_⟩
    cases deliveredPrivileged s e <;> simp

theorem low_two_maskAm {s : State} {a : DWord} (h : a.extractLsb' 0 2 = 0) : (maskAm s a).extractLsb' 0 2 = 0 := by
  unfold maskAm low32
  split
  · rw [← h]
    apply BitVec.eq_of_toNat_eq
    simp [BitVec.extractLsb'_toNat]
  · exact h

/-- An address that is a multiple of 4 is saved whole by a trap. -/
theorem addressOfHigh62_saved {s : State} {a : DWord} (h : a.extractLsb' 0 2 = 0) :
    addressOfHigh62 ((maskAm s a).extractLsb' 2 62) = maskAm s a := by
  have hlow := congrArg BitVec.toNat (low_two_maskAm (s := s) h)
  have hlt := (maskAm s a).isLt
  rw [BitVec.extractLsb'_toNat] at hlow
  apply BitVec.eq_of_toNat_eq
  rw [addressOfHigh62, BitVec.toNat_append, BitVec.extractLsb'_toNat, Nat.shiftRight_eq_div_pow]
  simp [Nat.shiftLeft_eq] at hlow ⊢
  omega

theorem restoredGl_saved {s u : State} {f : TrapFrame} (hf : f.tstate.gl.toNat = s.gl.toNat) (hh : f.htstate = s.hpstate)
    (h : isHyper s = true ∨ s.gl.toNat ≤ 2) :
    BitVec.ofNat 2 (min f.tstate.gl.toNat (if isHyper u = false ∧ f.htstate.hpriv = false then 2 else 3)) = s.gl := by
  have hgl := s.gl.isLt
  have hmin : min s.gl.toNat (if isHyper u = false ∧ s.hpstate.hpriv = false then 2 else 3) = s.gl.toNat := by
    split
    · next hguest =>
      have hnot : ¬ isHyper s = true := by rw [isHyper, hguest.2]; exact Bool.false_ne_true
      exact Nat.min_eq_left (h.resolve_left hnot)
    · omega
  rw [hf, hh, hmin, BitVec.ofNat_toNat, BitVec.setWidth_eq]

/-- Settles O17: RETRY reads back the frame that the trap saved. -/
theorem retryResumesTheTrappedInstruction : Obligations.RetryResumesTheTrappedInstruction := by
  rintro s u e ht hpc hnpc hgl rfl
  obtain ⟨tt, gl, p, h, cwp, target, ⟨hsaved, hframes, hbytes, heq⟩, hmode⟩ := takeTrap_enters_handler e ht
  generalize takeTrap s e = u at *
  have htl : u.tl = s.tl + 1 := congrArg State.tl heq
  have huser : isUser u = false := by
    have hh : u.hpstate = h := congrArg State.hpstate heq
    have hp : u.pstate = p := congrArg State.pstate heq
    rw [isUser, hh, hp, ← Bool.not_or, hmode]; rfl
  have hne : u.tl ≠ 0 := by
    rw [htl]
    generalize s.tl = tl at ht
    revert tl; decide
  obtain ⟨-, -, -, hreturn⟩ := returnFromTrap_outcomes (i := .retry) (s := u)
    (place := fun f => (addressOfHigh62 f.tpc, addressOfHigh62 f.tnpc, f.delaySlot)) rfl rfl rfl
  obtain ⟨t, hexec, hsame, hteq⟩ := hreturn huser hne (congrArg State.delaySlot heq)
  rw [htl] at hteq
  obtain ⟨htpc, htnpc, hfgl, hccr, hasi, hpstate, hcwp, -, hhtstate, hslot⟩ := hsaved
  rw [restoredGl_saved hfgl hhtstate hgl, hccr, hasi, hpstate, hcwp, hhtstate, htpc, htnpc, hslot, addressOfHigh62_saved hpc,
    addressOfHigh62_saved hnpc, BitVec.add_sub_cancel] at hteq
  have hstack : t.trapStack = u.trapStack := by rw [hteq]
  have hlast : t.lastTrap = u.lastTrap := by rw [hteq]
  refine ⟨t, hexec, ?_, ?_, ?_⟩
  · exact ⟨hsame.1.trans hbytes.1, fun a => (hsame.2 a).trans (hbytes.2 a)⟩
  · intro n hn
    rw [frameAt, hstack]
    exact hframes n hn
  · rw [hstack, hlast]
    generalize u.trapStack = frames at heq
    generalize u.lastTrap = last at heq
    subst heq
    exact hteq

end Sys2Proof.Machine

/-! PROOFS. What happens around an instruction: the counters (O5), the step that runs the instruction at PC (O4), and the steps that
run none (O9). -/

namespace Sys2Proof.Machine

/-! ### Counters (rule R1480) -/

/-- A counter passes through the values of its next `d` advances by one. -/
theorem passes_iff (old target : BitVec 63) (d : Nat) :
    passes old target d = true ↔ ∃ k, 1 ≤ k ∧ k ≤ d ∧ target = old + BitVec.ofNat 63 k := by
  rw [passes, decide_eq_true_eq]
  constructor
  · intro h
    refine ⟨(target - old - 1).toNat + 1, by omega, by omega, ?_⟩
    rw [BitVec.ofNat_add, BitVec.ofNat_toNat, BitVec.setWidth_eq]
    change target = old + (target - old - 1 + 1)
    ring
  · rintro ⟨k, hk, hkd, rfl⟩
    have hprev : old + BitVec.ofNat 63 k - old - 1 = BitVec.ofNat 63 (k - 1) := by
      obtain ⟨j, rfl⟩ := Nat.exists_eq_add_of_le' hk
      rw [Nat.add_sub_cancel, BitVec.ofNat_add]
      change old + (BitVec.ofNat 63 j + 1) - old - 1 = BitVec.ofNat 63 j
      ring
    rw [hprev, BitVec.toNat_ofNat]
    have := Nat.mod_le (k - 1) (2 ^ 63)
    omega

theorem getLsbD_matchTick (s : State) (d n : Nat) : (matchTick s d).getLsbD n
    = (s.softint.getLsbD n || (decide (n = 0) && !s.tickCmpr.intDis && passes s.tick.counter s.tickCmpr.value d)) := by
  have hbit : (0x1#17).getLsbD n = decide (n = 0) := by simp [BitVec.getLsbD_one]
  unfold matchTick
  cases s.tickCmpr.intDis <;> cases passes s.tick.counter s.tickCmpr.value d <;> simp [BitVec.getLsbD_or, hbit]

theorem getLsbD_matchStick (s : State) (d n : Nat) : (matchStick s d).getLsbD n
    = (s.softint.getLsbD n || (decide (n = 16) && !s.stickCmpr.intDis && passes s.stick.counter s.stickCmpr.value d)) := by
  have hbit : (0x10000#17).getLsbD n = decide (n = 16) := by
    by_cases hn : n < 17
    · revert n; decide
    · rw [BitVec.getLsbD_of_ge _ _ (by omega), decide_eq_false (by omega)]
  unfold matchStick
  cases s.stickCmpr.intDis <;> cases passes s.stick.counter s.stickCmpr.value d <;> simp [BitVec.getLsbD_or, hbit]

theorem matchHstick_eq (s : State) (d : Nat) :
    matchHstick s d = (s.hsp || (!s.hstickCmpr.intDis && passes s.stick.counter s.hstickCmpr.value d)) := by
  unfold matchHstick
  cases s.hstickCmpr.intDis <;> simp

theorem getLsbD_softint_startStep (s : State) (n : Nat) : (startStep s).softint.getLsbD n
    = (s.softint.getLsbD n || (decide (n = 0) && !s.tickCmpr.intDis && passes s.tick.counter s.tickCmpr.value (tickStep s))
      || (decide (n = 16) && !s.stickCmpr.intDis && passes s.stick.counter s.stickCmpr.value (stickStep s))) := by
  rw [← getLsbD_matchTick]
  exact getLsbD_matchStick (advanceTick s (tickStep s)) (stickStep s) n

/-- Settles O5: what the environment chooses is how far each counter advances. -/
theorem countersAdvanceAndMatch : Obligations.CountersAdvanceAndMatch := by
  intro s
  refine ⟨tickStep s, stickStep s, Nat.le_add_left 1 _, fun hw => ?written, rfl, rfl, ?tick, ?stick, ?hstick, fun n h0 h16 => ?other⟩
  case written => rw [stickStep, hw]; exact Nat.le_add_left 1 _
  case tick => rw [getLsbD_softint_startStep, ← passes_iff]; simp
  case stick => rw [getLsbD_softint_startStep, ← passes_iff]; simp
  case hstick =>
    have h : (startStep s).hsp = matchHstick s (stickStep s) := rfl
    rw [h, matchHstick_eq, ← passes_iff]; simp
  case other => rw [getLsbD_softint_startStep]; simp [h0, h16]

/-! ### What the start of a step leaves -/

/-- The start of a step changes only the counters, what they match, and the model's own fields. -/
theorem startStep_eq (s : State) : startStep s =
    { s with
      tick := countUp s.tick (tickStep s)
      stick := countUp s.stick (stickStep s)
      softint := (startStep s).softint
      hsp := (startStep s).hsp
      freeCount := s.freeCount + 1
      lastTrap := none
      stickWritten := false
      undefinedCases := flagCases s } := by
  simp only [startStep, freshStep, drawn, advanceStick, advanceTick]

@[simp] theorem startStep_hpstate (s : State) : (startStep s).hpstate = s.hpstate := by rw [startStep_eq]
@[simp] theorem startStep_tl (s : State) : (startStep s).tl = s.tl := by rw [startStep_eq]
@[simp] theorem startStep_xirPending (s : State) : (startStep s).xirPending = s.xirPending := by rw [startStep_eq]
@[simp] theorem startStep_errors (s : State) : (startStep s).errors = s.errors := by rw [startStep_eq]

/-! ### The word fetched (rule R271) -/

/-- The bytes of the word at an address, the most significant at the lowest one. -/
theorem fetchWord_eq_wordOfBytes (s : State) (pa : DWord) :
    fetchWord s pa = wordOfBytes (readByte s.paWidth s.memory pa) (readByte s.paWidth s.memory (pa + 1))
      (readByte s.paWidth s.memory (pa + 2)) (readByte s.paWidth s.memory (pa + 3)) := by
  obtain ⟨-, hbytes⟩ := loaded_readMem s pa (n := 4) (by decide) false
  have h0 := hbytes 0 (by decide)
  have h1 : _ = readByte s.paWidth s.memory (pa + 1) := hbytes 1 (by decide)
  have h2 : _ = readByte s.paWidth s.memory (pa + 2) := hbytes 2 (by decide)
  have h3 : _ = readByte s.paWidth s.memory (pa + 3) := hbytes 3 (by decide)
  rw [BitVec.add_zero] at h0
  rw [fetchWord, readPhys_eq, wordOfBytes, ← h0, ← h1, ← h2, ← h3]
  simp only [byteLane, Bool.false_eq_true, if_false]
  rw [BitVec.extractLsb'_append_extractLsb'_eq_extractLsb' (by decide),
    BitVec.extractLsb'_append_extractLsb'_eq_extractLsb' (by decide),
    BitVec.extractLsb'_append_extractLsb'_eq_extractLsb' (by decide)]

theorem runNext_of_fetch {s : State} {pa : DWord} (h : translateFetch s (maskAm s s.pc) = .ok pa) :
    runNext s = runWord s (fetchWord s pa) := by
  unfold runNext
  rw [walkedFetch_eq, h]

theorem runNext_of_fetch_error {s : State} {x : Stop} (h : translateFetch s (maskAm s s.pc) = .error x) :
    runNext s = .next (takeTrap x.state x.trap) := by
  unfold runNext
  rw [walkedFetch_eq, h]

/-- No instruction breakpoint holds (assumption log entry 9). -/
theorem breakpointHit_eq (s : State) (w : Word) : breakpointHit s w = false := Bool.and_false _

theorem runWord_of_decode {s : State} {w : Word} {i : Instr} (h : decode w = .ok i) : runWord s w = exec i s := by
  rw [runWord, breakpointHit_eq, h]; rfl

/-! ### A step of a running strand (rules R1201, R1462) -/

theorem step_of_running {s : State} (h : isRunning s = true) : step s = runStep (startStep s) := by
  rw [step, if_pos h]

theorem runStep_red {s : State} (hred : s.hpstate.red = true) (hpriv : s.hpstate.hpriv = false) :
    runStep s = .fault .redWithoutHpriv := by
  rw [runStep, hred, hpriv]; rfl

/-- A reset that is pending goes before everything else; the hyperprivileged scratchpads are free values after it. -/
theorem runStep_xir {s : State} (hmode : s.hpstate.red = false ∨ s.hpstate.hpriv = true) (hxir : s.xirPending = true) :
    runStep s = .next (takeTrap { s with xirPending := false, hypScratchpad := freeScratchpads s, freeCount := s.freeCount + 1,
                                         errors := { s.errors with precise := none } } .externallyInitiatedReset) := by
  rw [runStep, if_neg (by rcases hmode with h | h <;> simp [h]), if_pos hxir]; rfl

/-- With no trap pending the step is the instruction's. -/
theorem ordinaryStep_run {s : State} {run : Run} (htlz : trapLevelZeroPending s = false) (hp : pendingTrap s = none) :
    ordinaryStep s run = run := by
  rw [ordinaryStep, htlz, if_neg Bool.false_ne_true, runOrInterrupt, hp]

/-- Settles O4: nothing competes with the instruction, and the word fetched is the four bytes. -/
theorem stepRunsDecoded : Obligations.StepRunsDecoded := by
  rintro s _ i pa hrun rfl hmode hxir hprecise herrors htlz hpending hfetch hdecode
  rw [← fetchWord_eq_wordOfBytes] at hdecode
  refine ⟨?step, rfl, rfl, ?_, ?_, ?_⟩
  case step =>
    rw [step_of_running hrun, runStep_ordinary hmode hxir hprecise herrors, ordinaryStep_run htlz hpending,
      runNext_of_fetch hfetch, runWord_of_decode hdecode]
  all_goals simp [startStep, flagCases]

/-- Settles O9: the first checks of a step, in their order. -/
theorem stepWithoutFetch : Obligations.StepWithoutFetch := by
  rintro s _ rfl
  refine ⟨fun hparked => ?parked, fun hrun hred hpriv => ?red, fun hrun hmode => ⟨fun hxir => ?xir, ?tlz⟩⟩
  case parked =>
    refine ⟨parkedStep s, by rw [step, hparked, if_neg Bool.false_ne_true], ?_⟩
    unfold parkedStep
    split <;> rfl
  case red =>
    rw [← startStep_hpstate s] at hred hpriv
    exact (step_of_running hrun).trans (runStep_red hred hpriv)
  case xir =>
    rw [← startStep_hpstate s] at hmode
    rw [← startStep_xirPending s] at hxir
    exact ⟨freeScratchpads (startStep s), (step_of_running hrun).trans (runStep_xir hmode hxir)⟩
  case tlz =>
    intro hxir hprecise herrors htlz hpriv htl
    have hpending : trapLevelZeroPending (startStep s) = true := by
      rw [trapLevelZeroPending, startStep_hpstate, startStep_tl, htlz, hpriv, htl]; rfl
    rw [← startStep_hpstate s] at hmode
    rw [← startStep_xirPending s] at hxir
    rw [← startStep_errors s] at hprecise
    rw [step_of_running hrun, runStep_ordinary hmode hxir hprecise herrors]
    exact if_pos hpending

end Sys2Proof.Machine

/-! PROOFS. The selection of a pending trap (O7): the disrupting conditions in their order, the interrupt levels (O8), and the error
traps. -/

namespace Sys2Proof.Machine

/-! ### Interrupt levels (rules R1201, R1222, R1273) -/

theorem levelOutstanding_iff (softint : BitVec 17) (n : BitVec 4) : levelOutstanding softint n.toNat = true
    ↔ softint.getLsbD n.toNat = true ∨ (n = 14 ∧ (softint.getLsbD 0 = true ∨ softint.getLsbD 16 = true)) := by
  have h14 : n.toNat = 14 ↔ n = 14 := ⟨fun h => BitVec.eq_of_toNat_eq h, fun h => congrArg BitVec.toNat h⟩
  simp [levelOutstanding, flagAt, h14]

theorem not_levelOutstanding_of {softint : BitVec 17} {n : BitVec 4} (h : softint.getLsbD n.toNat = false
    ∧ (n = 14 → softint.getLsbD 0 = false ∧ softint.getLsbD 16 = false)) : levelOutstanding softint n.toNat = false := by
  obtain ⟨hown, hmatch⟩ := h
  refine Bool.eq_false_of_not_eq_true fun hout => ?_
  rcases (levelOutstanding_iff softint n).mp hout with h | ⟨h14, h | h⟩
  · rw [hown] at h; cases h
  · rw [(hmatch h14).1] at h; cases h
  · rw [(hmatch h14).2] at h; cases h

/-- The level found is outstanding, if it is one at all, and no higher one is. -/
theorem highestLevel_spec (softint : BitVec 17) (limit : Nat) : highestLevel softint limit ≤ limit
    ∧ (highestLevel softint limit = 0 ∨ levelOutstanding softint (highestLevel softint limit) = true)
    ∧ ∀ m, highestLevel softint limit < m → m ≤ limit → levelOutstanding softint m = false := by
  induction limit with
  | zero => exact ⟨le_rfl, .inl rfl, fun m hm hle => absurd hm (Nat.not_lt.mpr hle)⟩
  | succ n ih =>
    rw [highestLevel]
    by_cases hn : levelOutstanding softint (n + 1) = true
    · rw [if_pos hn]
      exact ⟨le_rfl, .inr hn, fun m hm hle => absurd hm (Nat.not_lt.mpr hle)⟩
    · rw [if_neg hn]
      obtain ⟨hle, hout, habove⟩ := ih
      refine ⟨Nat.le_succ_of_le hle, hout, fun m hm hlimit => ?_⟩
      rcases Nat.le_succ_iff.mp hlimit with h | rfl
      · exact habove m hm h
      · exact Bool.eq_false_of_not_eq_true hn

/-- Of the levels that are outstanding the one that no outstanding one is above is the highest. -/
theorem highestLevel_eq {softint : BitVec 17} {n : BitVec 4} (hout : levelOutstanding softint n.toNat = true)
    (habove : ∀ m : BitVec 4, n.toNat < m.toNat → levelOutstanding softint m.toNat = false) : highestLevel softint 15 = n.toNat := by
  obtain ⟨hle, hfound, hhigher⟩ := highestLevel_spec softint 15
  have hn := n.isLt
  apply Nat.le_antisymm
  · by_contra hlt
    have hnum : (BitVec.ofNat 4 (highestLevel softint 15)).toNat = highestLevel softint 15 := by
      rw [BitVec.toNat_ofNat]; omega
    have hnot := habove (BitVec.ofNat 4 (highestLevel softint 15)) (by omega)
    rw [hnum] at hnot
    rcases hfound with h | h
    · omega
    · rw [hnot] at h; cases h
  · by_contra hlt
    rw [hhigher n.toNat (by omega) (by omega)] at hout
    cases hout

theorem not_levelDeliverable_of {u : State}
    (h : ∀ n : BitVec 4, u.pil.toNat < n.toNat → levelOutstanding u.softint n.toNat = false) : levelDeliverable u = false := by
  obtain ⟨hle, hfound, -⟩ := highestLevel_spec u.softint 15
  refine Bool.eq_false_of_not_eq_true fun hdel => ?_
  rw [levelDeliverable, decide_eq_true_eq] at hdel
  have hnum : (BitVec.ofNat 4 (highestLevel u.softint 15)).toNat = highestLevel u.softint 15 := by
    rw [BitVec.toNat_ofNat]; omega
  have hnot := h (BitVec.ofNat 4 (highestLevel u.softint 15)) (by omega)
  rw [hnum] at hnot
  rcases hfound with h | h
  · omega
  · rw [hnot] at h; cases h

/-! ### The disrupting conditions in their order (rules R1201, R1222, R1260) -/

theorem hstickDeliverable_iff (u : State) :
    hstickDeliverable u = true ↔ u.hsp = true ∧ (isHyper u = false ∨ u.pstate.ie = true) := by
  simp [hstickDeliverable, or_comm]

/-- In hyperprivileged mode, or with PSTATE.ie = 0, only hstick_match is deliverable. -/
theorem pendingTrap_masked {u : State} (h : isHyper u = true ∨ u.pstate.ie = false) :
    pendingTrap u = if hstickDeliverable u then some .hstickMatch else none := by
  rw [pendingTrap, if_pos (c := (isHyper u || !u.pstate.ie) = true)]
  rcases h with h | h <;> simp [h]

theorem queueHasEntry_iff (u : State) (q : BitVec 2) :
    queueHasEntry u q = true ↔ bankRead u.queues (q ++ 0#1) ≠ bankRead u.queues (q ++ 1#1) := bne_iff_ne

/-- Where interrupts are delivered and hstick_match is not outstanding: the mondos, the interrupt levels, the resumable errors. -/
theorem pendingTrap_open {u : State} (hh : isHyper u = false) (hie : u.pstate.ie = true) (hhsp : u.hsp = false) :
    pendingTrap u = if bankRead u.queues 0 ≠ bankRead u.queues 1 then some .cpuMondo
      else if bankRead u.queues 2 ≠ bankRead u.queues 3 then some .devMondo
      else if levelDeliverable u then some (.interruptLevel (BitVec.ofNat 4 (highestLevel u.softint 15)))
      else if bankRead u.queues 4 ≠ bankRead u.queues 5 then some .resumableError
      else none := by
  have hnot : ¬ hstickDeliverable u = true := by simp [hstickDeliverable, hhsp]
  rw [pendingTrap, if_neg hnot, if_neg (by simp [hh, hie])]
  exact if_congr (queueHasEntry_iff u 0) rfl (if_congr (queueHasEntry_iff u 1) rfl (if_congr Iff.rfl rfl
    (if_congr (queueHasEntry_iff u 2) rfl rfl)))

theorem pendingTrap_eq_hstickMatch_iff (u : State) :
    pendingTrap u = some .hstickMatch ↔ u.hsp = true ∧ (isHyper u = false ∨ u.pstate.ie = true) := by
  rw [← hstickDeliverable_iff]
  refine ⟨fun h => ?_, fun h => if_pos h⟩
  by_contra hnot
  rw [pendingTrap, if_neg hnot] at h
  repeat' split at h
  all_goals cases h

/-- Settles O8. -/
theorem highestInterruptLevelSelected : Obligations.HighestInterruptLevelSelected := by
  intro u hh hie hhsp hcpu hdev
  have hpending := pendingTrap_open hh hie hhsp
  rw [if_neg (not_not.mpr hcpu), if_neg (not_not.mpr hdev)] at hpending
  refine ⟨fun n _ hpil hout habove => ?above, fun hnone n hlevel => ?masked⟩
  case above =>
    have hhighest := highestLevel_eq ((levelOutstanding_iff u.softint n).mpr hout) fun m hm => not_levelOutstanding_of (habove m hm)
    rw [hpending, if_pos (by rw [levelDeliverable, hhighest]; exact decide_eq_true hpil), hhighest, BitVec.ofNat_toNat,
      BitVec.setWidth_eq]
  case masked =>
    have hnot := not_levelDeliverable_of fun m hm => not_levelOutstanding_of (hnone m hm)
    rw [hpending, hnot, if_neg Bool.false_ne_true] at hlevel
    split at hlevel <;> cases hlevel

/-! ### The error traps (rules R1252, R1267, R1272, R1287, R1288, R1299) -/

theorem mem_errorTraps_iff (u : State) (e : Trap) : e ∈ errorTraps u ↔
    (e = .swRecoverableError ∧ swRecoverableDeliverable u = true)
      ∨ (∃ p, u.errors.precise = some p ∧ preciseErrorTrap u p = some e)
      ∨ (e = .storeError ∧ u.errors.storeError = true) := by
  simp only [errorTraps, List.mem_append, Option.mem_toList, Option.bind_eq_some_iff, or_assoc]
  cases swRecoverableDeliverable u <;> cases u.errors.storeError <;> simp

theorem swRecoverableDeliverable_iff (u : State) :
    swRecoverableDeliverable u = true ↔ u.errors.swRecoverable = true ∧ (isHyper u = false ∨ u.pstate.ie = true) := by
  simp [swRecoverableDeliverable, or_comm]

/-- The two high bits of the word fetched are those of its first byte. -/
theorem fetchWord_op (s : State) (pa : DWord) :
    (fetchWord s pa).extractLsb' 30 2 = (readByte s.paWidth s.memory pa).extractLsb' 6 2 := by
  rw [fetchWord_eq_wordOfBytes, wordOfBytes, Laws.field_left _ _ _ _ (by decide), Laws.field_left _ _ _ _ (by decide),
    Laws.field_left _ _ _ _ (by decide)]

theorem accessesData_iff (s : State) : accessesData s = true
    ↔ ∃ pa, translateFetch s (maskAm s s.pc) = .ok pa ∧ (readByte s.paWidth s.memory pa).extractLsb' 6 2 = 3 := by
  rw [accessesData, walkedFetch_eq]
  cases translateFetch s (maskAm s s.pc) with
  | error x => simp
  | ok pa => simp [fetchWord_op]

/-- Which precise error raises which trap: an error of a data access only at a word of the load and store format. -/
theorem preciseErrorTrap_eq_some_iff (u : State) (p : PreciseError) (e : Trap) : preciseErrorTrap u p = some e ↔
    (p = .instructionAccess ∧ .instructionAccessError = e) ∨ (p = .dataAccess ∧ accessesData u = true ∧ .dataAccessError = e)
      ∨ (∃ n, p = .internalProcessor n ∧ .internalProcessorError n = e) ∨ (p = .fastEcc ∧ .fastEccError = e) := by
  cases p <;> simp [preciseErrorTrap]

/-! ### Selection (rule R1201) -/

/-- What a selection answers: the exception that the instruction took, if it is more urgent, else the trap. -/
theorem selectTrap_cases (s : State) (e : Trap) (run : Run) :
    (∃ t p, run = .next t ∧ t.lastTrap = some p ∧ p < trapPriority e ∧ selectTrap s e run = .next t)
    ∨ ((∀ t p, run = .next t → t.lastTrap = some p → trapPriority e ≤ p) ∧ selectTrap s e run = .next (takeTrap s e)) := by
  cases run with
  | next t =>
    cases hlast : t.lastTrap with
    | none =>
      refine .inr ⟨?_, by simp only [selectTrap, hlast]; rfl⟩
      rintro _ p ⟨⟩ hp
      rw [hlast] at hp; cases hp
    | some p =>
      by_cases hp : p < trapPriority e
      · exact .inl ⟨t, p, rfl, hlast, hp, by simp only [selectTrap, hlast, if_pos hp]⟩
      · refine .inr ⟨?_, by simp only [selectTrap, hlast, if_neg hp]; rfl⟩
        rintro _ q ⟨⟩ hq
        rw [hlast] at hq; cases hq
        exact Nat.le_of_not_lt hp
  | fault | refused => exact .inr ⟨by rintro _ _ ⟨⟩, rfl⟩

theorem selectTrap_of_urgent {s t : State} {e : Trap} {p : Nat} (hlast : t.lastTrap = some p) (h : p < trapPriority e) :
    selectTrap s e (.next t) = .next t := by
  simp only [selectTrap, hlast, if_pos h]

/-- Of an exception and a trap as urgent as it the trap is taken. -/
theorem selectTrap_of_not_urgent {s t : State} {e : Trap} {p : Nat} (hlast : t.lastTrap = some p) (h : trapPriority e ≤ p) :
    selectTrap s e (.next t) = .next (takeTrap s e) := by
  simp only [selectTrap, hlast, if_neg (Nat.not_lt.mpr h)]; rfl

/-- A step with error traps: each of them against what stands before it. -/
theorem runStep_of_mode {s : State} (hmode : s.hpstate.red = false ∨ s.hpstate.hpriv = true) (hxir : s.xirPending = false) :
    runStep s = (errorTraps s).foldl (selectError s) (ordinaryStep (pastError s) (runAtPc s)) := by
  rw [runStep, if_neg (by rcases hmode with h | h <;> simp [h]), if_neg (by rw [hxir]; exact Bool.false_ne_true)]

theorem runStep_one_error {s : State} {e : Trap} (hmode : s.hpstate.red = false ∨ s.hpstate.hpriv = true)
    (hxir : s.xirPending = false) (he : errorTraps s = [e]) (htlz : trapLevelZeroPending s = false) (hp : pendingTrap s = none) :
    runStep s = selectTrap (errorReported s e) e (runAtPc s) := by
  have hordinary : ordinaryStep (pastError s) (runAtPc s) = runAtPc s := ordinaryStep_run htlz hp
  rw [runStep_of_mode hmode hxir, he, hordinary]; rfl

theorem errorReported_of_ne {s : State} {e : Trap} (h : e ≠ .storeError) : errorReported s e = pastError s := if_neg h

/-- Every exception of a fetch is more urgent than an error of it. -/
theorem translateFetch_error_priority {s : State} {a : DWord} {x : Stop} (h : translateFetch s a = .error x) :
    trapPriority x.trap < trapPriority .instructionAccessError := by
  have entry {e : TlbEntry} (h : throughFetchEntry s a e = .error x) :
      trapPriority x.trap < trapPriority .instructionAccessError := by
    rw [throughFetchEntry, reachedFetch_eq] at h
    split at h <;> cases h
    simp [trapPriority]
  unfold translateFetch at h
  split at h
  · rw [reachedFetch_eq] at h; cases h
  split at h <;> split at h
  · cases h; simp [trapPriority]
  · exact entry h
  · rw [missFetch_eq] at h; cases h; simp [trapPriority]
  · exact entry h

/-- What is left of the errors once one of them is taken. -/
theorem errorReported_eq (s : State) (e : Trap) : errorReported s e = { pastError s with
    errors := { (pastError s).errors with storeError := decide (e ≠ .storeError) && (pastError s).errors.storeError } } := by
  unfold errorReported
  split
  · next h => rw [h]; rfl
  · next h => rw [decide_eq_true h]; rfl

/-! ### The instruction at PC, and an error of its fetch (rules R1201, R1267) -/

theorem runAtPc_of_hidden {s : State} (h : s.errors.precise = some .instructionAccess) : runAtPc s = runHidden (pastError s) :=
  if_pos h

theorem runAtPc_of_issued {s : State} (h : s.errors.precise ≠ some .instructionAccess) : runAtPc s = runNext (pastError s) :=
  if_neg h

theorem runHidden_of_fetch {s : State} {pa : DWord} (h : translateFetch s (maskAm s s.pc) = .ok pa) :
    runHidden s = .next (takeTrap s .instructionAccessError) := by
  unfold runHidden
  rw [walkedFetch_eq, h]; rfl

theorem runHidden_of_fetch_error {s : State} {x : Stop} (h : translateFetch s (maskAm s s.pc) = .error x) :
    runHidden s = .next (takeTrap x.state x.trap) := by
  unfold runHidden
  rw [walkedFetch_eq, h]

theorem instructionAccessError_mem_iff (u : State) :
    Trap.instructionAccessError ∈ errorTraps u ↔ u.errors.precise = some .instructionAccess := by
  simp [mem_errorTraps_iff, preciseErrorTrap_eq_some_iff]

/-- Settles O7. -/
theorem stepTakesPendingTrap : Obligations.StepTakesPendingTrap := by
  refine ⟨?disrupting, ?errors, fun u => ⟨pendingTrap_eq_hstickMatch_iff u, fun h e he => ?masked, fun hh hie hhsp => ?order, ?_, ?_,
    instructionAccessError_mem_iff u, ?_, ?_, ?_⟩⟩
  case disrupting =>
    rintro s _ e hrun rfl hmode hxir hprecise herrors htlz hpending
    rw [step_of_running hrun, runStep_ordinary hmode hxir hprecise herrors, ordinaryStep, htlz, if_neg Bool.false_ne_true,
      runOrInterrupt, hpending]
    exact selectTrap_cases _ e _
  case errors =>
    intro s u v e hrun hu hv hmode hxir hmem
    obtain rfl : v = pastError u := hv
    rw [step_of_running hrun, ← hu]
    refine ⟨?urgent, fun he htlz hpending => ?fetch, fun he hissued htlz hpending => ?issued⟩
    case urgent =>
      rw [runStep_of_mode hmode hxir]
      exact selectErrors_lastTrap hmem
    case fetch =>
      have hprecise : u.errors.precise = some .instructionAccess := by
        rw [← instructionAccessError_mem_iff, he]; exact List.mem_singleton_self _
      rw [runStep_one_error hmode hxir he htlz hpending, runAtPc_of_hidden hprecise, errorReported_of_ne (by decide)]
      constructor
      · intro pa hfetch
        rw [runHidden_of_fetch hfetch]
        exact selectTrap_of_not_urgent rfl le_rfl
      · intro x hfetch
        rw [runHidden_of_fetch_error hfetch]
        exact selectTrap_of_urgent rfl (translateFetch_error_priority hfetch)
    case issued =>
      have hprecise : u.errors.precise ≠ some .instructionAccess := by
        rw [Ne, ← instructionAccessError_mem_iff, he, List.mem_singleton]; exact hissued.symm
      rw [runStep_one_error hmode hxir he htlz hpending, runAtPc_of_issued hprecise, errorReported_eq]
      exact selectTrap_cases _ e _
  case masked =>
    rw [pendingTrap_masked h] at he
    split at he <;> cases he
    rfl
  case order =>
    rw [pendingTrap_open hh hie hhsp]
    refine ⟨fun hcpu => if_pos hcpu, fun hcpu hdev => ?_, fun hcpu hdev hnone => ?_⟩
    · rw [if_neg (not_not.mpr hcpu), if_pos hdev]
    · rw [if_neg (not_not.mpr hcpu), if_neg (not_not.mpr hdev),
        not_levelDeliverable_of fun m hm => not_levelOutstanding_of (hnone m hm), if_neg Bool.false_ne_true]
      exact ⟨fun hres => if_pos hres, fun hres => if_neg (not_not.mpr hres)⟩
  all_goals simp [mem_errorTraps_iff, preciseErrorTrap_eq_some_iff, swRecoverableDeliverable_iff, accessesData_iff]

end Sys2Proof.Machine

/-! PROOFS. The VIS instructions: those that write an F register (O58), those that write R[rd] or GSR (O59), and the edge masks and
array addresses (O60). -/

namespace Sys2Proof.Machine

/-! ### The end of a VIS instruction (rules R68, R1060) -/

section
variable {i : Instr} {s : State} {rd : BitVec 5}

theorem visIntoD_completes {v w : DWord} (hp : s.pstate.pef = true) (hf : s.fprs.fef = true) (hi : exec i s = visIntoD s rd v)
    (hv : v = w) : ∃ t, exec i s = .next t ∧ ResultFD s t rd w s.fsr :=
  hv ▸ ⟨_, hi.trans (if_pos (fpuEnabled_of hp hf)), resultFD_setFD s rd v s.fsr⟩

theorem visIntoS_completes {v w : Word} (hp : s.pstate.pef = true) (hf : s.fprs.fef = true) (hi : exec i s = visIntoS s rd v)
    (hv : v = w) : ∃ t, exec i s = .next t ∧ ResultFS s t rd w s.fsr :=
  hv ▸ ⟨_, hi.trans (if_pos (fpuEnabled_of hp hf)), resultFS_setFS s rd v s.fsr⟩

theorem visIntoD_of_disabled {v : DWord} (h : s.pstate.pef = false ∨ s.fprs.fef = false) (hi : exec i s = visIntoD s rd v) :
    exec i s = .next (takeTrap { s with fprs := dirtyDouble s.fprs rd } .fpDisabled) := by
  rw [hi, visIntoD, if_neg (not_fpuEnabled_of h), markFD_eq]; rfl

theorem visIntoS_of_disabled {v : Word} (h : s.pstate.pef = false ∨ s.fprs.fef = false) (hi : exec i s = visIntoS s rd v) :
    exec i s = .next (takeTrap { s with fprs := dirtyLower s.fprs } .fpDisabled) := by
  rw [hi, visIntoS, if_neg (not_fpuEnabled_of h), markFS_eq]; rfl

end

/-! ### Lanes (rules R1100 to R1107) -/

theorem lanes16_lane (f : BitVec 16 → BitVec 16 → BitVec 16) (a b : DWord) {k : Nat} (hk : k < 4) :
    (lanes16 f a b).extractLsb' (16 * k) 16 = f (a.extractLsb' (16 * k) 16) (b.extractLsb' (16 * k) 16) := by
  interval_cases k <;>
    simp (disch := decide) only [lanes16, Laws.field_left, Laws.field_right, Nat.reduceMul, Nat.reduceSub, Laws.field_all]

theorem lanes32_lane (f : Word → Word → Word) (a b : DWord) {k : Nat} (hk : k < 2) :
    (lanes32 f a b).extractLsb' (32 * k) 32 = f (a.extractLsb' (32 * k) 32) (b.extractLsb' (32 * k) 32) := by
  interval_cases k <;>
    simp (disch := decide) only [lanes32, Laws.field_left, Laws.field_right, Nat.reduceMul, Nat.reduceSub, Laws.field_all]

theorem lanes16S_lane (f : BitVec 16 → BitVec 16 → BitVec 16) (a b : Word) {k : Nat} (hk : k < 2) :
    (lanes16S f a b).extractLsb' (16 * k) 16 = f (a.extractLsb' (16 * k) 16) (b.extractLsb' (16 * k) 16) := by
  interval_cases k <;>
    simp (disch := decide) only [lanes16S, Laws.field_left, Laws.field_right, Nat.reduceMul, Nat.reduceSub, Laws.field_all]

/-! ### Bytes of a pair of doublewords (rules R1066, R1068) -/

theorem byteOf_append (a b : DWord) {n : Nat} (hn : n < 16) : byteOf (a ++ b) n = pairByte a b n := by
  unfold byteOf pairByte byteLane
  by_cases h8 : n < 8
  · rw [if_pos h8, Laws.field_left _ _ _ _ (by omega)]
    congr 1
    simp only [Bool.false_eq_true, if_false]
    omega
  · rw [if_neg h8, Laws.field_right _ _ _ _ (by omega)]
    congr 1
    simp only [Bool.false_eq_true, if_false]
    omega

theorem alignData_byte (a b : DWord) (align : BitVec 3) {k : Nat} (hk : k < 8) :
    byteLane 8 false (alignData a b align) k = pairByte a b (align.toNat + k) := by
  have halign := align.isLt
  rw [← byteOf_append a b (by omega)]
  apply BitVec.eq_of_getLsbD_eq
  intro j hj
  have hbit : 8 * (8 - 1 - k) + j < 64 := by omega
  have hplace : 64 - 8 * align.toNat + (8 * (8 - 1 - k) + j) = 120 - 8 * (align.toNat + k) + j := by omega
  simp only [byteLane, alignData, byteOf, BitVec.getLsbD_extractLsb', Bool.false_eq_true, if_false, hj, hbit, hplace, decide_true,
    Bool.true_and]

/-- The nibble of the mask that selects byte `k`. -/
theorem shuffleIndex_eq (mask : Word) {k : Nat} (hk : k < 8) : shuffleIndex mask k = mask.toNat / 16 ^ (7 - k) % 16 := by
  have hpow : 2 ^ (28 - 4 * k) = 16 ^ (7 - k) := by
    rw [show 28 - 4 * k = 4 * (7 - k) by omega, pow_mul]; norm_num
  rw [shuffleIndex, BitVec.extractLsb'_toNat, Nat.shiftRight_eq_div_pow, hpow]

theorem byteShuffle_byte (a b : DWord) (mask : Word) {k : Nat} (hk : k < 8) :
    byteLane 8 false (byteShuffle a b mask) k = pairByte a b (mask.toNat / 16 ^ (7 - k) % 16) := by
  rw [← shuffleIndex_eq mask hk, ← byteOf_append a b (by rw [shuffleIndex_eq mask hk]; exact Nat.mod_lt _ (by decide))]
  unfold byteLane byteShuffle
  interval_cases k <;>
    simp (disch := decide) only [Laws.field_left, Laws.field_right, Nat.reduceMul, Nat.reduceSub, Bool.false_eq_true, if_false,
      Laws.field_all]

/-- Settles O58: each ends with a write of its F register, under one check of the FPU. -/
theorem visFloatingPointResults : Obligations.VisFloatingPointResults := by
  rintro rd rs1 rs2 s _ _ _ _ rfl rfl rfl rfl
  refine ⟨fun hp hf => ?enabled, fun h => ⟨?doubles, ?singles⟩⟩
  case enabled =>
    have double {i : Instr} {v w : DWord} (hi : exec i s = visIntoD s rd v) (hv : v = w) := visIntoD_completes hp hf hi hv
    have single {i : Instr} {v w : Word} (hi : exec i s = visIntoS s rd v) (hv : v = w) := visIntoS_completes hp hf hi hv
    have lanes {i : Instr} {v : DWord} {P : DWord → Prop} (hi : exec i s = visIntoD s rd v) (hv : P v) :
        ∃ t v, exec i s = .next t ∧ ResultFD s t rd v s.fsr ∧ P v := by
      obtain ⟨t, hnext, hres⟩ := double hi rfl
      exact ⟨t, v, hnext, hres, hv⟩
    have lanesS {i : Instr} {v : Word} {P : Word → Prop} (hi : exec i s = visIntoS s rd v) (hv : P v) :
        ∃ t v, exec i s = .next t ∧ ResultFS s t rd v s.fsr ∧ P v := by
      obtain ⟨t, hnext, hres⟩ := single hi rfl
      exact ⟨t, v, hnext, hres, hv⟩
    refine ⟨?logicD, ?logicS, ?add16, ?add32, ?add16s, ?add32s, lanes rfl fun k hk => alignData_byte _ _ _ hk,
      lanes rfl fun k hk => byteShuffle_byte _ _ _ hk⟩
    case logicD =>
      repeat refine List.forall_mem_cons.mpr ⟨double rfl rfl, ?_⟩
      exact List.forall_mem_nil _
    case logicS =>
      repeat refine List.forall_mem_cons.mpr ⟨single rfl rfl, ?_⟩
      exact List.forall_mem_nil _
    case add16 =>
      simp only [List.forall_mem_cons]
      exact ⟨lanes rfl fun k hk => lanes16_lane _ _ _ hk, lanes rfl fun k hk => lanes16_lane _ _ _ hk, List.forall_mem_nil _⟩
    case add32 =>
      simp only [List.forall_mem_cons]
      exact ⟨lanes rfl fun k hk => lanes32_lane _ _ _ hk, lanes rfl fun k hk => lanes32_lane _ _ _ hk, List.forall_mem_nil _⟩
    case add16s =>
      simp only [List.forall_mem_cons]
      exact ⟨lanesS rfl fun k hk => lanes16S_lane _ _ _ hk, lanesS rfl fun k hk => lanes16S_lane _ _ _ hk, List.forall_mem_nil _⟩
    case add32s =>
      simp only [List.forall_mem_cons]
      exact ⟨single rfl rfl, single rfl rfl, List.forall_mem_nil _⟩
  case doubles =>
    repeat refine List.forall_mem_cons.mpr ⟨visIntoD_of_disabled h rfl, ?_⟩
    exact List.forall_mem_nil _
  case singles =>
    repeat refine List.forall_mem_cons.mpr ⟨visIntoS_of_disabled h rfl, ?_⟩
    exact List.forall_mem_nil _

/-! ### Writes of R[rd] and GSR (rules R1064, R1065, R1067) -/

theorem visInto_of_enabled {s t : State} (hp : s.pstate.pef = true) (hf : s.fprs.fef = true) : visInto s t = .next (advance t) :=
  if_pos (fpuEnabled_of hp hf)

theorem visInto_of_disabled {s t : State} (h : s.pstate.pef = false ∨ s.fprs.fef = false) :
    visInto s t = .next (takeTrap s .fpDisabled) := if_neg (not_fpuEnabled_of h)

theorem advance_setRGsr (s : State) (rd : BitVec 5) (v : DWord) (g : Gsr) : ∃ t, advance (setRGsr s rd v g) = t ∧ WroteR s t rd v
    ∧ SameBytes s t ∧ t = advance { s with globals := t.globals, windows := t.windows, gsr := g } := by
  refine ⟨_, rfl, wroteR_congr (wroteR_setR s rd v) rfl rfl, sameBytes_of ?_ ?_, ?_⟩
  case refine_1 => exact setR_memory s rd v
  case refine_2 => exact setR_paWidth s rd v
  case refine_3 =>
    rw [setRGsr]
    conv_lhs => rw [setR_eq]
    rfl

theorem blockAddress_eq (n : DWord) : blockAddress n = BitVec.ofNat 64 (n.toNat / 8 * 8) := by
  have hlt := n.isLt
  apply BitVec.eq_of_toNat_eq
  rw [blockAddress, append_zeros_toNat, BitVec.extractLsb'_toNat, Nat.shiftRight_eq_div_pow, BitVec.toNat_ofNat]
  omega

theorem low_three_eq (n : DWord) : n.extractLsb' 0 3 = BitVec.ofNat 3 (n.toNat % 8) := by
  apply BitVec.eq_of_toNat_eq
  rw [extractLsb'_zero_toNat, BitVec.toNat_ofNat, Nat.mod_mod]; rfl

theorem neg_low_three_eq (n : DWord) : -(n.extractLsb' 0 3) = BitVec.ofNat 3 ((8 - n.toNat % 8) % 8) := by
  apply BitVec.eq_of_toNat_eq
  rw [BitVec.toNat_neg, extractLsb'_zero_toNat, BitVec.toNat_ofNat, Nat.mod_mod]; rfl

/-! ### The masks of the SIMD compares (rule R1090) -/

theorem mask16_spec (rel : BitVec 16 → BitVec 16 → Bool) (a b : DWord) : (mask16 rel a b).toNat < 16
    ∧ ∀ k < 4, (mask16 rel a b).getLsbD k = rel (a.extractLsb' (16 * k) 16) (b.extractLsb' (16 * k) 16) := by
  have bits : ∀ b3 b2 b1 b0 : Bool, ((bit b3 ++ bit b2 ++ bit b1 ++ bit b0).setWidth 64).toNat < 16
      ∧ ∀ k < 4, ((bit b3 ++ bit b2 ++ bit b1 ++ bit b0).setWidth 64).getLsbD k = [b0, b1, b2, b3][k]?.getD false := by decide
  refine ⟨(bits _ _ _ _).1, fun k hk => ((bits _ _ _ _).2 k hk).trans ?_⟩
  interval_cases k <;> rfl

theorem mask32_spec (rel : Word → Word → Bool) (a b : DWord) : (mask32 rel a b).toNat < 4
    ∧ ∀ k < 2, (mask32 rel a b).getLsbD k = rel (a.extractLsb' (32 * k) 32) (b.extractLsb' (32 * k) 32) := by
  have bits : ∀ b1 b0 : Bool, ((bit b1 ++ bit b0).setWidth 64).toNat < 4
      ∧ ∀ k < 2, ((bit b1 ++ bit b0).setWidth 64).getLsbD k = [b0, b1][k]?.getD false := by decide
  refine ⟨(bits _ _).1, fun k hk => ((bits _ _).2 k hk).trans ?_⟩
  interval_cases k <;> rfl

/-- Settles O59: each ends with a write of R[rd], GSR or both, under one check of the FPU. -/
theorem visIntegerResults : Obligations.VisIntegerResults := by
  rintro rd rs1 rs2 mode s _ _ _ rfl rfl rfl
  refine ⟨fun hp hf => ?enabled, fun h => ?disabled⟩
  case enabled =>
    have aligned {i : Instr} {v w : DWord} {g g' : Gsr} (hi : exec i s = visInto s (setRGsr s rd v g)) (hv : v = w) (hg : g = g') :
        ∃ t, exec i s = .next t ∧ WroteR s t rd w ∧ SameBytes s t
          ∧ t = advance { s with globals := t.globals, windows := t.windows, gsr := g' } := by
      subst hv hg
      obtain ⟨t, ht, hres⟩ := advance_setRGsr s rd v g
      exact ⟨t, by rw [hi, visInto_of_enabled hp hf, ht], hres⟩
    have compared {i : Instr} {v : DWord} {P : DWord → Prop} (hi : exec i s = visInto s (setR s rd v)) (hv : P v) :
        ∃ t v, exec i s = .next t ∧ ResultR s t rd v ∧ P v :=
      ⟨_, v, hi.trans (visInto_of_enabled hp hf), resultR_setR s rd v, hv⟩
    refine ⟨?align, aligned rfl rfl ?mask, ?compare16, ?compare32, ⟨_, visInto_of_enabled hp hf, sameBytes_of rfl rfl, ?mode⟩⟩
    case align =>
      simp only [List.forall_mem_cons]
      exact ⟨aligned rfl (blockAddress_eq _) (by rw [low_three_eq]), aligned rfl (blockAddress_eq _) (by rw [neg_low_three_eq]),
        List.forall_mem_nil _⟩
    case mask => rw [BitVec.setWidth_eq_extractLsb' (by decide)]
    case compare16 =>
      have ne (p q : BitVec 16) : (p != q) = decide (p ≠ q) := (decide_not).symm
      simp only [List.forall_mem_cons, ← ne]
      exact ⟨compared rfl (mask16_spec _ _ _), compared rfl (mask16_spec _ _ _), compared rfl (mask16_spec _ _ _),
        compared rfl (mask16_spec _ _ _), List.forall_mem_nil _⟩
    case compare32 =>
      have ne (p q : Word) : (p != q) = decide (p ≠ q) := (decide_not).symm
      simp only [List.forall_mem_cons, ← ne]
      exact ⟨compared rfl (mask32_spec _ _ _), compared rfl (mask32_spec _ _ _), compared rfl (mask32_spec _ _ _),
        compared rfl (mask32_spec _ _ _), List.forall_mem_nil _⟩
    case mode => rw [BitVec.setWidth_eq_extractLsb' (by decide)]; rfl
  case disabled =>
    repeat refine List.forall_mem_cons.mpr ⟨visInto_of_disabled h, ?_⟩
    exact List.forall_mem_nil _

/-! ### Edge masks (rule R1070) -/

theorem edgeIndex_eq (e : Nat) (x : DWord) : edgeIndex e x = x.toNat % 8 / 2 ^ e := by
  rw [edgeIndex, extractLsb'_zero_toNat]; rfl

section
variable {w e k : Nat} {little : Bool} {a b : DWord}

theorem edgeIndex_lt (he : w * 2 ^ e = 8) (x : DWord) : edgeIndex e x < w := by
  rw [edgeIndex_eq]
  exact Nat.div_lt_of_lt_mul (by rw [Nat.mul_comm, he]; exact Nat.mod_lt _ (by decide))

theorem edgeLeft_bit (hk : k < w) :
    (edgeLeft w e little a).getLsbD (if little = true then k else w - 1 - k) = decide (edgeIndex e a ≤ k) := by
  rw [Bool.eq_iff_iff]
  cases little with
  | true =>
    simp only [edgeLeft, if_true, BitVec.getLsbD_shiftLeft, BitVec.getLsbD_allOnes, Bool.and_eq_true, Bool.not_eq_true',
      decide_eq_true_eq, decide_eq_false_iff_not]
    omega
  | false =>
    simp only [edgeLeft, Bool.false_eq_true, if_false, BitVec.getLsbD_ushiftRight, BitVec.getLsbD_allOnes, 
      decide_eq_true_eq]
    omega

theorem edgeRight_bit (he : w * 2 ^ e = 8) (hk : k < w) :
    (edgeRight w e little b).getLsbD (if little = true then k else w - 1 - k) = decide (k ≤ edgeIndex e b) := by
  have hb := edgeIndex_lt he b
  rw [Bool.eq_iff_iff]
  cases little with
  | true =>
    simp only [edgeRight, if_true, BitVec.getLsbD_ushiftRight, BitVec.getLsbD_allOnes, decide_eq_true_eq]
    omega
  | false =>
    simp only [edgeRight, Bool.false_eq_true, if_false, BitVec.getLsbD_shiftLeft, BitVec.getLsbD_allOnes, 
      Bool.and_eq_true, Bool.not_eq_true', decide_eq_true_eq, decide_eq_false_iff_not]
    omega

theorem toNat_maskAm (s : State) (x : DWord) : (maskAm s x).toNat = if s.pstate.am = true then x.toNat % 2 ^ 32 else x.toNat := by
  unfold maskAm low32
  split
  · rw [BitVec.toNat_setWidth, extractLsb'_zero_toNat]
    omega
  · rfl

/-- The addresses PSTATE.am lets be seen lie in the same 8 bytes. -/
theorem sameBlock_iff (s : State) (a b : DWord) : sameBlock s a b = true ↔ (maskAm s a).toNat / 8 = (maskAm s b).toNat / 8 := by
  have ha := a.isLt
  have hb := b.isLt
  rw [toNat_maskAm, toNat_maskAm, sameBlock]
  split
  · simp only [beq_iff_eq, BitVec.toNat_eq, BitVec.extractLsb'_toNat, Nat.shiftRight_eq_div_pow]
    omega
  · simp only [beq_iff_eq, BitVec.toNat_eq, BitVec.extractLsb'_toNat, Nat.shiftRight_eq_div_pow]
    omega

/-- The mask is the left edge, and where both addresses lie in one block also the right edge. -/
theorem edgeMask_spec (s : State) (he : w * 2 ^ e = 8) : (edgeMask s w e little a b).toNat < 2 ^ w
    ∧ ∀ k < w, (edgeMask s w e little a b).getLsbD (if little = true then k else w - 1 - k) =
        decide (a.toNat % 8 / 2 ^ e ≤ k ∧ ((maskAm s a).toNat / 8 = (maskAm s b).toNat / 8 → k ≤ b.toNat % 8 / 2 ^ e)) := by
  have hw : w ≤ 8 := Nat.le_of_dvd (by decide) ⟨_, he.symm⟩
  refine ⟨?_, fun k hk => ?_⟩
  · rw [edgeMask, BitVec.toNat_setWidth]
    exact (Nat.mod_le _ _).trans_lt (BitVec.isLt _)
  · have hplace : (if little = true then k else w - 1 - k) < 64 := by split <;> omega
    simp only [← sameBlock_iff, ← edgeIndex_eq]
    rw [edgeMask, BitVec.getLsbD_setWidth, decide_eq_true hplace, Bool.true_and]
    cases sameBlock s a b with
    | true => simp only [if_true, BitVec.getLsbD_and, edgeLeft_bit hk, edgeRight_bit he hk, true_imp_iff, Bool.decide_and]
    | false => simp only [Bool.false_eq_true, if_false, edgeLeft_bit hk, false_imp_iff, and_true]

end

/-! ### Array addresses (rule R1085) -/

theorem arrayLow_toNat (a : DWord) : (arrayLow a).toNat = a.toNat / 2 ^ 11 % 4 + a.toNat / 2 ^ 33 % 4 * 2 ^ 2 + a.toNat / 2 ^ 55 % 2 * 2 ^ 4
    + a.toNat / 2 ^ 13 % 16 * 2 ^ 5 + a.toNat / 2 ^ 35 % 16 * 2 ^ 9 + a.toNat / 2 ^ 56 % 16 * 2 ^ 13 := by
  simp only [arrayLow, toNat_append_eq, BitVec.extractLsb'_toNat, Nat.shiftRight_eq_div_pow]
  omega

theorem lowBits_toNat (v : DWord) {n : Nat} (hn : n < 64) : (lowBits v n).toNat = v.toNat % 2 ^ n := by
  have hlt : 2 ^ n - 1 < 2 ^ 64 := (Nat.sub_le _ _).trans_lt (Nat.pow_lt_pow_right (by decide) hn)
  rw [lowBits, BitVec.toNat_and, BitVec.toNat_ofNat, Nat.mod_eq_of_lt hlt, Nat.and_two_pow_sub_one_eq_mod]

/-- The three coordinates side by side: none overlaps another, so the disjunction is the sum. -/
theorem arrayHigh_toNat (a : DWord) {n : Nat} (hn : n ≤ 5) :
    (lowBits (a >>> 17) n ||| (lowBits (a >>> 39) n <<< n) ||| ((a >>> 60) <<< (2 * n))).toNat
      = a.toNat / 2 ^ 17 % 2 ^ n + a.toNat / 2 ^ 39 % 2 ^ n * 2 ^ n + a.toNat / 2 ^ 60 * 2 ^ (2 * n) := by
  have ha := a.isLt
  have hx : a.toNat / 2 ^ 17 % 2 ^ n < 2 ^ n := Nat.mod_lt _ (Nat.two_pow_pos n)
  have hy : a.toNat / 2 ^ 39 % 2 ^ n < 2 ^ n := Nat.mod_lt _ (Nat.two_pow_pos n)
  have hpow : 2 ^ (2 * n) ≤ 2 ^ 10 := Nat.pow_le_pow_right (by decide) (by omega)
  have hxy : a.toNat / 2 ^ 17 % 2 ^ n + a.toNat / 2 ^ 39 % 2 ^ n * 2 ^ n < 2 ^ (2 * n) := by
    have := Nat.mul_le_mul_right (2 ^ n) (Nat.succ_le_of_lt hy)
    rw [two_mul, pow_add]
    lia
  have hyn : a.toNat / 2 ^ 39 % 2 ^ n * 2 ^ n < 2 ^ 64 := by omega
  have hzn : a.toNat / 2 ^ 60 * 2 ^ (2 * n) < 2 ^ 64 :=
    (Nat.mul_le_mul (show a.toNat / 2 ^ 60 ≤ 2 ^ 4 by omega) hpow).trans_lt (by decide)
  simp only [BitVec.toNat_or, BitVec.toNat_shiftLeft, BitVec.toNat_ushiftRight, lowBits_toNat _ (show n < 64 by omega),
    Nat.shiftRight_eq_div_pow, Nat.shiftLeft_eq, Nat.mod_eq_of_lt hyn, Nat.mod_eq_of_lt hzn]
  rw [Nat.or_comm (a.toNat / 2 ^ 17 % 2 ^ n), ← Nat.shiftLeft_eq _ n, ← Nat.shiftLeft_add_eq_or_of_lt hx, Nat.shiftLeft_eq, Nat.or_comm,
    ← Nat.shiftLeft_eq _ (2 * n), Nat.add_comm (a.toNat / 2 ^ 39 % 2 ^ n * 2 ^ n), ← Nat.shiftLeft_add_eq_or_of_lt hxy, Nat.shiftLeft_eq,
    Nat.add_comm]

/-- The number of a blocked-byte address: the three coordinates of rule R1085, two bits of x and y and one of z first. -/
theorem array8_eq (a : DWord) {n x y z : Nat} (hn : n ≤ 5) (hx : x = a.toNat / 2 ^ 11 % 2 ^ 11) (hy : y = a.toNat / 2 ^ 33 % 2 ^ 11)
    (hz : z = a.toNat / 2 ^ 55) : array8 a n = BitVec.ofNat 64 (x % 4 + y % 4 * 2 ^ 2 + z % 2 * 2 ^ 4 + x / 4 % 16 * 2 ^ 5
      + y / 4 % 16 * 2 ^ 9 + z / 2 % 16 * 2 ^ 13 + (x / 64 % 2 ^ n + y / 64 % 2 ^ n * 2 ^ n + z / 32 * 2 ^ (2 * n)) * 2 ^ 17) := by
  have ha := a.isLt
  have digits : ∀ v, v / 64 % 2 ^ n = v / 64 % 32 % 2 ^ n := fun v =>
    (Nat.mod_mod_of_dvd _ (show 2 ^ n ∣ 2 ^ 5 from Nat.pow_dvd_pow 2 hn)).symm
  have hx17 : x / 64 % 2 ^ n = a.toNat / 2 ^ 17 % 2 ^ n := by
    rw [digits, ← Nat.mod_mod_of_dvd (a.toNat / 2 ^ 17) (show 2 ^ n ∣ 2 ^ 5 from Nat.pow_dvd_pow 2 hn)]
    congr 1; omega
  have hy39 : y / 64 % 2 ^ n = a.toNat / 2 ^ 39 % 2 ^ n := by
    rw [digits, ← Nat.mod_mod_of_dvd (a.toNat / 2 ^ 39) (show 2 ^ n ∣ 2 ^ 5 from Nat.pow_dvd_pow 2 hn)]
    congr 1; omega
  have hlow : (arrayLow a).toNat = x % 4 + y % 4 * 2 ^ 2 + z % 2 * 2 ^ 4 + x / 4 % 16 * 2 ^ 5 + y / 4 % 16 * 2 ^ 9 + z / 2 % 16 * 2 ^ 13 := by
    rw [arrayLow_toNat]; omega
  have hz60 : z / 32 = a.toNat / 2 ^ 60 := by omega
  apply BitVec.eq_of_toNat_eq
  rw [← hlow, hx17, hy39, hz60, ← arrayHigh_toNat a hn, array8, BitVec.toNat_or, BitVec.toNat_setWidth, BitVec.toNat_shiftLeft,
    BitVec.toNat_ofNat, ← Nat.or_mod_two_pow, Nat.or_comm, ← Nat.shiftLeft_add_eq_or_of_lt (arrayLow a).isLt, Nat.shiftLeft_eq, Nat.add_comm]

theorem shiftLeft_ofNat (v k : Nat) : BitVec.ofNat 64 v <<< k = BitVec.ofNat 64 (2 ^ k * v) := by
  apply BitVec.eq_of_toNat_eq
  rw [BitVec.toNat_shiftLeft, BitVec.toNat_ofNat, BitVec.toNat_ofNat, Nat.shiftLeft_eq, Nat.mod_mul_mod, Nat.mul_comm]

theorem arrayInto_spec {i : Instr} {s : State} {rd : BitVec 5} {a n : DWord} {k step x y z : Nat} (hi : exec i s = arrayInto s rd a n k)
    (hx : x = a.toNat / 2 ^ 11 % 2 ^ 11) (hy : y = a.toNat / 2 ^ 33 % 2 ^ 11) (hz : z = a.toNat / 2 ^ 55) (hstep : 2 ^ k = step) :
    (n.toNat ≤ 5 → ∃ t, exec i s = .next t ∧ ResultR s t rd (BitVec.ofNat 64 (step *
        (x % 4 + y % 4 * 2 ^ 2 + z % 2 * 2 ^ 4 + x / 4 % 16 * 2 ^ 5 + y / 4 % 16 * 2 ^ 9 + z / 2 % 16 * 2 ^ 13
          + (x / 64 % 2 ^ n.toNat + y / 64 % 2 ^ n.toNat * 2 ^ n.toNat + z / 32 * 2 ^ (2 * n.toNat)) * 2 ^ 17))))
      ∧ (5 < n.toNat → ∃ t v, exec i s = .next t ∧ WroteR s t rd v ∧ SameBytes s t
        ∧ t = advance { s with globals := t.globals, windows := t.windows, freeCount := s.freeCount + 1 }) := by
  subst hstep
  refine ⟨fun hn => ?_, fun hn => ?_⟩
  · rw [← shiftLeft_ofNat, ← array8_eq a hn hx hy hz]
    exact ⟨_, hi.trans (if_pos hn), resultR_setR s rd _⟩
  · refine ⟨_, freeValue s, hi.trans (if_neg (by omega)), wroteR_congr (wroteR_setR s rd _) rfl rfl, ?_, ?_⟩
    · exact sameBytes_of (setR_memory s rd _) (setR_paWidth s rd _)
    · conv_lhs => rw [setR_eq]
      rfl

/-- Settles O60: an EDGE is its mask's two edges, an ARRAY its three coordinates side by side. -/
theorem edgeMasksAndArrayAddresses : Obligations.EdgeMasksAndArrayAddresses := by
  rintro rd rs1 rs2 s _ _ rfl rfl
  have edge {i j : Instr} {w e step : Nat} {little : Bool} (hi : exec i s = edgeCC s rd w e little (getR s rs1) (getR s rs2))
      (hj : exec j s = edgeN s rd w e little (getR s rs1) (getR s rs2)) (hstep : 2 ^ e = step) (he : w * step = 8) :
      ∃ (t t' : State) (v : DWord) (c : Ccr), exec i s = .next t ∧ ResultRC s t rd v c
        ∧ DifferenceCcr c (getR s rs1) (getR s rs2) false ∧ exec j s = .next t' ∧ ResultR s t' rd v ∧ v.toNat < 2 ^ w
        ∧ ∀ k < w, v.getLsbD (if little = true then k else w - 1 - k) = decide ((getR s rs1).toNat % 8 / step ≤ k
          ∧ ((maskAm s (getR s rs1)).toNat / 8 = (maskAm s (getR s rs2)).toNat / 8 → k ≤ (getR s rs2).toNat % 8 / step)) := by
    subst hstep
    exact ⟨_, _, _, _, hi.trans (if_pos rfl), resultRC_setR _ _ _ _, differenceCcr_subCcr _ _ _, hj.trans (if_pos rfl),
      resultR_setR _ _ _, edgeMask_spec s he⟩
  refine ⟨?edges, fun x y z n hx hy hz hn => ?arrays⟩
  case edges =>
    repeat refine List.forall_mem_cons.mpr ⟨edge rfl rfl rfl rfl, ?_⟩
    exact List.forall_mem_nil _
  case arrays =>
    subst hn
    have array {i : Instr} {k step : Nat} (hi : exec i s = arrayInto s rd (getR s rs1) (getR s rs2) k) (hstep : 2 ^ k = step) :=
      arrayInto_spec (n := (getR s rs2)) hi hx hy hz hstep
    repeat refine List.forall_mem_cons.mpr ⟨array rfl rfl, ?_⟩
    exact List.forall_mem_nil _

end Sys2Proof.Machine

/-! PROOFS. The resets: the state after a power-on reset has the machine's invariant (O11), and what a power-on reset, a warm reset and
an externally initiated reset leave (O12). -/

namespace Sys2Proof.Machine

/-! ### RSTVADDR (rule R1227) -/

theorem low_two_rstvAddr (w : PaWidth) : (Config.rstvAddr w).extractLsb' 0 2 = 0 := by revert w; decide

theorem rstvAddr_add (w : PaWidth) : Config.rstvAddr w + 0x24 = Config.rstvAddr w + 0x20 + 4 := (BitVec.add_assoc _ 0x20 4).symm

/-! ### Masks of strands (rules R1412, R1413) -/

theorem getLsbD_lowestBit_all (v : DWord) (n : Nat) :
    (lowestBit v).getLsbD n = (v.getLsbD n && (List.range n).all fun m => !v.getLsbD m) := by
  rw [getLsbD_lowestBit]
  congr 1
  rw [Bool.eq_iff_iff]
  simp

theorem getLsbD_select (a b mask : DWord) {n : Nat} (hn : n < 64) :
    ((a &&& mask) ||| (b &&& ~~~mask)).getLsbD n = if mask.getLsbD n = true then a.getLsbD n else b.getLsbD n := by
  rw [BitVec.getLsbD_or, BitVec.getLsbD_and, BitVec.getLsbD_and, BitVec.getLsbD_not, decide_eq_true hn]
  cases mask.getLsbD n <;> simp

theorem available_ne_zero {c : Chip} (h : chipLegal c = true) : c.available ≠ 0 := by
  intro h0
  simp [chipLegal, namesOwn_eq, h0] at h

/-! ### The invariant after a power-on reset -/

theorem tlbConsistent_nil : TlbConsistent [] := fun _ _ _ => Nat.zero_le 1

theorem CmtInv.afterPor {c : Chip} (h : chipLegal c = true) : CmtInv c (Cmt.afterPor c) :=
  ⟨rfl, lowestBit_available _, lowestBit_ne_zero (available_ne_zero h), BitVec.and_not_self _, BitVec.and_not_self _⟩

theorem low_six_resetOf (w : PaWidth) (c : Chip) (q : BitVec 3) : (bankRead (State.resetOf w c).queues q).extractLsb' 0 6 = 0 := by
  simp [bankRead, State.resetOf]

theorem low_six_map_masked (b : Bank 64 3) (q : BitVec 3) : (bankRead (b.map (· &&& queueRegMask)) q).extractLsb' 0 6 = 0 := by
  rw [bankRead, Vector.getElem_map]
  exact low_six_masked _

theorem inv_resetOf (w : PaWidth) {c : Chip} (h : chipLegal c = true) : (State.resetOf w c).Inv where
  memory := reset_memory_wf w c
  pcs := ⟨low_two_add (low_two_rstvAddr w) rfl, low_two_add (low_two_rstvAddr w) rfl⟩
  tl := Nat.le_refl 6
  queues := low_six_resetOf w c
  cmt := ⟨rfl, (CmtInv.afterPor h).enabled, (CmtInv.afterPor h).running⟩
  available := ⟨(CmtInv.afterPor h).available, (CmtInv.afterPor h).asked⟩
  chip := h
  tlbs := ⟨tlbConsistent_nil, tlbConsistent_nil⟩

/-- What the invariant reads is as at the start, but for the queue registers and memory that the environment leaves. -/
theorem inv_powerOnReset {s left : State} (h : chipLegal s.chip = true) (hm : Memory.wf s.paWidth left.memory = true) :
    (powerOnReset s left).Inv :=
  have start := inv_resetOf s.paWidth h
  { memory := hm
    pcs := start.pcs
    tl := start.tl
    queues := low_six_map_masked left.queues
    cmt := start.cmt
    available := start.available
    chip := h
    tlbs := start.tlbs }

/-- Settles O11, from the values a power-on reset gives. -/
theorem resetHasInvariant : Obligations.ResetHasInvariant :=
  ⟨fun w _ h => inv_resetOf w h, inv_resetOf 7 (by decide), fun _ _ h hm => inv_powerOnReset h hm⟩

/-! ### What every reset leaves (rule R1455) -/

/-- The values that TABLE 16-1 gives in every column of a reset of the whole machine. -/
def AfterReset (u : State) : Prop :=
  u.tl = 6 ∧ u.gl = 3 ∧ u.hpstate = ⟨false, true, true, false⟩ ∧ u.tick.npt = true ∧ (frameAt u 6).tt = 1
    ∧ u.pstate = ⟨false, false, u.pstate.tle, true, false, false, false⟩
    ∧ u.pc = BitVec.ofNat 64 (0xFFFFFFFFF0000000 % 2 ^ (40 + u.paWidth.val)) + 0x20 ∧ u.npc = u.pc + 4

theorem afterReset_resetOf (w : PaWidth) (c : Chip) : AfterReset (State.resetOf w c) :=
  ⟨rfl, rfl, rfl, rfl, rfl, rfl, rfl, rstvAddr_add w⟩

theorem frameAt_powerOnReset_tt (s left : State) : (frameAt (powerOnReset s left) 6).tt = 1 :=
  congrArg TrapFrame.tt (Vector.getElem_set_self (by decide))

theorem afterReset_powerOnReset (s left : State) : AfterReset (powerOnReset s left) :=
  ⟨rfl, rfl, rfl, rfl, frameAt_powerOnReset_tt s left, rfl, rfl, rstvAddr_add s.paWidth⟩

theorem frameAt_warmReset (s : State) : frameAt (warmReset s) 6 = savedFrame s 1 :=
  (frameAt_setFrame (drawn s) 6 6 _).trans (if_pos rfl)

theorem afterReset_warmReset (s : State) : AfterReset (warmReset s) :=
  ⟨rfl, rfl, rfl, rfl, by rw [frameAt_warmReset]; rfl, rfl, redVector_eq s.paWidth 0x20, rfl⟩

/-- The values of the POR column alone, for the width and the strands of the machine. -/
def AfterPor (w : PaWidth) (c : Chip) (u : State) : Prop :=
  u.paWidth = w ∧ u.chip = c ∧ u.pstate.tle = false ∧ u.stick.npt = true ∧ u.tickCmpr.intDis = true ∧ u.tick.counter = 0
    ∧ u.stickCmpr.intDis = true ∧ u.hstickCmpr.intDis = true ∧ u.mmu.itlb = [] ∧ u.mmu.dtlb = []
    ∧ u.mmu.immuEnable = false ∧ u.mmu.dmmuEnable = false ∧ u.mmu.watch = 0 ∧ u.xirPending = false
    ∧ u.cmt = Cmt.afterPor c

theorem afterPor_resetOf (w : PaWidth) (c : Chip) : AfterPor w c (State.resetOf w c) :=
  ⟨rfl, rfl, rfl, rfl, rfl, rfl, rfl, rfl, rfl, rfl, rfl, rfl, rfl, rfl, rfl⟩

theorem afterPor_powerOnReset (s left : State) : AfterPor s.paWidth s.chip (powerOnReset s left) :=
  ⟨rfl, rfl, rfl, rfl, rfl, rfl, rfl, rfl, rfl, rfl, rfl, rfl, rfl, rfl, rfl⟩

/-- An externally initiated reset is pending where it was, or where the strand is selected and enabled (rules R1412, R1453). -/
theorem assertXir_xirPending (s : State) : (assertXir s).xirPending = (s.xirPending
    || (s.cmt.xirSteering.getLsbD s.chip.strand.toNat && s.cmt.enableStatus.getLsbD s.chip.strand.toNat)) := by
  rw [← BitVec.getLsbD_and, ← namesOwn_eq, assertXir]
  cases namesOwn s.chip (s.cmt.xirSteering &&& s.cmt.enableStatus) with
  | true => exact (Bool.or_true _).symm
  | false => exact (Bool.or_false _).symm

/-- Settles O12: each reset writes its column of TABLE 16-1 and keeps the rest. -/
theorem resetValues : Obligations.ResetValues := by
  refine ⟨?every, ?powerOn, rfl, fun s => ?warm, assertXir_xirPending⟩
  case every =>
    rintro u (rfl | ⟨w, c, rfl⟩ | ⟨s, left, rfl⟩ | ⟨s, rfl⟩)
    · exact afterReset_resetOf 7 singleStrand
    · exact afterReset_resetOf w c
    · exact afterReset_powerOnReset s left
    · exact afterReset_warmReset s
  case powerOn =>
    intro w c u hu
    have hpor : AfterPor w c u := by
      rcases hu with rfl | ⟨s, left, rfl, rfl, rfl⟩
      · exact afterPor_resetOf w c
      · exact afterPor_powerOnReset s left
    obtain ⟨hwidth, hchip, htle, hstick, htick, hcounter, hscmp, hhcmp, hitlb, hdtlb, hien, hden, hwatch, hxir, hcmt⟩ := hpor
    rw [hcmt]
    exact ⟨hwidth, hchip, htle, hstick, htick, hcounter, hscmp, hhcmp, hitlb, hdtlb, hien, hden, hwatch, hxir, rfl, rfl, rfl, rfl,
      fun n _ => getLsbD_lowestBit_all c.available n⟩
  case warm =>
    refine ⟨rfl, rfl, rfl, sameBytes_of rfl rfl, rfl, rfl, ?saved, rfl, rfl, rfl, rfl,
      fun n hn => getLsbD_select s.cmt.enable s.chip.available _ hn, rfl, rfl, rfl, rfl, rfl, rfl, rfl, rfl, rfl, rfl, rfl, rfl, rfl, rfl,
      rfl, rfl, rfl, rfl, rfl, rfl, rfl, rfl, fun n _ => getLsbD_lowestBit_all s.cmt.enable n⟩
    case saved =>
      rw [frameAt_warmReset]
      exact saved_savedFrame s 1

end Sys2Proof.Machine
